-- ==== Sys2Proof/Word.lean ====
section
/-! DEFINITION. The byte, the unit of every frame, block and memory of the part. -/

namespace Sys2Proof

/-- A byte of a frame (R199), of cartridge memory (R21) or of a staged block (R32). -/
abbrev Byte := BitVec 8

end Sys2Proof
end

