-- ==== Sys2Proof/Config.lean ====
section
/-! DEFINITION. The free values: what the specification leaves open and the part nevertheless decides.
Each is a constant with no body, so that no statement can rest on its value. The constants of the specification stand
with the operations that use them. -/

namespace Sys2Proof.Config

/-- Whether byte `pos` of the block written by the block write that loss of slot power cut short, the `use`-th such
write, holds the new byte (true) or the old one (false). R30 states that either may be: "may leave its 64-byte SRAM
block holding some bytes of the new data and some of the old". Log 6. -/
opaque tornByteIsNew (use pos : Nat) : Bool

/-- The byte REGION_INFO writes in its memory field for selector `i` when the entry names no memory (an EMPTY entry, or
a rejected one that is no SAMPLE, SAVE or DAYS entry). R19 lists "ROM or SRAM" and states no value there. Log 14. -/
opaque memoryFieldOfNoMemory (i : Nat) : Byte

/-- Whether a frame that both ends a voice and newly sets an enabled mixer flag queues VOICE_END before MIX_FLAGS.
R138 and R147 state no order between the two. Log 11. -/
opaque voiceEndQueuedFirst (use : Nat) : Bool

/-- The tag the outcome record takes at a SAVE_COMMIT that ends an empty transaction, from the slot's tag and the
SAVE_COMMIT's. R39 and R51 state none there. Log 25. -/
opaque emptyCommitTag (slotTag commitTag : Byte) : Byte

end Sys2Proof.Config
end

