-- ==== Sys2Proof/Syntax.lean ====
section
/-! DEFINITION. The commands: one constructor of `Instr` for each row of spec/opcode_table.json, in the table's order. -/

namespace Sys2Proof

/-- A request frame as its block receives it: tag, level and payload bytes (R199). Its start byte, length and check byte
have passed the frame check of R186 and R187; its kind is the constructor that carries it. -/
structure Request where
  tag     : Byte
  level   : Byte
  payload : List Byte
deriving DecidableEq, Repr

/-- The 48 request kinds, in the order of their codes (R199). -/
inductive Kind where
  | ident
  | noticeFetch
  | noticeMask
  | titleReset
  | regionInfo
  | regionPresent
  | saveRead
  | saveBegin
  | saveWrite
  | saveCommit
  | saveAbandon
  | saveStatus
  | lockSet
  | lockClear
  | lockOpen
  | eraseArm
  | erase
  | masterSet
  | lockFreeze
  | clockRead
  | dateToDay
  | dayToDate
  | clockSet
  | clockTrim
  | daysConfig
  | counterArm
  | counterDisarm
  | counterAck
  | counterRead
  | dayTest
  | voiceSetup
  | voicePitch
  | voiceLevel
  | voiceRamp
  | voiceKeyOn
  | voiceKeyOff
  | voiceStop
  | voiceRead
  | mixConfig
  | mixFlags
  | rumbleDefine
  | rumblePlay
  | rumbleCancel
  | rumbleFollow
  | rumbleHold
  | rumbleRead
  | supplyRead
  | cellCheck
deriving DecidableEq, Repr

/-- The commands of spec/opcode_table.json. A request kind carries the frame it was received in. -/
inductive Instr where
  /-- IDENT -/
  | ident (q : Request)
  /-- NOTICE_FETCH -/
  | noticeFetch (q : Request)
  /-- NOTICE_MASK -/
  | noticeMask (q : Request)
  /-- TITLE_RESET -/
  | titleReset (q : Request)
  /-- TITLE_RESET_TAKEN: the TITLE_RESET reply's check byte has been sent (R197) -/
  | titleResetTaken
  /-- REGION_INFO -/
  | regionInfo (q : Request)
  /-- REGION_PRESENT -/
  | regionPresent (q : Request)
  /-- SAVE_READ -/
  | saveRead (q : Request)
  /-- SAVE_BEGIN -/
  | saveBegin (q : Request)
  /-- SAVE_WRITE -/
  | saveWrite (q : Request)
  /-- SAVE_COMMIT -/
  | saveCommit (q : Request)
  /-- SAVE_ABANDON -/
  | saveAbandon (q : Request)
  /-- SAVE_STATUS -/
  | saveStatus (q : Request)
  /-- LOCK_SET -/
  | lockSet (q : Request)
  /-- LOCK_CLEAR -/
  | lockClear (q : Request)
  /-- LOCK_OPEN -/
  | lockOpen (q : Request)
  /-- ERASE_ARM -/
  | eraseArm (q : Request)
  /-- ERASE -/
  | erase (q : Request)
  /-- MASTER_SET -/
  | masterSet (q : Request)
  /-- LOCK_FREEZE -/
  | lockFreeze (q : Request)
  /-- CLOCK_READ -/
  | clockRead (q : Request)
  /-- DATE_TO_DAY -/
  | dateToDay (q : Request)
  /-- DAY_TO_DATE -/
  | dayToDate (q : Request)
  /-- CLOCK_SET -/
  | clockSet (q : Request)
  /-- CLOCK_TRIM -/
  | clockTrim (q : Request)
  /-- DAYS_CONFIG -/
  | daysConfig (q : Request)
  /-- COUNTER_ARM -/
  | counterArm (q : Request)
  /-- COUNTER_DISARM -/
  | counterDisarm (q : Request)
  /-- COUNTER_ACK -/
  | counterAck (q : Request)
  /-- COUNTER_READ -/
  | counterRead (q : Request)
  /-- DAY_TEST -/
  | dayTest (q : Request)
  /-- VOICE_SETUP -/
  | voiceSetup (q : Request)
  /-- VOICE_PITCH -/
  | voicePitch (q : Request)
  /-- VOICE_LEVEL -/
  | voiceLevel (q : Request)
  /-- VOICE_RAMP -/
  | voiceRamp (q : Request)
  /-- VOICE_KEY_ON -/
  | voiceKeyOn (q : Request)
  /-- VOICE_KEY_OFF -/
  | voiceKeyOff (q : Request)
  /-- VOICE_STOP -/
  | voiceStop (q : Request)
  /-- VOICE_READ -/
  | voiceRead (q : Request)
  /-- MIX_CONFIG -/
  | mixConfig (q : Request)
  /-- MIX_FLAGS -/
  | mixFlags (q : Request)
  /-- RUMBLE_DEFINE -/
  | rumbleDefine (q : Request)
  /-- RUMBLE_PLAY -/
  | rumblePlay (q : Request)
  /-- RUMBLE_CANCEL -/
  | rumbleCancel (q : Request)
  /-- RUMBLE_FOLLOW -/
  | rumbleFollow (q : Request)
  /-- RUMBLE_HOLD -/
  | rumbleHold (q : Request)
  /-- RUMBLE_READ -/
  | rumbleRead (q : Request)
  /-- SUPPLY_READ -/
  | supplyRead (q : Request)
  /-- CELL_CHECK -/
  | cellCheck (q : Request)
  /-- UNKNOWN_KIND: a whole frame with a matching check byte whose kind code is undefined (R190) -/
  | unknownKind (kind : Byte) (q : Request)
  /-- FRAME_ERROR: a received frame with a length above 64 (no payload or check byte is then read) or a check byte that does not match (R187) -/
  | frameError (kind tag level length : Byte) (payload : List Byte) (check : Byte)
  /-- SELECTION_WITHOUT_FRAME: a selection whose first byte is not C3h (R186) -/
  | selectionWithoutFrame (first : Byte)
  /-- SELECTION_END: release of LSEL (R189) -/
  | selectionEnd
  /-- SRST_ASSERTION: the reset line is asserted (R198) -/
  | srstAssertion
  /-- SRST_RELEASE: the reset line is released (R198) -/
  | srstRelease
  /-- VSLOT_THRESHOLD_CHANGE: VSLOT crosses a threshold and now stands at `mv` millivolts (R173) -/
  | vslotThresholdChange (mv : Nat)
  /-- OFF_TO_START: VSLOT has been at 3.0 V or more for 16 ms (R173); `retained`: the battery domain kept power since the last start-up (R181) -/
  | offToStart (retained : Bool)
  /-- NORMAL_TO_LOW: VSLOT has been below 3.0 V for 8 ms (R173) -/
  | normalToLow
  /-- LOW_TO_NORMAL: VSLOT has been at 3.1 V or more for 64 ms (R173) -/
  | lowToNormal
  /-- WARN_ENTRY: VSLOT falls below 2.8 V, to `mv` millivolts (R174) -/
  | warnEntry (mv : Nat)
  /-- WARN_RECOVERY: VSLOT has been at 2.9 V or more for 64 ms (R175) -/
  | warnRecovery
  /-- SUPPLY_OFF: VSLOT falls below 2.5 V in WARN, to `mv` millivolts (R185) -/
  | supplyOff (mv : Nat)
  /-- CELL_MEASUREMENT_COMPLETION: the sixteenth tick of a measurement; the loaded cell stands at `mv` millivolts (R179) -/
  | cellMeasurementCompletion (mv : Nat)
  /-- DIRECTORY_LOAD_BURST_COMPLETION: a directory burst completes (R1); `bus`: bytes the ROM drove, see log 5 -/
  | directoryLoadBurstCompletion (bus : List Byte)
  /-- LINK_OPEN: start-up passes into phase 5 (R182) -/
  | linkOpen
  /-- SCAN_STEP_COMPLETION: a scan step's burst completes (R64) -/
  | scanStepCompletion (bus : List Byte)
  /-- DAY_BLOCK_LOAD: start-up phase 7 (R118) -/
  | dayBlockLoad
  /-- REFILL_COMPLETION: a voice refill's burst completes (R137) -/
  | refillCompletion (bus : List Byte)
  /-- LINK_READ_COMPLETION: a link read's burst completes (R42) -/
  | linkReadCompletion (bus : List Byte)
  /-- COMMIT_STEP_COMPLETION: a commit step's burst completes (R45) -/
  | commitStepCompletion (bus : List Byte)
  /-- CLOCK_TICK: a tick of the calendar divider (R82) -/
  | clockTick
  /-- MINUTE_BOUNDARY: the tick that is a minute boundary (R83) -/
  | minuteBoundary
  /-- END_OF_RANGE: the tick that is the end of range (R84) -/
  | endOfRange
  /-- DAY_TURN: the tick that is a day turn (R87, R88) -/
  | dayTurn
  /-- FRAME: an audio frame, one period of the crystal (R131) -/
  | frame
  /-- ENVELOPE_TICK: a tick, as the sound engine takes it (R134) -/
  | envelopeTick
  /-- RUMBLE_TICK: a tick, as the rumble driver takes it (R159) -/
  | rumbleTick
  /-- HEAT_TICK: the rumble driver's tick that is a heat tick (R166) -/
  | heatTick
  /-- HOLD_TIMER_EXPIRY: the rumble driver's tick at which the hold timer runs out (R169) -/
  | holdTimerExpiry
  /-- STEP_END: the rumble driver's tick at which a pattern step ends (R160) -/
  | stepEnd
deriving DecidableEq, Repr

/-- The command a request of kind `k` is. -/
def requestOf (k : Kind) (q : Request) : Instr :=
  match k with
  | .ident => .ident q
  | .noticeFetch => .noticeFetch q
  | .noticeMask => .noticeMask q
  | .titleReset => .titleReset q
  | .regionInfo => .regionInfo q
  | .regionPresent => .regionPresent q
  | .saveRead => .saveRead q
  | .saveBegin => .saveBegin q
  | .saveWrite => .saveWrite q
  | .saveCommit => .saveCommit q
  | .saveAbandon => .saveAbandon q
  | .saveStatus => .saveStatus q
  | .lockSet => .lockSet q
  | .lockClear => .lockClear q
  | .lockOpen => .lockOpen q
  | .eraseArm => .eraseArm q
  | .erase => .erase q
  | .masterSet => .masterSet q
  | .lockFreeze => .lockFreeze q
  | .clockRead => .clockRead q
  | .dateToDay => .dateToDay q
  | .dayToDate => .dayToDate q
  | .clockSet => .clockSet q
  | .clockTrim => .clockTrim q
  | .daysConfig => .daysConfig q
  | .counterArm => .counterArm q
  | .counterDisarm => .counterDisarm q
  | .counterAck => .counterAck q
  | .counterRead => .counterRead q
  | .dayTest => .dayTest q
  | .voiceSetup => .voiceSetup q
  | .voicePitch => .voicePitch q
  | .voiceLevel => .voiceLevel q
  | .voiceRamp => .voiceRamp q
  | .voiceKeyOn => .voiceKeyOn q
  | .voiceKeyOff => .voiceKeyOff q
  | .voiceStop => .voiceStop q
  | .voiceRead => .voiceRead q
  | .mixConfig => .mixConfig q
  | .mixFlags => .mixFlags q
  | .rumbleDefine => .rumbleDefine q
  | .rumblePlay => .rumblePlay q
  | .rumbleCancel => .rumbleCancel q
  | .rumbleFollow => .rumbleFollow q
  | .rumbleHold => .rumbleHold q
  | .rumbleRead => .rumbleRead q
  | .supplyRead => .supplyRead q
  | .cellCheck => .cellCheck q

end Sys2Proof
end

