-- ==== Sys2Proof/Machine/State.lean ====
section
/-! DEFINITION. State: everything the specification gives the part, as plain data, one sub-record for each owner of
00_scope.md section 2, and the machine right after its first start-up transition. INVENTORY.md lists every field with
the rule that names it. -/

namespace Sys2Proof.Machine

/-! ## Statuses (00_scope.md section 5) -/

inductive Status where
  | ok | started | okDamaged
  | frameError | unknownKind | badLength | badLevel | notReady | busy
  | noEntry | notPresent | denied | wrongKind | readOnly | outOfBounds | locked
  | noTransaction | stagingFull | power | password | triesExhausted | frozen | notArmed
  | badValue | clockUnset | queueFull
deriving DecidableEq, Repr

/-! ## Supply monitor (chapter 10) -/

/-- R173. -/
inductive SupplyState where
  | off | start | normal | low | warn
deriving DecidableEq, Repr

/-- R178. -/
inductive CellState where
  | unknown | good | weak | flat
deriving DecidableEq, Repr

/-- R182: the retention result. -/
inductive Retention where
  | unknown | intact | lost
deriving DecidableEq, Repr

/-- R173: one qualification timer for each transition with a hold time, running (true) or cleared. How long a timer has
run is the sender's to know (log 3). -/
structure Timers where
  offToStart  : Bool := false
  normalToLow : Bool := false
  lowToNormal : Bool := false
  warnToLow   : Bool := false
  warnToStart : Bool := false
deriving DecidableEq, Repr

/-- The supply monitor's records: R173, R178 to R180, R182. `vslot` is the level of the input VSLOT in millivolts. -/
structure Supply where
  state        : SupplyState := .start
  vslot        : Nat := 3000
  timers       : Timers := {}
  phase        : Nat := 1
  retention    : Retention := .unknown
  waiting      : Bool := false
  cell         : CellState := .unknown
  reading      : Nat := 0
  measuring    : Bool := false
  checkWaiting : Bool := false
deriving DecidableEq, Repr

/-! ## Region directory (chapter 1) -/

/-- R8, R20. -/
inductive DirResult where
  | notYet | loaded | absent | badHeader
deriving DecidableEq, Repr

/-- R19. -/
inductive Standing where
  | accepted | empty | rejected
deriving DecidableEq, Repr

/-- R3: the rejection reasons, in the order of its table. -/
inductive Reason where
  | none | badKind | badLevel | zeroLength | writeOnSample | misaligned | outsideMemory | overlap | wrongSize
  | secondDays | badTarget | outsideTarget
deriving DecidableEq, Repr

/-- One entry of the region table (section 1.3). `kind` is the kind code as loaded (R201: EMPTY 0, SAMPLE 1, SAVE 2,
DAYS 3, ALIAS 4); `level`, `write`, `presentFlag`, `base`, `length` and `target` are as loaded; `present` is the present
flag (R11) and `writeRight` the effective write right (R5, R7). The default is an entry never read. R19 gives such an entry
its standing, kind, reason, write right and present flag; that level, loaded flags, base and length are 0 is the model's
choice (log 13). -/
structure Entry where
  standing    : Standing := .empty
  reason      : Reason := .none
  kind        : Nat := 0
  level       : Nat := 0
  write       : Bool := false
  presentFlag : Bool := false
  base        : Nat := 0
  length      : Nat := 0
  target      : Nat := 0
  present     : Bool := false
  writeRight  : Bool := false
deriving DecidableEq, Repr

/-- R1: the burst of the directory load that is posted or in flight. -/
inductive LoadStep where
  | header
  | entry (i : Nat)
deriving DecidableEq, Repr

/-- The region directory's records. Sizes are in bytes, 0 while unknown (R2). -/
structure Directory where
  result   : DirResult := .notYet
  count    : Nat := 0
  rejected : Nat := 0
  revision : Nat := 0
  romSize  : Nat := 0
  sramSize : Nat := 0
  loading  : Option LoadStep := none
  entries  : Vector Entry 24 := Vector.replicate 24 {}
deriving DecidableEq, Repr

/-- The two cartridge memories (R15). -/
inductive MemoryKind where
  | rom | sram
deriving DecidableEq, Repr

/-- R15: what a successful resolution hands the requesting block. -/
structure Window where
  selector : Nat
  level    : Nat
  target   : Nat
  memory   : MemoryKind
  base     : Nat
  length   : Nat
  offset   : Nat
  write    : Bool
deriving DecidableEq, Repr

/-! ## Memory port (chapter 2) -/

/-- R21: the three transfers of a commit step. -/
inductive StepDir where
  | read | write | readBack
deriving DecidableEq, Repr

/-- A commit step: 64 bytes of SRAM at `addr`; `data` are the bytes written, and for a read-back the bytes expected. -/
structure CommitStep where
  dir  : StepDir
  addr : Nat
  data : List Byte
deriving DecidableEq, Repr

/-- A link read: `count` bytes of SRAM at `addr`, for a SAVE_READ of target region `region` (R42). -/
structure LinkRead where
  addr   : Nat
  count  : Nat
  region : Nat
deriving DecidableEq, Repr

/-- The burst in progress (R21). `stale`: its bytes are to be discarded or its reply is lost (R31). -/
inductive Burst where
  | refill (voice addr count : Nat) (stale : Bool)
  | linkRead (r : LinkRead) (stale : Bool)
  | commit (c : CommitStep)
  | scan (addr : Nat)
  | directory (addr : Nat)
deriving DecidableEq, Repr

/-- The port's records: the burst in progress, the waiting requests (R22), the passed set (R27), the round-robin mark
(R25) and the anti-starvation count (R26). Start-up values by R30. -/
structure Port where
  burst      : Option Burst := none
  refills    : List Nat := []
  linkRead   : Option LinkRead := none
  commit     : Option CommitStep := none
  scan       : Option Nat := none
  directory  : Option Nat := none
  passed     : List Nat := []
  mark       : Nat := 7
  starvation : Nat := 0
deriving DecidableEq, Repr

/-! ## Save engine (chapters 3 and 4) -/

/-- R59. -/
inductive RecordState where
  | unchecked | valid | damaged | blank
deriving DecidableEq, Repr

/-- R69. -/
inductive LockState where
  | none | locked | opened
deriving DecidableEq, Repr

/-- R58. -/
inductive LockLevel where
  | high | maximum
deriving DecidableEq, Repr

/-- R58: a region record. The default is the record of R68. -/
structure Record where
  state      : RecordState := .blank
  generation : Nat := 0
  check      : Nat := 0
  lock       : LockState := .none
  lockLevel  : LockLevel := .high
  password   : Option (List Byte) := none
deriving DecidableEq, Repr

/-- R32: a staged block. `bytes` holds its 64 positions: `some b` where a requester has written `b`, `none` elsewhere
(the position is then outside the written set and its data byte is 00h, R38). -/
structure StagedBlock where
  index : Nat
  bytes : List (Option Byte)
deriving DecidableEq, Repr

/-- The journal's two slots (section 3.1). -/
inductive SlotId where
  | title | clock
deriving DecidableEq, Repr

/-- R33, R35. -/
inductive SlotState where
  | free | collecting | pending | copying
deriving DecidableEq, Repr

/-- R33. -/
inductive SlotKind where
  | write | erase
deriving DecidableEq, Repr

/-- R33: a slot record, and the slot's staged blocks in first-touch order (R32). `order` is 0 for none. -/
structure Slot where
  state    : SlotState := .free
  held     : Bool := false
  kind     : SlotKind := .write
  target   : Nat := 0
  base     : Nat := 0
  length   : Nat := 0
  offset   : Nat := 0
  selector : Nat := 0
  level    : Nat := 0
  tag      : Byte := 0
  order    : Nat := 0
  faults   : Nat := 0
  fullPass : Bool := false
  zeroBase : Bool := false
  blocks   : List StagedBlock := []
deriving DecidableEq, Repr

/-- R51. -/
inductive SaveOp where
  | commit | erase | rollForward
deriving DecidableEq, Repr

/-- R51. -/
inductive SaveOutcome where
  | committed | rolledForward | discarded | fault | faultDiscarded
deriving DecidableEq, Repr

/-- R51: the outcome record; SAVE_DONE carries the same fields (R52). -/
structure OutcomeRecord where
  target      : Nat
  tag         : Byte
  op          : SaveOp
  outcome     : SaveOutcome
  faultOffset : Option Nat
deriving DecidableEq, Repr

/-- The kept RAM (00_scope.md section 3): journal, region records, master password, outcome record, retention mark
(intact or lost, R181). -/
structure Kept where
  title   : Slot := {}
  clock   : Slot := {}
  queue   : List SlotId := []
  outcome : Option OutcomeRecord := none
  records : Vector Record 24 := Vector.replicate 24 {}
  master  : Option (List Byte) := none
  mark    : Bool := false
deriving DecidableEq, Repr

/-- Where a copy stands: the k-th staged block (R45), or block b of the pass part (R46). -/
inductive CopyPart where
  | staged (k : Nat)
  | pass (b : Nat)
deriving DecidableEq, Repr

/-- The copy in progress (R44 to R46): its slot, its position, the direction of the step posted or in flight, the
running check, the fresh sum, and the old and the new bytes of the block at hand. -/
structure Copy where
  slot     : SlotId
  part     : CopyPart
  dir      : StepDir
  running  : Nat
  fresh    : Nat
  oldBlock : List Byte
  newBlock : List Byte
deriving DecidableEq, Repr

/-- The scan in progress (R64, R65): the region, the block whose step is posted or in flight, and the scan sum of the
blocks before it. -/
structure Scan where
  region : Nat
  block  : Nat
  sum    : Nat
deriving DecidableEq, Repr

/-- The save engine: kept RAM, and its slot-domain state (R57, R58, R65, R69). -/
structure Save where
  kept   : Kept := {}
  copy   : Option Copy := none
  scan   : Option Scan := none
  tries  : Vector Nat 24 := Vector.replicate 24 5
  frozen : Bool := false
deriving DecidableEq, Repr

/-! ## Calendar (chapters 5 and 6) -/

/-- R82. -/
inductive ClockState where
  | valid | unset
deriving DecidableEq, Repr

/-- R82: the calendar clock, battery domain. `adjust` and `early` are the adjustment count and its direction (R83);
`divider` counts the frames since the last tick. The direction starts as late, and a count that is cleared keeps its
direction: no rule gives it then, and with the count at 0 it has no effect (log 26). -/
structure Clock where
  state        : ClockState := .unset
  subsecond    : Nat := 0
  second       : Nat := 0
  day          : Nat := 0
  trim         : Int := 0
  adjust       : Nat := 0
  early        : Bool := false
  pendingLimit : Bool := false
  divider      : Nat := 0
deriving DecidableEq, Repr

/-- R100. -/
inductive CounterState where
  | disarmed | armed | due
deriving DecidableEq, Repr

/-- R100. -/
structure Counter where
  state     : CounterState := .disarmed
  remaining : Nat := 0
  period    : Nat := 0
  passes    : Nat := 0
deriving DecidableEq, Repr

/-- R99: the working copy of the day block and its flags, slot domain. `handed` are the bytes of the DAYS region that
the scan handed over (R118). -/
structure Days where
  inService  : Bool := false
  turnSecond : Nat := 0
  highDay    : Option Int := none
  counters   : Vector Counter 8 := Vector.replicate 8 {}
  dirty      : Bool := false
  rebuilt    : Bool := false
  behind     : Bool := false
  sticky     : Bool := false
  handed     : Option (List Byte) := none
deriving DecidableEq, Repr

/-! ## Sound engine (chapters 7 and 8) -/

/-- R120. -/
inductive VoiceState where
  | idle | playing | releasing
deriving DecidableEq, Repr

/-- R120. -/
inductive Format where
  | pcm8 | pcm16 | pulse | noise
deriving DecidableEq, Repr

/-- R120: a voice record, with the defaults of its table. `endPos` is the field "end"; `window` the cached window's ROM
base and length; `run` the prefetch buffer's bytes with the ROM address of each, `runOffset` its run offset (R135). -/
structure Voice where
  state       : VoiceState := .idle
  format      : Format := .pulse
  window      : Option (Nat × Nat) := none
  startPos    : Nat := 0
  loopStart   : Nat := 0
  endPos      : Nat := 8
  looping     : Bool := true
  duty        : Nat := 4
  rate        : Nat := 4096
  index       : Nat := 0
  fraction    : Nat := 0
  priming     : Bool := false
  e           : Nat := 0
  target      : Nat := 1023
  step        : Nat := 64
  releaseStep : Nat := 64
  volume      : Nat := 127
  pan         : Nat := 64
  noise       : BitVec 15 := 0x7FFF#15
  last        : Int := 0
  run         : List Host.Cell := []
  runOffset   : Nat := 0
deriving DecidableEq, Repr

/-- R143. -/
inductive Rounding where
  | nearest | zero | floor | ceiling
deriving DecidableEq, Repr

/-- Section 8.1. `flags` holds the eight sticky flags in the bit order of R200; `enables` the kinds CLIP, STARVE, FADE,
INEXACT at bits 0 to 3 (R199); `left` and `right` the output sample last computed (R144). Defaults by R152. -/
structure Mixer where
  master  : Nat := 256
  mode    : Rounding := .nearest
  output  : Bool := false
  flags   : BitVec 8 := 0
  enables : BitVec 4 := 0
  left    : Int := 0
  right   : Int := 0
deriving DecidableEq, Repr

/-! ## Rumble driver (chapter 9) -/

/-- R156: a step of a pattern. -/
structure PatternStep where
  strength : Nat
  duration : Nat
deriving DecidableEq, Repr

/-- R157: a player entry. `stepIndex` and `ticksLeft` are the current entry's; a waiting entry holds 0 there. -/
structure PlayerEntry where
  pattern   : Nat
  priority  : Nat
  playsLeft : Nat
  arrival   : Nat
  stepIndex : Nat := 0
  ticksLeft : Nat := 0
deriving DecidableEq, Repr

/-- R154. `follow` is a voice and a gain; `timer` the hold timer's ticks left when it runs; `heat` is Q. -/
structure Rumble where
  patterns     : Vector (List PatternStep) 16 := Vector.replicate 16 []
  current      : Option PlayerEntry := none
  waiting      : List PlayerEntry := []
  arrival      : Nat := 0
  follow       : Option (Nat × Nat) := none
  hold         : Nat := 0
  timer        : Option Nat := none
  heat         : Nat := 0
  limiter      : Bool := false
  heatCount    : Nat := 0
  ceiling      : Nat := 0
  applied      : Nat := 0
  lastFollow   : Nat := 0
  lastDemand   : Nat := 0
deriving DecidableEq, Repr

/-! ## Link interface (chapter 11) -/

/-- R66. -/
inductive RegionReason where
  | scanMismatch | verifyFault | rebuilt
deriving DecidableEq, Repr

/-- R86, R104. -/
inductive ClockReport where
  | unset | set | behind | ahead | limit
deriving DecidableEq, Repr

/-- R138. -/
inductive VoiceEndReason where
  | ended | released
deriving DecidableEq, Repr

/-- R145, in the order of priority. -/
inductive FlagKind where
  | clip | starve | fade | inexact
deriving DecidableEq, Repr

/-- R171. -/
inductive RumbleReport where
  | finished | preempted | displaced | limitOn | limitOff | holdExpired | shed
deriving DecidableEq, Repr

/-- A notice's detail (R192, R200); its constructor is its kind. Sets are bit masks (R199). -/
inductive Notice where
  | supplyChange (s : SupplyState)
  | cellState (c : CellState) (mv : Nat)
  | saveDone (r : OutcomeRecord)
  | regionState (region : Nat) (s : RecordState) (why : RegionReason)
  | dayDue (counters : BitVec 8) (passes : Nat)
  | clockState (r : ClockReport)
  | dayUnordered (day : Nat)
  | mixFlags (flags : BitVec 8) (highest : FlagKind)
  | voiceEnd (voices : BitVec 8) (why : VoiceEndReason)
  | rumbleState (r : RumbleReport)
deriving DecidableEq, Repr

/-- R192: an entry of the notice queue. -/
structure NoticeEntry where
  count  : Nat
  notice : Notice
deriving DecidableEq, Repr

/-- R77: an erase arm. -/
structure Arm where
  selector : Nat
  level    : Nat
deriving DecidableEq, Repr

/-- R188: a reply, before it is framed. -/
structure Reply where
  status  : Status
  tag     : Byte
  payload : List Byte
deriving DecidableEq, Repr

/-- The selection in progress. `quiet`: its first byte was not C3h (R186). `awaiting`: a SAVE_READ's reply waits for its
link read (R42). `replying`: a reply stands; `resetDue`: it is TITLE_RESET's and the title reset is still to be taken
(R197). A selection whose frame is not yet whole has had no effect and is not told from none (log 4). -/
inductive Selection where
  | none
  | quiet
  | awaiting (tag : Byte)
  | replying (r : Reply) (resetDue : Bool)
deriving DecidableEq, Repr

/-- The link interface's records: R77, R186 to R193. -/
structure Link where
  selection : Selection := .none
  latch     : Option Arm := none
  queue     : List NoticeEntry := []
  mask      : BitVec 10 := 0x3FF#10
deriving DecidableEq, Repr

/-! ## The machine -/

/-- The part, the two memories beside it, and the model's own `pending` (commands waiting, first in first out) and
`free` (the number of uses of a free value so far). `srst`: the reset line SRST is asserted. -/
structure State where
  pending : List Instr := []
  free    : Nat := 0
  srst    : Bool := false
  rom     : List Host.Cell := []
  sram    : List Host.Cell := []
  supply  : Supply := {}
  link    : Link := {}
  dir     : Directory := {}
  port    : Port := {}
  save    : Save := {}
  clock   : Clock := {}
  days    : Days := {}
  voices  : Vector Voice 8 := Vector.replicate 8 {}
  mixer   : Mixer := {}
  rumble  : Rumble := {}
deriving DecidableEq, Repr

/-- No meaning faults: the specification names no condition that stops the part. Every error it describes is an effect
on `State` (a reply status, a record's state, a flag, a notice). -/
inductive Fault where
deriving DecidableEq, Repr

inductive Refusal where
  /-- Raised by an arm of `exec` whose command has no meaning yet. Safe: the machine stops. No arm raises it now. -/
  | notModelled (mnemonic : String)
deriving DecidableEq, Repr

/-- The machine right after its first OFF → START transition (R173, R182): the slot domain at its start-up values, phase
1 with its measurement begun (R179), and a battery domain that has never been powered: the retention mark lost (R181)
and kept RAM and the clock at the values that R68 and R96 give them in phase 2 (DESIGN CHOICE, log 1). -/
def State.reset : State := { supply := { measuring := true } }

end Sys2Proof.Machine
end

