-- ==== Sys2Proof/Machine/Operands.lean ====
section
/-! DEFINITION. Operand forms: the fields of request payloads and replies as R199 lays them out, the codes of every
enumeration, and the table of request kinds. -/

namespace Sys2Proof.Machine

/-! ## Little-endian numbers -/

/-- The number whose little-endian bytes are `bs` (00_scope.md section 4.3). -/
def leNat : List Byte → Nat
  | [] => 0
  | b :: bs => b.toNat + 256 * leNat bs

/-- The `n` low bytes of `v`, least significant first. -/
def leBytes : Nat → Nat → List Byte
  | 0, _ => []
  | n + 1, v => BitVec.ofNat 8 v :: leBytes n (v / 256)

/-- The unsigned field of `n` bytes at `off` of a payload. -/
def field (bs : List Byte) (off n : Nat) : Nat := leNat ((bs.drop off).take n)

/-- `v`, a field of `n` bytes, read as two's complement (R199). -/
def signedOf (n v : Nat) : Int := if v < 2 ^ (8 * n - 1) then v else (v : Int) - 2 ^ (8 * n)

/-- A signed reply field of `n` bytes (R199). -/
def leInt (n : Nat) (v : Int) : List Byte := leBytes n (v % 2 ^ (8 * n)).toNat

/-- An absent unsigned field or enumeration of `n` bytes: all bits set (R199). -/
def absentField (n : Nat) : List Byte := List.replicate n 0xFF#8

/-- An absent signed field of `n` bytes: all bits but the top one set (R199). -/
def absentSigned (n : Nat) : List Byte := leBytes n (2 ^ (8 * n - 1) - 1)

/-- An unsigned field of `n` bytes that may be absent. -/
def optField (n : Nat) : Option Nat → List Byte
  | some v => leBytes n v
  | none => absentField n

/-- A signed field of `n` bytes that may be absent. -/
def optSigned (n : Nat) : Option Int → List Byte
  | some v => leInt n v
  | none => absentSigned n

/-- A flag or yes/no report: 0 or 1 (log 13). -/
def flagCode (b : Bool) : Nat := if b then 1 else 0

end Sys2Proof.Machine

namespace Sys2Proof

/-! ## Request payload fields -/

/-- The one-byte field at `off`. -/
def Request.byte (q : Request) (off : Nat) : Nat := Machine.field q.payload off 1

/-- The two-byte field at `off`. -/
def Request.word (q : Request) (off : Nat) : Nat := Machine.field q.payload off 2

/-- The three-byte field at `off` (sample positions). -/
def Request.triple (q : Request) (off : Nat) : Nat := Machine.field q.payload off 3

/-- The four-byte field at `off` (offsets, bases, lengths). -/
def Request.quad (q : Request) (off : Nat) : Nat := Machine.field q.payload off 4

/-- The eight-byte password at `off`. -/
def Request.password (q : Request) (off : Nat) : List Byte := (q.payload.drop off).take 8

/-- The requester level as a number (00_scope.md section 4.2). -/
def Request.rank (q : Request) : Nat := q.level.toNat

end Sys2Proof

namespace Sys2Proof.Machine

/-- A choice field: 0 for no, off or OFF, 1 for yes, on or ON, any other value malformed (R199). -/
def choice (v : Nat) : Option Bool :=
  if v = 0 then some false else if v = 1 then some true else none

/-! ## Enumeration codes (R199: numbered from 0 in the order in which the owning rule first lists the values) -/

/-- 00_scope.md section 5. -/
def statusCode : Status → Byte
  | .ok => 0x00#8 | .started => 0x01#8 | .okDamaged => 0x02#8
  | .frameError => 0x10#8 | .unknownKind => 0x11#8 | .badLength => 0x12#8 | .badLevel => 0x13#8 | .notReady => 0x14#8
  | .busy => 0x15#8
  | .noEntry => 0x20#8 | .notPresent => 0x21#8 | .denied => 0x22#8 | .wrongKind => 0x23#8 | .readOnly => 0x24#8
  | .outOfBounds => 0x25#8 | .locked => 0x26#8
  | .noTransaction => 0x30#8 | .stagingFull => 0x31#8 | .power => 0x32#8 | .password => 0x33#8
  | .triesExhausted => 0x34#8 | .frozen => 0x35#8 | .notArmed => 0x36#8
  | .badValue => 0x40#8 | .clockUnset => 0x41#8 | .queueFull => 0x42#8

/-- R173, R199. -/
def supplyCode : SupplyState → Nat
  | .off => 0 | .start => 1 | .normal => 2 | .low => 3 | .warn => 4

/-- R200. -/
def cellCode : CellState → Nat
  | .unknown => 0 | .good => 1 | .weak => 2 | .flat => 3

/-- R182. -/
def retentionCode : Retention → Nat
  | .unknown => 0 | .intact => 1 | .lost => 2

/-- R20. -/
def dirResultCode : DirResult → Nat
  | .notYet => 0 | .loaded => 1 | .absent => 2 | .badHeader => 3

/-- R19. -/
def standingCode : Standing → Nat
  | .accepted => 0 | .empty => 1 | .rejected => 2

/-- R3, R199: the codes in the order of R3's table. That NONE, which R19 reports unless REJECTED, is the code 0 before
them, and not the FFh of an absent field, is the model's choice (log 13). -/
def reasonCode : Reason → Nat
  | .none => 0 | .badKind => 1 | .badLevel => 2 | .zeroLength => 3 | .writeOnSample => 4 | .misaligned => 5
  | .outsideMemory => 6 | .overlap => 7 | .wrongSize => 8 | .secondDays => 9 | .badTarget => 10 | .outsideTarget => 11

/-- R19: "ROM or SRAM". -/
def memoryCode : MemoryKind → Nat
  | .rom => 0 | .sram => 1

/-- R200. -/
def recordStateCode : RecordState → Nat
  | .unchecked => 0 | .valid => 1 | .damaged => 2 | .blank => 3

/-- R58, R19: "NONE, LOCKED, OPEN". R69 lists the same three as NONE, OPEN, LOCKED; the record's rule is followed
(log 13). -/
def lockCode : LockState → Nat
  | .none => 0 | .locked => 1 | .opened => 2

/-- R70: the lock level of a request. -/
def lockLevelOf (v : Nat) : Option LockLevel :=
  if v = 0 then some .high else if v = 1 then some .maximum else none

/-- The mode of LOCK_OPEN and ERASE (R72, R79): TITLE 0, MASTER 1. -/
inductive Mode where
  | title | master
deriving DecidableEq, Repr

/-- R72. -/
def modeOf (v : Nat) : Option Mode := if v = 0 then some .title else if v = 1 then some .master else none

/-- R33. -/
def slotStateCode : SlotState → Nat
  | .free => 0 | .collecting => 1 | .pending => 2 | .copying => 3

/-- R33. -/
def slotKindCode : SlotKind → Nat
  | .write => 0 | .erase => 1

/-- Section 3.1: the title slot, then the clock slot. -/
def slotIdCode : SlotId → Nat
  | .title => 0 | .clock => 1

/-- R200. -/
def saveOpCode : SaveOp → Nat
  | .commit => 0 | .erase => 1 | .rollForward => 2

/-- R200. -/
def saveOutcomeCode : SaveOutcome → Nat
  | .committed => 0 | .rolledForward => 1 | .discarded => 2 | .fault => 3 | .faultDiscarded => 4

/-- R82. -/
def clockStateCode : ClockState → Nat
  | .valid => 0 | .unset => 1

/-- R202. -/
def counterStateCode : CounterState → Nat
  | .disarmed => 0 | .armed => 1 | .due => 2

/-- R120. -/
def voiceStateCode : VoiceState → Nat
  | .idle => 0 | .playing => 1 | .releasing => 2

/-- R120. -/
def formatCode : Format → Nat
  | .pcm8 => 0 | .pcm16 => 1 | .pulse => 2 | .noise => 3

/-- R122: the format of a request. -/
def formatOf (v : Nat) : Option Format :=
  match v with
  | 0 => some .pcm8 | 1 => some .pcm16 | 2 => some .pulse | 3 => some .noise
  | _ => none

/-- R199. -/
def roundingCode : Rounding → Nat
  | .nearest => 0 | .zero => 1 | .floor => 2 | .ceiling => 3

/-- R149: the rounding mode of a request. -/
def roundingOf (v : Nat) : Option Rounding :=
  match v with
  | 0 => some .nearest | 1 => some .zero | 2 => some .floor | 3 => some .ceiling
  | _ => none

/-- R200. -/
def regionReasonCode : RegionReason → Nat
  | .scanMismatch => 0 | .verifyFault => 1 | .rebuilt => 2

/-- R200. -/
def clockReportCode : ClockReport → Nat
  | .unset => 0 | .set => 1 | .behind => 2 | .ahead => 3 | .limit => 4

/-- R200. -/
def voiceEndCode : VoiceEndReason → Nat
  | .ended => 0 | .released => 1

/-- R200. -/
def flagKindCode : FlagKind → Nat
  | .clip => 0 | .starve => 1 | .fade => 2 | .inexact => 3

/-- R200. -/
def rumbleReportCode : RumbleReport → Nat
  | .finished => 0 | .preempted => 1 | .displaced => 2 | .limitOn => 3 | .limitOff => 4 | .holdExpired => 5 | .shed => 6

/-! ## The request kinds (R199, R191, R183) -/

/-- R199: the code of a request kind. -/
def kindCode : Kind → Byte
  | .ident => 0x01#8
  | .noticeFetch => 0x02#8
  | .noticeMask => 0x03#8
  | .titleReset => 0x04#8
  | .regionInfo => 0x08#8
  | .regionPresent => 0x09#8
  | .saveRead => 0x10#8
  | .saveBegin => 0x11#8
  | .saveWrite => 0x12#8
  | .saveCommit => 0x13#8
  | .saveAbandon => 0x14#8
  | .saveStatus => 0x15#8
  | .lockSet => 0x18#8
  | .lockClear => 0x19#8
  | .lockOpen => 0x1A#8
  | .eraseArm => 0x1B#8
  | .erase => 0x1C#8
  | .masterSet => 0x1D#8
  | .lockFreeze => 0x1E#8
  | .clockRead => 0x20#8
  | .dateToDay => 0x21#8
  | .dayToDate => 0x22#8
  | .clockSet => 0x23#8
  | .clockTrim => 0x24#8
  | .daysConfig => 0x28#8
  | .counterArm => 0x29#8
  | .counterDisarm => 0x2A#8
  | .counterAck => 0x2B#8
  | .counterRead => 0x2C#8
  | .dayTest => 0x2D#8
  | .voiceSetup => 0x30#8
  | .voicePitch => 0x31#8
  | .voiceLevel => 0x32#8
  | .voiceRamp => 0x33#8
  | .voiceKeyOn => 0x34#8
  | .voiceKeyOff => 0x35#8
  | .voiceStop => 0x36#8
  | .voiceRead => 0x37#8
  | .mixConfig => 0x38#8
  | .mixFlags => 0x39#8
  | .rumbleDefine => 0x40#8
  | .rumblePlay => 0x41#8
  | .rumbleCancel => 0x42#8
  | .rumbleFollow => 0x43#8
  | .rumbleHold => 0x44#8
  | .rumbleRead => 0x45#8
  | .supplyRead => 0x48#8
  | .cellCheck => 0x49#8

/-- The 48 kinds. -/
def allKinds : List Kind :=
  [.ident, .noticeFetch, .noticeMask, .titleReset, .regionInfo, .regionPresent, .saveRead, .saveBegin,
   .saveWrite, .saveCommit, .saveAbandon, .saveStatus, .lockSet, .lockClear, .lockOpen, .eraseArm,
   .erase, .masterSet, .lockFreeze, .clockRead, .dateToDay, .dayToDate, .clockSet, .clockTrim,
   .daysConfig, .counterArm, .counterDisarm, .counterAck, .counterRead, .dayTest, .voiceSetup, .voicePitch,
   .voiceLevel, .voiceRamp, .voiceKeyOn, .voiceKeyOff, .voiceStop, .voiceRead, .mixConfig, .mixFlags,
   .rumbleDefine, .rumblePlay, .rumbleCancel, .rumbleFollow, .rumbleHold, .rumbleRead, .supplyRead, .cellCheck]

/-- R190 step 2: the kind of a code, if it is one of the 48. -/
def kindOfCode (c : Byte) : Option Kind := allKinds.find? (fun k => kindCode k == c)

/-- R199, R190 step 3: whether a payload of `n` bytes suits kind `k`. -/
def lengthSuits (k : Kind) (n : Nat) : Bool :=
  match k with
  | .ident | .noticeFetch | .titleReset | .saveCommit | .saveAbandon | .saveStatus | .lockFreeze | .clockRead
  | .rumbleRead | .supplyRead | .cellCheck => n == 0
  | .regionInfo | .saveBegin | .eraseArm | .counterDisarm | .counterAck | .counterRead | .voiceKeyOn | .voiceStop
  | .voiceRead | .rumbleCancel => n == 1
  | .noticeMask | .regionPresent | .dayToDate | .clockTrim | .mixFlags | .rumbleHold => n == 2
  | .voicePitch | .voiceLevel | .voiceKeyOff | .rumblePlay | .rumbleFollow => n == 3
  | .dateToDay | .daysConfig | .mixConfig => n == 4
  | .counterArm | .voiceRamp => n == 5
  | .saveRead => n == 6
  | .dayTest => n == 7
  | .masterSet | .clockSet => n == 8
  | .lockClear => n == 9
  | .lockSet | .lockOpen | .erase => n == 10
  | .voiceSetup => n == 14
  | .saveWrite => decide (5 ≤ n ∧ n ≤ 60)
  | .rumbleDefine => decide (n % 3 = 1 ∧ n ≤ 64)

/-- R191: the least trusted level at which kind `k` passes the level check. -/
def leastTrusted : Kind → Nat
  | .regionPresent | .masterSet | .lockFreeze | .clockSet | .clockTrim => 0
  | .titleReset | .lockSet | .lockClear | .eraseArm | .erase | .daysConfig | .counterArm | .counterDisarm
  | .counterAck => 1
  | _ => 2

/-- R183: the start-up phase from which kind `k` is taken; `hasDays`: the cartridge has a DAYS region. -/
def takenFromPhase (k : Kind) (hasDays : Bool) : Nat :=
  match k with
  | .ident | .supplyRead => 1
  | .counterArm | .counterDisarm | .counterAck | .counterRead | .daysConfig => 8
  | .dayTest => if hasDays then 8 else 5
  | _ => 5

end Sys2Proof.Machine
end

