-- ==== Sys2Proof/Machine/Check.lean ====
section
/-! DEFINITION. The two check computations: the CRC-8 of frames and of the directory header (R187, R201), and the
one's-complement check of a region (R60, R61). -/

namespace Sys2Proof.Machine

/-! ## CRC-8 (R187; worked in section 12.4) -/

/-- One shift of the CRC register: left by one, and 07h XORed in when the bit leaving the top was 1. -/
def crcShift (r : BitVec 8) : BitVec 8 := if r.msb then (r <<< 1) ^^^ 0x07#8 else r <<< 1

/-- One byte into the CRC register: XORed in, then eight shifts. -/
def crcByte (r b : BitVec 8) : BitVec 8 :=
  crcShift (crcShift (crcShift (crcShift (crcShift (crcShift (crcShift (crcShift (r ^^^ b))))))))

/-- R187: the CRC-8 of a byte string, initial value 00h, no final inversion. -/
def crc8 (bs : List Byte) : BitVec 8 := bs.foldl crcByte 0

/-! ## The region check (R60, R61) -/

/-- R60: addition with the end-around carry. -/
def addCarry (a w : Nat) : Nat := if a + w < 0x10000 then a + w else a + w - 0x10000 + 1

/-- R60: the little-endian words of a byte string; byte 2j is the low half of word j. -/
def wordsOf : List Byte → List Nat
  | lo :: hi :: bs => (lo.toNat + 256 * hi.toNat) :: wordsOf bs
  | _ => []

/-- R60: the words of a block added to a check. -/
def addBlock (sum : Nat) (block : List Byte) : Nat := (wordsOf block).foldl addCarry sum

/-- R61: the negations of the words of a block added to a check, which takes the block away. -/
def removeBlock (sum : Nat) (block : List Byte) : Nat := (wordsOf block).foldl (fun a w => addCarry a (0xFFFF - w)) sum

/-- R60: two checks compare equal when they are the same, or one is 0000h and the other FFFFh. -/
def checksEqual (a b : Nat) : Bool := a == b || (a == 0 && b == 0xFFFF) || (a == 0xFFFF && b == 0)

end Sys2Proof.Machine
end

