-- ==== Sys2Proof/Machine/Ceiling.lean ====
section
/-! DEFINITION. The rumble ceiling and applied strength (R164, R165), and the lines that are functions of the state. -/

namespace Sys2Proof.Machine

/-- The slot domain is running (R173). -/
def slotUp (s : State) : Bool := s.supply.state != .off

/-- The supply is WARN. -/
def inWarn (s : State) : Bool := s.supply.state == .warn

/-- R174: the budget B of a supply state. -/
def budget : SupplyState → Nat
  | .normal => 100
  | .low => 45
  | .off | .start | .warn => 0

/-- R150: the output reservation stands. -/
def outputReservation (s : State) : Bool := s.mixer.output && slotUp s && !inWarn s

/-- R44: the save engine reports a copy in progress. -/
def copyReported (s : State) : Bool := s.save.copy.isSome

/-- R164: the units of the reservations that stand. -/
def reservedUnits (s : State) : Nat :=
  (if outputReservation s then 10 else 0) + (if copyReported s then 15 else 0)

/-- R164: the ceiling C. -/
def ceilingOf (s : State) : Nat := min 255 ((budget s.supply.state - reservedUnits s) * 255 / 75)

/-- R165: the applied strength A from a demand, a ceiling and the limiter. -/
def appliedFrom (demand ceiling : Nat) (limiter : Bool) : Nat :=
  if limiter then min (min demand ceiling) 96 else min demand ceiling

/-- R165: C recomputed, and A from the demand of the last tick. -/
def recompute (s : State) : State :=
  { s with rumble := { s.rumble with
      ceiling := ceilingOf s
      applied := appliedFrom s.rumble.lastDemand (ceilingOf s) s.rumble.limiter } }

/-- R194: LATN is asserted. -/
def latn (s : State) : Bool := slotUp s && decide (5 ≤ s.supply.phase) && !s.link.queue.isEmpty

/-- R144, R151: the value pin AOL presents. -/
def aol (s : State) : Int := if outputReservation s then s.mixer.left else 0

/-- R144, R151: the value pin AOR presents. -/
def aor (s : State) : Int := if outputReservation s then s.mixer.right else 0

/-- R165: the strength at which pin MDRV drives the motor, in 255ths of full duty; none while it is not driven (OFF). -/
def mdrv (s : State) : Option Nat := if slotUp s then some s.rumble.applied else none

end Sys2Proof.Machine
end

