-- ==== Sys2Proof/Machine/Memory.lean ====
section
/-! DEFINITION. The two cartridge memories as lists of cells, and what a burst reads and writes of them (R21). -/

namespace Sys2Proof.Machine

/-- What an address that no cell lists reads as. DESIGN CHOICE (log 5): the specification states no contents. -/
def unlistedByte : Byte := 0x00#8

/-- The byte at address `a`. -/
def readByte : List Host.Cell → Nat → Byte
  | [], _ => unlistedByte
  | (k, b) :: m, a => if k = a then b else readByte m a

/-- The `n` bytes from address `a`. -/
def readBytes (m : List Host.Cell) : Nat → Nat → List Byte
  | _, 0 => []
  | a, n + 1 => readByte m a :: readBytes m (a + 1) n

/-- The memory with byte `v` at address `a`, in canonical form. -/
def writeByte : List Host.Cell → Nat → Byte → List Host.Cell
  | [], a, v => if v = unlistedByte then [] else [(a, v)]
  | (k, b) :: m, a, v =>
    if a < k then (if v = unlistedByte then (k, b) :: m else (a, v) :: (k, b) :: m)
    else if a = k then (if v = unlistedByte then m else (k, v) :: m)
    else (k, b) :: writeByte m a v

/-- The memory with the bytes `bs` from address `a` on. -/
def writeBytes (m : List Host.Cell) (a : Nat) : List Byte → List Host.Cell
  | [] => m
  | b :: bs => writeBytes (writeByte m a b) (a + 1) bs

/-- The canonical form: addresses strictly rising from `low`, and no cell equal to what an unlisted address reads as. -/
def canonicalFrom (low : Nat) : List Host.Cell → Bool
  | [] => true
  | (k, b) :: m => decide (low ≤ k) && b != unlistedByte && canonicalFrom (k + 1) m

/-- The canonical form of a memory. -/
def Memory.wf (m : List Host.Cell) : Bool := canonicalFrom 0 m

/-- The `n` bytes a burst reads from address `a`: those the memory drove as the completion reports them in `bus`, and
the held contents for the positions beyond `bus` (log 5). -/
def burstBytes (m : List Host.Cell) (a n : Nat) (bus : List Byte) : List Byte :=
  bus.take n ++ (readBytes m a n).drop bus.length

end Sys2Proof.Machine
end

