-- ==== Sys2Proof/Machine/Notices.lean ====
section
/-! DEFINITION. The notice queue: kinds, folding and queueing (R192), and the notice record (R200). -/

namespace Sys2Proof.Machine

/-- The number of a notice's kind, 1 to 10 (00_scope.md section 6). -/
def noticeKind : Notice → Nat
  | .supplyChange _ => 1
  | .cellState _ _ => 2
  | .saveDone _ => 3
  | .regionState _ _ _ => 4
  | .dayDue _ _ => 5
  | .clockState _ => 6
  | .dayUnordered _ => 7
  | .mixFlags _ _ => 8
  | .voiceEnd _ _ => 9
  | .rumbleState _ => 10

/-- R192: the detail of an entry into which a notice of the same kind folds: sets are joined, scalars are the newest. -/
def foldNotice (old new : Notice) : Notice :=
  match old, new with
  | .dayDue c _, .dayDue c' p => .dayDue (c ||| c') p
  | .mixFlags f _, .mixFlags f' h => .mixFlags (f ||| f') h
  | .voiceEnd v _, .voiceEnd v' w => .voiceEnd (v ||| v') w
  | _, n => n

/-- R192: a queue that has taken a notice: folded into the pending entry of its kind, or added at the tail. -/
def enqueue : List NoticeEntry → Notice → List NoticeEntry
  | [], n => [⟨1, n⟩]
  | x :: xs, n =>
    if noticeKind x.notice = noticeKind n then ⟨min 255 (x.count + 1), foldNotice x.notice n⟩ :: xs
    else x :: enqueue xs n

/-- R192: a block queues notice `n`; a kind not in the mask is discarded. -/
def notify (n : Notice) (s : State) : State :=
  if s.link.mask.getLsbD (noticeKind n - 1) then
    { s with link := { s.link with queue := enqueue s.link.queue n } }
  else s

/-- R200: the detail bytes of a notice record. -/
def noticeDetail : Notice → List Byte
  | .supplyChange st => leBytes 1 (supplyCode st)
  | .cellState c mv => leBytes 1 (cellCode c) ++ leBytes 2 mv
  | .saveDone r =>
    leBytes 1 (saveOpCode r.op) ++ leBytes 1 r.target ++ [r.tag] ++ leBytes 1 (saveOutcomeCode r.outcome)
      ++ optField 4 r.faultOffset
  | .regionState i st w => leBytes 1 i ++ leBytes 1 (recordStateCode st) ++ leBytes 1 (regionReasonCode w)
  | .dayDue c p => leBytes 1 c.toNat ++ leBytes 2 p
  | .clockState r => leBytes 1 (clockReportCode r)
  | .dayUnordered d => leBytes 2 d
  | .mixFlags f h => leBytes 1 f.toNat ++ leBytes 1 (flagKindCode h)
  | .voiceEnd v w => leBytes 1 v.toNat ++ leBytes 1 (voiceEndCode w)
  | .rumbleState r => leBytes 1 (rumbleReportCode r)

/-- R200: the notice record of an entry. -/
def noticeRecord (x : NoticeEntry) : List Byte :=
  leBytes 1 (noticeKind x.notice) ++ leBytes 1 x.count ++ noticeDetail x.notice

end Sys2Proof.Machine
end

