-- ==== Sys2Proof/Machine/Region.lean ====
section
/-! DEFINITION. The region table's accessors, region records, and resolution (R10 to R15). -/

namespace Sys2Proof.Machine

/-! ## Kind codes of the directory (R201) -/

def kindEmpty : Nat := 0
def kindSample : Nat := 1
def kindSave : Nat := 2
def kindDays : Nat := 3
def kindAlias : Nat := 4

/-- Entry `i` of the region table. -/
def entryAt (s : State) (i : Nat) : Entry := s.dir.entries[i]?.getD {}

/-- Selector `i` names an accepted entry of a resolvable table (R8, R9; R13 step 1). -/
def isAccepted (s : State) (i : Nat) : Bool :=
  decide (i < 24) && s.dir.result == .loaded && (entryAt s i).standing == .accepted

/-- R58: the record place of selector `i` is in use: an accepted SAVE entry or the DAYS region. -/
def inUse (s : State) (i : Nat) : Bool :=
  isAccepted s i && ((entryAt s i).kind == kindSave || (entryAt s i).kind == kindDays)

/-- R6: the selector of the DAYS region, if the cartridge has one. -/
def daysRegion (s : State) : Option Nat :=
  (List.range 24).find? (fun i => isAccepted s i && (entryAt s i).kind == kindDays)

/-- The memory an entry's window lies in (section 1.3). -/
def memoryOf (s : State) (en : Entry) : MemoryKind :=
  if en.kind = kindSample then .rom
  else if en.kind = kindAlias ∧ (entryAt s en.target).kind = kindSample then .rom
  else .sram

/-- R15: the window an accepted entry names, for a requester of level `q`. -/
def windowOf (s : State) (i q : Nat) : Window :=
  let en := entryAt s i
  let isAlias := en.kind = kindAlias
  { selector := i
    level := q
    target := if isAlias then en.target else i
    memory := memoryOf s en
    base := if isAlias then (entryAt s en.target).base + en.base else en.base
    length := en.length
    offset := if isAlias then en.base else 0
    write := en.writeRight }

/-- R13 step 5: the resolved kind; an alias has its target's. -/
def resolvedKind (s : State) (i : Nat) : Nat :=
  let en := entryAt s i
  if en.kind = kindAlias then (entryAt s en.target).kind else en.kind

/-! ## Region records (R58) -/

/-- The record of selector `i`. -/
def recordAt (s : State) (i : Nat) : Record := s.save.kept.records[i]?.getD {}

/-- The record of selector `i` replaced, as one update of kept RAM (R35). -/
def setRecord (i : Nat) (r : Record) (s : State) : State :=
  { s with save := { s.save with kept := { s.save.kept with records := s.save.kept.records.setIfInBounds i r } } }

/-- The tries of region `i` (R69). -/
def triesAt (s : State) (i : Nat) : Nat := s.save.tries[i]?.getD 0

/-- The tries of region `i` replaced. -/
def setTries (i n : Nat) (s : State) : State :=
  { s with save := { s.save with tries := s.save.tries.setIfInBounds i n } }

/-! ## Resolution (R13) -/

/-- What step 7 of R13 tests of the target's record: nothing (SAMPLE), UNCHECKED alone (the lock and erase requests,
R14), or UNCHECKED and then LOCKED. -/
inductive RecordTest where
  | none | uncheckedOnly | uncheckedAndLocked
deriving DecidableEq, Repr

/-- The outcome of a resolution. -/
inductive Resolution where
  | refused (st : Status)
  | window (w : Window)
deriving DecidableEq, Repr

/-- R13 step 7. -/
def recordRefusal (s : State) (target : Nat) : RecordTest → Option Status
  | .none => .none
  | .uncheckedOnly => if (recordAt s target).state = .unchecked then some .notReady else .none
  | .uncheckedAndLocked =>
    if (recordAt s target).state = .unchecked then some .notReady
    else if (recordAt s target).lock = .locked then some .locked
    else .none

/-- R13: the checks on selector `i` for a requester of level `q`, needed kind `need`, access (`write`), record test and
bounds test, in order. The first that fails gives the status. -/
def resolve (s : State) (i q need : Nat) (write : Bool) (test : RecordTest) (fits : Window → Bool) : Resolution :=
  let en := entryAt s i
  let w := windowOf s i q
  if !isAccepted s i then .refused .noEntry
  else if !en.present then .refused .notPresent
  else if en.level < q then .refused .denied
  else if en.kind = kindAlias ∧ !(entryAt s en.target).present then .refused .notPresent
  else if resolvedKind s i ≠ need then .refused .wrongKind
  else if write && !w.write then .refused .readOnly
  else match recordRefusal s w.target test with
    | some st => .refused st
    | .none => if fits w then .window w else .refused .outOfBounds

/-- R14: resolution for the save requests, which test the lock. -/
def resolveSave (s : State) (i q : Nat) (write : Bool) (fits : Window → Bool) : Resolution :=
  resolve s i q kindSave write .uncheckedAndLocked fits

/-- R14: resolution for the lock and erase requests, which leave out the LOCKED test. -/
def resolveLock (s : State) (i q : Nat) (write : Bool) : Resolution :=
  resolve s i q kindSave write .uncheckedOnly (fun _ => true)

end Sys2Proof.Machine
end

