-- ==== Sys2Proof/Machine/Journal.lean ====
section
/-! DEFINITION. The journal: slots, pending queue and pending orders (R32 to R34), and the commit engine's taking of a
slot and posting of steps (R44 to R46, R53). -/

namespace Sys2Proof.Machine

/-! ## Slots -/

/-- The slot record of `id`. -/
def slotAt (s : State) : SlotId → Slot
  | .title => s.save.kept.title
  | .clock => s.save.kept.clock

/-- The other slot. -/
def otherSlot : SlotId → SlotId
  | .title => .clock
  | .clock => .title

/-- Kept RAM replaced, as one update (R35). -/
def setKept (k : Kept) (s : State) : State := { s with save := { s.save with kept := k } }

/-- The slot record of `id` replaced. -/
def setSlot (id : SlotId) (sl : Slot) (s : State) : State :=
  match id with
  | .title => setKept { s.save.kept with title := sl } s
  | .clock => setKept { s.save.kept with clock := sl } s

/-- The pending queue replaced. -/
def setQueue (q : List SlotId) (s : State) : State := setKept { s.save.kept with queue := q } s

/-- The outcome record written (R51). -/
def setOutcome (r : OutcomeRecord) (s : State) : State := setKept { s.save.kept with outcome := some r } s

/-- R34: the pending order of `id` made `n`. -/
def setOrder (id : SlotId) (n : Nat) (s : State) : State := setSlot id { slotAt s id with order := n } s

/-- R34: slot `id` becomes PENDING, not held, and joins the tail of the pending queue. It takes order 2, and the other
slot order 1, when the other has an order; else it takes order 1. -/
def joinQueue (id : SlotId) (s : State) : State :=
  let other := otherSlot id
  let s1 := setSlot id { slotAt s id with state := .pending, held := false } s
  let s2 := setQueue (s.save.kept.queue ++ [id]) s1
  if (slotAt s other).order = 0 then setOrder id 1 s2 else setOrder other 1 (setOrder id 2 s2)

/-- R33: the record of a slot that becomes FREE. Target, window, selector and level stand, meaningless, until it is
taken again. -/
def freedSlot (sl : Slot) : Slot :=
  { sl with state := .free, held := false, kind := .write, tag := 0, order := 0, faults := 0, fullPass := false,
            zeroBase := false, blocks := [] }

/-- R33, R34: slot `id` becomes FREE; its blocks return to the pool, and the other slot's order, if any, becomes 1. -/
def freeSlot (id : SlotId) (s : State) : State :=
  let other := otherSlot id
  let s1 := setSlot id (freedSlot (slotAt s id)) s
  if (slotAt s other).order = 0 then s1 else setOrder other 1 s1

/-! ## Regions as the commit engine sees them -/

/-- The absolute base of a slot's target region. A target that the table does not hold is taken from the slot's own
window (log 16). -/
def regionBase (s : State) (sl : Slot) : Nat :=
  if inUse s sl.target then (entryAt s sl.target).base else sl.base - sl.offset

/-- L, the length of a slot's target region (R46). Of a target that the table does not hold it is taken to end where the
slot's own window ends: the window's offset in the target and the window's length together (log 16). -/
def regionLength (s : State) (sl : Slot) : Nat :=
  if inUse s sl.target then (entryAt s sl.target).length else sl.offset + sl.length

/-- 64 bytes of 00h. -/
def zeroBlock : List Byte := List.replicate 64 0x00#8

/-- R45 step 2: the new block takes the staged byte at each written position and the old byte at every other. -/
def formBlock : List (Option Byte) → List Byte → List Byte
  | some b :: staged, _ :: old => b :: formBlock staged old
  | none :: staged, o :: old => o :: formBlock staged old
  | _, _ => []

/-- R46: the pass part writes block `b` as zeros: every block of an erase, and with the zero base each block that has no
staged block. -/
def passWrites (sl : Slot) (b : Nat) : Bool :=
  sl.kind == .erase || (sl.zeroBase && !(sl.blocks.any (fun x => x.index == b)))

/-- The region block that a position of the copy works on. -/
def partBlock (sl : Slot) : CopyPart → Nat
  | .staged k => ((sl.blocks[k]?).map StagedBlock.index).getD 0
  | .pass b => b

/-- The staged bytes of the k-th staged block. -/
def stagedBytes (sl : Slot) (k : Nat) : List (Option Byte) := ((sl.blocks[k]?).map StagedBlock.bytes).getD []

/-! ## Posting steps -/

/-- The copy's present step posted at the memory port (R22). -/
def postStep (c : Copy) (s : State) : State :=
  let sl := slotAt s c.slot
  { s with
    save := { s.save with copy := some c }
    port := { s.port with
      commit := some ⟨c.dir, regionBase s sl + 64 * partBlock sl c.part, c.newBlock⟩ } }

/-- The first step of a position posted. A staged block is read, or with the zero base formed over zeros and written
(R45); a block of the pass part is written as zeros or read (R46). -/
def beginPart (c : Copy) (part : CopyPart) (s : State) : State :=
  let sl := slotAt s c.slot
  match part with
  | .staged k =>
    if sl.zeroBase then
      postStep { c with part := part, dir := .write, oldBlock := zeroBlock,
                        newBlock := formBlock (stagedBytes sl k) zeroBlock } s
    else postStep { c with part := part, dir := .read, oldBlock := zeroBlock, newBlock := zeroBlock } s
  | .pass b =>
    if passWrites sl b then
      postStep { c with part := part, dir := .write, oldBlock := zeroBlock, newBlock := zeroBlock } s
    else postStep { c with part := part, dir := .read, oldBlock := zeroBlock, newBlock := zeroBlock } s

/-- R44, R53: slot `id` leaves the queue and becomes COPYING, not held; its zero base is set when the target record is
BLANK and the kind WRITE; roll-forward (`rolling`) sets the full-pass flag. The running check starts at the stored
check and the fresh sum at 0000h, and the first step is posted. The record is that of the slot's target, read also where
no directory entry names the target (log 16). -/
def startCopy (id : SlotId) (rolling : Bool) (s : State) : State :=
  let sl := slotAt s id
  let rec0 := recordAt s sl.target
  let sl' := { sl with state := .copying, held := false, fullPass := sl.fullPass || rolling,
                       zeroBase := rec0.state == .blank && sl.kind == .write }
  let s1 := setQueue (s.save.kept.queue.filter (· ≠ id)) (setSlot id sl' s)
  beginPart ⟨id, .staged 0, .read, rec0.check, 0, zeroBlock, zeroBlock⟩
    (if sl.blocks.isEmpty then .pass 0 else .staged 0) s1

/-- R44: once phase 4 has completed, the engine takes the head of the pending queue whenever no slot is COPYING. -/
def takeHead (s : State) : State :=
  match s.save.copy, s.save.kept.queue with
  | none, id :: _ => if 5 ≤ s.supply.phase then startCopy id false s else s
  | _, _ => s

/-- A slot that roll-forward takes (R53). -/
def rollsForward (sl : Slot) : Bool := sl.state == .pending || sl.state == .copying

/-- R53: the slot roll-forward takes next, in pending order. -/
def nextToRoll (s : State) : Option SlotId :=
  let t := rollsForward s.save.kept.title
  let c := rollsForward s.save.kept.clock
  if t && c then (if s.save.kept.title.order ≤ s.save.kept.clock.order then some .title else some .clock)
  else if t then some .title
  else if c then some .clock
  else none

/-- R63: the close of phase 4 on the records in use: VALID and DAMAGED become UNCHECKED, OPEN locks become LOCKED. -/
def closedRecord (r : Record) : Record :=
  { r with
    state := match r.state with | .valid | .damaged => .unchecked | st => st
    lock := if r.lock = .opened then .locked else r.lock }

/-- R63, R71: `f` applied to every record in use, as one update. -/
def mapRecords (f : Record → Record) (s : State) : State :=
  setKept { s.save.kept with
    records := Vector.ofFn (fun i : Fin 24 => if inUse s i then f s.save.kept.records[i] else s.save.kept.records[i]) } s

/-- R182: the passage out of a phase that completes is made, to phase `n`, if the supply is not WARN; otherwise it
waits, with the waiting flag set. -/
def passTo (n : Nat) (s : State) : State :=
  { s with supply :=
      if inWarn s then { s.supply with waiting := true } else { s.supply with phase := n, waiting := false } }

/-- R53, R63, R182: roll-forward goes on with its next slot; when there is none, phase 4 completes: the records are
marked, and the passage to phase 5 is made or waits. -/
def rollOn (s : State) : State :=
  match nextToRoll s with
  | some id => startCopy id true s
  | none => passTo 5 (mapRecords closedRecord s)

end Sys2Proof.Machine
end

