-- ==== Sys2Proof/Machine/DayBlock.lean ====
section
/-! DEFINITION. The day block: the game day (R101), catch-ups (R102 to R106), the durable layout (R202) and its load
checks (R118), and the fill of the clock slot (R50, R115). -/

namespace Sys2Proof.Machine

/-! ## The game day (R101) -/

/-- The cartridge has a DAYS region (R6). -/
def hasDays (s : State) : Bool := (daysRegion s).isSome

/-- R87, R101: the turn second in force: the working copy's while it is in service, else 0. -/
def turnSecond (s : State) : Nat := if s.days.inService then s.days.turnSecond else 0

/-- R101: G from the day number, the second of day and the turn second. -/
def gameDayOf (day second turn : Nat) : Int := if turn ≤ second then day else (day : Int) - 1

/-- R101: the game day; none while the clock is UNSET. -/
def gameDay (s : State) : Option Int :=
  match s.clock.state with
  | .unset => none
  | .valid => some (gameDayOf s.clock.day s.clock.second (turnSecond s))

/-! ## Counters (R105) -/

/-- R105: the counter comes due when advanced by `k`. -/
def comesDue (k : Nat) (c : Counter) : Bool := c.state == .armed && decide (c.remaining ≤ k)

/-- R105: a counter advanced by `k` game days. Only an ARMED counter moves. -/
def advanceCounter (k : Nat) (c : Counter) : Counter :=
  if c.state ≠ .armed then c
  else if k < c.remaining then { c with remaining := c.remaining - k }
  else if c.period = 0 then { c with state := .due, remaining := 0, passes := min 255 (c.passes + 1) }
  else
    let o := k - c.remaining
    { c with passes := min 255 (c.passes + 1 + o / c.period), remaining := c.period - o % c.period }

/-- The counter `i` of a day block. -/
def counterOf (cs : Vector Counter 8) (i : Nat) : Counter := cs[i]?.getD {}

/-- A set of indices below 8 as a bit mask (R199). -/
def maskOf (p : Nat → Bool) : BitVec 8 :=
  BitVec.ofNat 8 (((List.range 8).map (fun n => if p n then 2 ^ n else 0)).sum)

/-- R106: the total passes, the sum of the passes of all eight counters. -/
def totalPasses (cs : Vector Counter 8) : Nat := ((List.range 8).map (fun i => (counterOf cs i).passes)).sum

/-- R105: every counter advanced by `k`. -/
def advanceAll (k : Nat) (cs : Vector Counter 8) : Vector Counter 8 :=
  Vector.ofFn (fun i : Fin 8 => advanceCounter k cs[i])

/-! ## Catch-up (R102 to R106) -/

/-- The working copy replaced. -/
def setDays (d : Days) (s : State) : State := { s with days := d }

/-- R103, R104: the catch-up's update of the working copy, from the game day `g`. -/
def caughtUp (g : Int) (d : Days) : Days :=
  match d.highDay with
  | none => { d with highDay := some g, behind := false, dirty := true }
  | some h =>
    if g < h then { d with behind := true }
    else if g = h then { d with behind := false }
    else { d with highDay := some g, counters := advanceAll (g - h).toNat d.counters, behind := false, dirty := true }

/-- R103: the number of game days by which the catch-up advances the counters. -/
def catchUpBy (g : Int) (d : Days) : Nat :=
  match d.highDay with
  | none => 0
  | some h => (g - h).toNat

/-- R106: the counters that come due in the catch-up. -/
def dueSet (g : Int) (d : Days) : BitVec 8 :=
  if catchUpBy g d = 0 then 0 else maskOf (fun i => comesDue (catchUpBy g d) (counterOf d.counters i))

/-- R104: the catch-up queues BEHIND or AHEAD when it changes the behind flag. -/
def reportBehind (before after : Bool) (s : State) : State :=
  if before = after then s
  else notify (.clockState (if after then .behind else .ahead)) s

/-- R106: the catch-up queues DAY_DUE when a counter came due. -/
def reportDue (due : BitVec 8) (s : State) : State :=
  if due = 0 then s else notify (.dayDue due (totalPasses s.days.counters)) s

/-- R102: a catch-up runs while the clock is VALID and the working copy is in service; otherwise the day block is left
as it is. -/
def catchUp (s : State) : State :=
  if s.days.inService then
    match gameDay s with
    | none => s
    | some g =>
      reportDue (dueSet g s.days)
        (reportBehind s.days.behind (caughtUp g s.days).behind (setDays (caughtUp g s.days) s))
  else s

/-! ## The durable day block (R202) -/

/-- R202: the six bytes of a counter. -/
def counterBytes (c : Counter) : List Byte :=
  leBytes 1 (counterStateCode c.state) ++ leBytes 2 c.remaining ++ leBytes 2 c.period ++ leBytes 1 c.passes

/-- R202: the four bytes of the high day; none is 7FFF FFFFh. -/
def highDayBytes : Option Int → List Byte
  | some h => leInt 4 h
  | none => leBytes 4 0x7FFFFFFF

/-- R202: the 64 bytes of the day block. -/
def dayBlockBytes (d : Days) : List Byte :=
  leBytes 4 d.turnSecond ++ highDayBytes d.highDay
    ++ ((List.range 8).map (fun i => counterBytes (counterOf d.counters i))).flatten ++ List.replicate 8 0x00#8

/-- R202: the state of a counter from its code. -/
def counterStateOf (v : Nat) : Option CounterState :=
  match v with
  | 0 => some .disarmed | 1 => some .armed | 2 => some .due
  | _ => none

/-- R118: a counter passes the load checks. -/
def counterLoads (c : Counter) : Bool :=
  decide (c.passes ≤ 255) &&
  match c.state with
  | .disarmed => true
  | .armed => decide (1 ≤ c.remaining) && (c.period == 0 || decide (c.remaining ≤ c.period))
  | .due => c.period == 0 && c.remaining == 0

/-- R202, R118: the counter at byte 8 + 6i, if its state code is defined and it passes the load checks. -/
def loadCounter (bs : List Byte) (i : Nat) : Option Counter :=
  match counterStateOf (field bs (8 + 6 * i) 1) with
  | none => none
  | some st =>
    let c : Counter := ⟨st, field bs (9 + 6 * i) 2, field bs (11 + 6 * i) 2, field bs (13 + 6 * i) 1⟩
    if counterLoads c then some c else none

/-- R118, R202: the high day of a block, if it passes the load checks. -/
def loadHighDay (v : Nat) : Option (Option Int) :=
  if v = 0x7FFFFFFF then some none
  else if -1 ≤ signedOf 4 v ∧ signedOf 4 v ≤ 36524 then some (some (signedOf 4 v))
  else none

/-- R118: the turn second, high day and counters of a block that passes the load checks. -/
def loadDayBlock (bs : List Byte) : Option (Nat × Option Int × Vector Counter 8) :=
  match loadHighDay (field bs 4 4) with
  | none => none
  | some h =>
    if field bs 0 4 ≤ 86399 ∧ (List.range 8).all (fun i => (loadCounter bs i).isSome) then
      some (field bs 0 4, h, Vector.ofFn (fun i : Fin 8 => (loadCounter bs i).getD {}))
    else none

/-! ## The fill (R50, R115) -/

/-- R115: the conditions of a fill: in service, dirty, the clock slot FREE, the supply not WARN. -/
def fillDue (s : State) : Bool :=
  s.days.inService && s.days.dirty && s.save.kept.clock.state == .free && !inWarn s && slotUp s

/-- R50: the clock slot as the fill leaves it, before it joins the queue: one staged block of index 0 with all 64
positions written, and the full-pass flag set for a BLANK or DAMAGED record or a rebuilt block. -/
def filledClockSlot (s : State) (sel : Nat) : Slot :=
  { freedSlot s.save.kept.clock with
    target := sel, base := (entryAt s sel).base, length := (entryAt s sel).length, offset := 0, selector := 0, level := 0
    fullPass := (recordAt s sel).state == .blank || (recordAt s sel).state == .damaged || s.days.rebuilt
    blocks := [⟨0, (dayBlockBytes s.days).map some⟩] }

/-- R115, R50: the calendar fills the clock slot when the conditions hold; the dirty flag and the rebuilt mark are
cleared in the same update. -/
def fillClock (s : State) : State :=
  if fillDue s then
    match daysRegion s with
    | none => s
    | some sel =>
      joinQueue .clock
        (setDays { s.days with dirty := false, rebuilt := false } (setSlot .clock (filledClockSlot s sel) s))
  else s

end Sys2Proof.Machine
end

