-- ==== Sys2Proof/Machine/Port.lean ====
section
/-! DEFINITION. Voice prefetch buffers (R135, R136) and the memory port's arbiter (R22 to R29). -/

namespace Sys2Proof.Machine

/-! ## Voices as the port sees them -/

/-- The record of voice `n`. -/
def voiceAt (s : State) (n : Nat) : Voice := s.voices[n]?.getD {}

/-- The record of voice `n` replaced. -/
def setVoice (n : Nat) (v : Voice) (s : State) : State := { s with voices := s.voices.setIfInBounds n v }

/-- A format whose samples come from ROM. -/
def isPcm : Format → Bool
  | .pcm8 | .pcm16 => true
  | .pulse | .noise => false

/-- R14: bytes per sample. -/
def sampleBytes : Format → Nat
  | .pcm16 => 2
  | _ => 1

/-- R135: the bytes ahead. -/
def bytesAhead (v : Voice) : Nat := v.run.length - v.runOffset

/-- The base of the cached window (R17). -/
def windowBase (v : Voice) : Nat := match v.window with | some (b, _) => b | none => 0

/-- R136: B, the byte index of the end boundary. -/
def endBoundary (v : Voice) : Nat := v.endPos * sampleBytes v.format

/-- The byte index, within the window, that follows the run's last byte in ROM; none for an empty run. -/
def afterRun (v : Voice) : Option Nat := v.run.getLast?.map (fun c => c.1 + 1 - windowBase v)

/-- R135, condition 3: there is a byte in byte play order after the run's last byte. -/
def hasMore (v : Voice) : Bool :=
  match afterRun v with
  | none => true
  | some f => v.looping || decide (f < endBoundary v)

/-- R135: the three conditions under which the voice keeps a refill posted. -/
def wantsRefill (v : Voice) : Bool :=
  isPcm v.format && v.state != .idle && decide (bytesAhead v < 8) && hasMore v

/-- R23: the class of a refill, judged at the grant: urgent below 2 bytes ahead. -/
def isUrgent (s : State) (n : Nat) : Bool := decide (bytesAhead (voiceAt s n) < 2)

/-- R22, R28, R135, R140: the waiting refills are those of the voices that meet R135's conditions, none in WARN. -/
def postRefills (s : State) : State :=
  { s with port := { s.port with
      refills := if inWarn s then [] else (List.range 8).filter (fun n => wantsRefill (voiceAt s n)) } }

/-- R136 step 1: the trim at a grant. -/
def trimRun (v : Voice) : Voice :=
  if v.runOffset < v.run.length then { v with run := v.run.drop v.runOffset, runOffset := 0 }
  else { v with run := [], runOffset := 0 }

/-- R136 step 2: the fetch point, as a byte index within the window. -/
def fetchPoint (v : Voice) : Nat :=
  match afterRun v with
  | none => v.index * sampleBytes v.format
  | some f => if f = endBoundary v then v.loopStart * sampleBytes v.format else f

/-- R31, R137: a burst in flight for voice `n` will be discarded (the voice goes IDLE, is set up or is keyed on). -/
def staleRefill (n : Nat) (s : State) : State :=
  match s.port.burst with
  | some (.refill m a c st) =>
    if m = n then { s with port := { s.port with burst := some (.refill m a c true) } }
    else { s with port := { s.port with burst := some (.refill m a c st) } }
  | _ => s

/-! ## The arbiter -/

/-- R21: the request a grant goes to. -/
inductive Grant where
  | refill (n : Nat)
  | linkRead (r : LinkRead)
  | commit (c : CommitStep)
  | scan (a : Nat)
  | directory (a : Nat)
deriving DecidableEq, Repr

/-- R24, R25: the lowest-numbered voice with a waiting urgent refill that `ok` admits. -/
def lowestUrgent (s : State) (ok : Nat → Bool) : Option Nat :=
  (List.range 8).find? (fun n => s.port.refills.contains n && isUrgent s n && ok n)

/-- R25: the first voice with a waiting ordinary refill after the round-robin mark. -/
def nextOrdinary (s : State) : Option Nat :=
  ((List.range 8).map (fun k => (s.port.mark + 1 + k) % 8)).find?
    (fun n => s.port.refills.contains n && !isUrgent s n)

/-- R24, R26, R27: the classes below the forced grant, first to last. A voice in the passed set ranks after a waiting
link read. -/
def rankedGrants (s : State) : List (Option Grant) :=
  [ (lowestUrgent s (fun n => !(s.port.linkRead.isSome && s.port.passed.contains n))).map .refill,
    s.port.linkRead.map .linkRead,
    (lowestUrgent s (fun _ => true)).map .refill,
    s.port.commit.map .commit,
    s.port.scan.map .scan,
    (nextOrdinary s).map .refill,
    s.port.directory.map .directory ]

/-- R24 to R28: the request the arbiter chooses, if one may be granted: in WARN a commit step alone; otherwise the
forced grant of R26 when the count is 4, else the first of the ranked classes. -/
def chooseGrant (s : State) : Option Grant :=
  if inWarn s then s.port.commit.map .commit
  else if 4 ≤ s.port.starvation ∧ s.port.commit.isSome then s.port.commit.map .commit
  else (rankedGrants s).findSome? id

/-- R26: the anti-starvation count after a grant to a voice refill. -/
def starvationAfterRefill (s : State) : Nat := if s.port.commit.isSome then s.port.starvation + 1 else 0

/-- R23, R25 to R27, R136: a grant to the refill of voice `n`: the voice's run is trimmed and the burst's bytes chosen,
the passed set, mark and count change, and a voice that still meets R135's conditions posts again. -/
def grantRefill (n : Nat) (s : State) : State :=
  let v := trimRun (voiceAt s n)
  let f := fetchPoint v
  let urgent := isUrgent s n
  postRefills
    { s with
      voices := s.voices.setIfInBounds n v
      port := { s.port with
        burst := some (.refill n (windowBase v + f) (min 8 (endBoundary v - f)) false)
        passed := if urgent && s.port.linkRead.isSome then n :: s.port.passed else s.port.passed
        mark := if urgent then s.port.mark else n
        starvation := starvationAfterRefill s } }

/-- R22, R26, R27: the granted request leaves the waiting set and its burst is in progress. -/
def grantTo (s : State) : Grant → State
  | .refill n => grantRefill n s
  | .linkRead r => { s with port := { s.port with
      burst := some (.linkRead r false), linkRead := none, passed := [], starvation := 0 } }
  | .commit c => { s with port := { s.port with burst := some (.commit c), commit := none, starvation := 0 } }
  | .scan a => { s with port := { s.port with burst := some (.scan a), scan := none, starvation := 0 } }
  | .directory a => { s with port := { s.port with burst := some (.directory a), directory := none, starvation := 0 } }

/-- R21: a grant, when the bus is free and a waiting request may be granted. -/
def grant (s : State) : State :=
  match s.port.burst with
  | some _ => s
  | none =>
    match chooseGrant s with
    | none => s
    | some g => grantTo s g

/-- R31: the bus is free again. -/
def freeBus (s : State) : State := { s with port := { s.port with burst := none } }

end Sys2Proof.Machine
end

