-- ==== Sys2Proof/Machine/Ops.lean ====
section
/-! DEFINITION. The operations that commands of more than one family share: what an event sets off in its neighbours
(`settle`), title reset (R197), the end of a selection (R189), and the way of every request frame from its reception to
its reply (R77, R188 to R191). -/

namespace Sys2Proof.Machine

/-! ## What an event sets off -/

/-- What follows when an event has changed the conditions of R115 (fill), R44 (taking), R135 (refills), R165 (ceiling)
or R21 (grant): each acts when its own condition holds. One grant decision is made, over all requests the event posted
(log 10). -/
def settle (s : State) : State := grant (recompute (postRefills (takeHead (fillClock s))))

/-! ## Voices going IDLE (R121) -/

/-- R121: a voice goes IDLE. -/
def idleVoice (v : Voice) : Voice := { v with state := .idle, e := 0, priming := false, run := [], runOffset := 0 }

/-! ## Title reset (R197 and the table of section 11.5) -/

/-- R55: a COLLECTING title slot becomes FREE and the outcome record is written DISCARDED. -/
def resetJournal (s : State) : State :=
  let sl := s.save.kept.title
  if sl.state = .collecting then
    setOutcome ⟨sl.target, sl.tag, .commit, .discarded, none⟩ (freeSlot .title s)
  else s

/-- R71: an OPEN lock becomes LOCKED. -/
def relocked (r : Record) : Record := { r with lock := if r.lock = .opened then .locked else r.lock }

/-- R154: the rumble driver's state after title reset, before the ceiling is recomputed. -/
def resetRumble (r : Rumble) : Rumble :=
  { r with
    patterns := Vector.replicate 16 [], current := none, waiting := [], follow := none, hold := 0, timer := none
    applied := 0, lastFollow := 0, lastDemand := 0 }

/-- R120, R121, R137: every voice goes IDLE and takes its defaults; its waiting refill is withdrawn, and a burst in
flight for it will be discarded. -/
def resetVoices (s : State) : State :=
  postRefills { s with
    voices := Vector.replicate 8 {}
    port := { s.port with
      burst := match s.port.burst with
        | some (.refill n a c _) => some (.refill n a c true)
        | b => b } }

/-- R197: the link interface's part of a title reset. The selection is not its matter. -/
def resetLink (l : Link) : Link := { l with queue := [], mask := 0x3FF#10, latch := none }

/-- A title reset, taken by every block (section 11.5). The mixer takes its defaults (R152), the stored output sample 0
with them, so that the pins present 0 until the next frame even if the output is turned on before it (log 23). -/
def titleReset (s : State) : State :=
  let s1 := mapRecords relocked (resetJournal { s with link := resetLink s.link })
  let s2 := { s1 with days := { s1.days with sticky := false }, mixer := {}, rumble := resetRumble s1.rumble }
  recompute (resetVoices s2)

/-! ## Selections (R186 to R189) -/

/-- R22, R31, R189: a SAVE_READ whose selection ends before its read is granted has it withdrawn; a read in flight loses
its reply. -/
def withdrawLinkRead (s : State) : State :=
  { s with port := { s.port with
      linkRead := none
      passed := if s.port.linkRead.isSome then [] else s.port.passed
      burst := match s.port.burst with
        | some (.linkRead r _) => some (.linkRead r true)
        | b => b } }

/-- No selection stands. -/
def deselect (s : State) : State := { s with link := { s.link with selection := .none } }

/-- R189: the end of a selection. An unsent reply is lost, a link read is withdrawn, and a title reset still due is
taken (R197). -/
def endSelection (s : State) : State :=
  match s.link.selection with
  | .none => s
  | .quiet => deselect s
  | .awaiting _ => deselect (withdrawLinkRead s)
  | .replying _ due => deselect (if due then titleReset s else s)

/-- The link interface receives frames: the slot domain runs and SRST is released (R198). -/
def hears (s : State) : Bool := slotUp s && !s.srst

/-! ## Requests (R190) -/

/-- What an owner answers to a request: a reply at once, a reply that waits for a link read (R42), or the reply of a
TITLE_RESET, after which the title reset is due (R197). -/
inductive Answer where
  | now (s : State) (st : Status) (payload : List Byte)
  | later (s : State)
  | thenReset (s : State)

/-- R190, steps 3 to 5: the link interface's own refusals of a request of a defined kind. -/
def linkRefusal (k : Kind) (q : Request) (s : State) : Option Status :=
  if !lengthSuits k q.payload.length then some .badLength
  else if 2 < q.rank ∨ leastTrusted k < q.rank then some .badLevel
  else if s.supply.phase < takenFromPhase k (hasDays s) then some .notReady
  else none

/-- R188: the reply formed. -/
def replyWith (st : Status) (tag : Byte) (payload : List Byte) (due : Bool) (s : State) : State :=
  { s with link := { s.link with selection := .replying ⟨st, tag, payload⟩ due } }

/-- R188: an owner's answer as the selection's reply. -/
def Answer.reply (tag : Byte) : Answer → State
  | .now s st p => replyWith st tag p false s
  | .later s => { s with link := { s.link with selection := .awaiting tag } }
  | .thenReset s => replyWith .ok tag [] true s

/-- R77: a frame received: the selection it came in has replaced any earlier one (log 4), and the latch is empty. -/
def received (s : State) : State :=
  { endSelection s with link := { (endSelection s).link with latch := none } }

/-- R77: the presented arm of the frame being received. -/
def presentedArm (s : State) : Option Arm := (endSelection s).link.latch

/-- R77, R190: a request of kind `k` from its reception to its reply. `owner` makes steps 6 to 8 of the refusal order
and acts; it is given the presented arm. While the part hears no frame, nothing happens (R198, R185). -/
def serve (k : Kind) (q : Request) (owner : Option Arm → State → Answer) (s : State) : State :=
  if hears s then
    match linkRefusal k q (received s) with
    | some st => replyWith st q.tag [] false (received s)
    | none => (owner (presentedArm s) (received s)).reply q.tag
  else s

/-- A refusal by the owner: the request has no effect (R190). -/
def refuse (st : Status) (s : State) : Answer := .now s st []

end Sys2Proof.Machine
end

