-- ==== Sys2Proof/Machine/Link.lean ====
section
/-! DEFINITION. The link interface's own requests and events, and the region directory's two requests: IDENT,
NOTICE_FETCH, NOTICE_MASK, TITLE_RESET, broken frames, selections, the reset line; REGION_INFO, REGION_PRESENT. -/

namespace Sys2Proof.Machine

/-! ## The reply frame -/

/-- R188, R199: the bytes of a reply frame on LDO, from the start byte 3Ch to the check byte. -/
def replyFrame (r : Reply) : List Byte :=
  let body := [statusCode r.status, r.tag] ++ leBytes 1 r.payload.length ++ r.payload
  0x3C#8 :: body ++ [crc8 body]

/-- R186, R188: byte `k` that the part sends on LDO, counted from the reception of the frame, or in a selection without
one from its first byte. A quiet selection sends 00h throughout; a received one sends 00h for as long as its reply is not
ready, `wait` bytes (log 3), then the reply frame, then 00h until the selection ends. Before the frame is received the
rules give no byte. -/
def ldo (s : State) (wait k : Nat) : Option Byte :=
  match s.link.selection with
  | .none => none
  | .quiet | .awaiting _ => some 0x00#8
  | .replying r _ => some (if k < wait then 0x00#8 else (replyFrame r).getD (k - wait) 0x00#8)

/-! ## IDENT (R196, R20) -/

/-- R20: a directory field, reported as 0 unless the result is LOADED. -/
def ifLoaded (s : State) (v : Nat) : Nat := if s.dir.result = .loaded then v else 0

/-- R182: the start-up progress as replies carry it: phase, retention result, waiting flag. -/
def progressBytes (s : State) : List Byte :=
  leBytes 1 s.supply.phase ++ leBytes 1 (retentionCode s.supply.retention) ++ leBytes 1 (flagCode s.supply.waiting)

/-- R178: the cell state and the last reading. -/
def cellBytes (s : State) : List Byte := leBytes 1 (cellCode s.supply.cell) ++ leBytes 2 s.supply.reading

/-- R196, R20: the results of IDENT. -/
def identPayload (s : State) : List Byte :=
  leBytes 2 0xFD44 ++ leBytes 1 0x01
    ++ leBytes 1 (dirResultCode s.dir.result) ++ leBytes 1 (ifLoaded s s.dir.count)
    ++ leBytes 1 (ifLoaded s s.dir.rejected) ++ leBytes 1 (ifLoaded s s.dir.revision)
    ++ leBytes 2 (ifLoaded s s.dir.romSize / 1024) ++ leBytes 2 (ifLoaded s s.dir.sramSize / 1024)
    ++ progressBytes s ++ cellBytes s

/-- R196. -/
def answerIdent (s : State) : Answer := .now s .ok (identPayload s)

/-- IDENT (R196). -/
def execIdent (q : Request) (s : State) : Host.Outcome State Fault Refusal :=
  .next (serve .ident q (fun _ => answerIdent) s)

/-! ## Notices (R193, R195) -/

/-- R195: the oldest entry is removed and reported; an empty queue answers with an empty payload. -/
def answerNoticeFetch (s : State) : Answer :=
  match s.link.queue with
  | [] => .now s .ok []
  | x :: rest => .now { s with link := { s.link with queue := rest } } .ok (noticeRecord x)

/-- NOTICE_FETCH (R195). -/
def execNoticeFetch (q : Request) (s : State) : Host.Outcome State Fault Refusal :=
  .next (serve .noticeFetch q (fun _ => answerNoticeFetch) s)

/-- R193: the mask becomes the given set; a set naming a kind outside the ten is refused. -/
def answerNoticeMask (q : Request) (s : State) : Answer :=
  if q.word 0 < 1024 then
    .now { s with link := { s.link with mask := BitVec.ofNat 10 (q.word 0) } } .ok (leBytes 2 s.link.mask.toNat)
  else refuse .badValue s

/-- NOTICE_MASK (R193). -/
def execNoticeMask (q : Request) (s : State) : Host.Outcome State Fault Refusal :=
  .next (serve .noticeMask q (fun _ => answerNoticeMask q) s)

/-! ## Title reset (R197) -/

/-- TITLE_RESET (R197): the reply OK is formed at once, and the title reset is due. -/
def execTitleReset (q : Request) (s : State) : Host.Outcome State Fault Refusal :=
  .next (serve .titleReset q (fun _ => .thenReset) s)

/-- TITLE_RESET_TAKEN (R197): the check byte of the TITLE_RESET reply has been sent, and the title reset is taken. With
no title reset due there is no such event (log 2). -/
def execTitleResetTaken (s : State) : Host.Outcome State Fault Refusal :=
  match s.link.selection with
  | .replying r true =>
    .next { titleReset s with link := { (titleReset s).link with selection := .replying r false } }
  | _ => .next s

/-! ## Broken frames and selections (R186, R187, R189, R190) -/

/-- UNKNOWN_KIND (R190 step 2): the frame is received, and refused. A defined code makes it another command (log 2). -/
def execUnknownKind (kind : Byte) (q : Request) (s : State) : Host.Outcome State Fault Refusal :=
  .next (if hears s ∧ kindOfCode kind = none then replyWith .unknownKind q.tag [] false (received s) else s)

/-- R187: the frame's check byte over the bytes from the kind to the end of the payload. -/
def requestCheck (kind tag level length : Byte) (payload : List Byte) : BitVec 8 :=
  crc8 (kind :: tag :: level :: length :: payload)

/-- R186, R187: a received frame that is answered FRAME_ERROR. -/
def frameIsBad (kind tag level length : Byte) (payload : List Byte) (check : Byte) : Bool :=
  decide (64 < length.toNat) || check != requestCheck kind tag level length payload

/-- FRAME_ERROR (R187): the reply echoes the tag as received and carries an empty payload; the frame is received, so the
erase-arm latch is emptied, and no block sees it. A good frame makes it another command (log 2). -/
def execFrameError (kind tag level length : Byte) (payload : List Byte) (check : Byte) (s : State) :
    Host.Outcome State Fault Refusal :=
  .next (if hears s ∧ frameIsBad kind tag level length payload check then
    replyWith .frameError tag [] false (received s) else s)

/-- SELECTION_WITHOUT_FRAME (R186): the part sends 00h, takes nothing and leaves the latch as it was. -/
def execSelectionWithoutFrame (first : Byte) (s : State) : Host.Outcome State Fault Refusal :=
  .next (if hears s ∧ first ≠ 0xC3#8 then
    { endSelection s with link := { (endSelection s).link with selection := .quiet } } else s)

/-- SELECTION_END (R189). -/
def execSelectionEnd (s : State) : Host.Outcome State Fault Refusal :=
  .next (if slotUp s then endSelection s else s)

/-! ## The reset line (R198) -/

/-- SRST_ASSERTION (R198): a selection in progress ends at that instant; from phase 5 on a title reset is taken. -/
def execSrstAssertion (s : State) : Host.Outcome State Fault Refusal :=
  .next (
    if s.srst then s
    else if !slotUp s then { s with srst := true }
    else
      let s1 := { endSelection s with srst := true }
      if 5 ≤ s.supply.phase then titleReset s1 else s1)

/-- SRST_RELEASE (R198): frames are received again from the next selection. -/
def execSrstRelease (s : State) : Host.Outcome State Fault Refusal := .next { s with srst := false }

/-! ## REGION_INFO and REGION_PRESENT (R19, R11) -/

/-- R19: the memory field. A SAMPLE, SAVE or DAYS entry, and an accepted alias, name a memory; for the others the rule
states no value (log 14). -/
def memoryField (s : State) (i : Nat) (en : Entry) : List Byte :=
  if en.kind = kindSample then leBytes 1 (memoryCode .rom)
  else if en.kind = kindSave ∨ en.kind = kindDays then leBytes 1 (memoryCode .sram)
  else if en.kind = kindAlias ∧ en.standing = .accepted then leBytes 1 (memoryCode (memoryOf s en))
  else [Config.memoryFieldOfNoMemory i]

/-- R19: the selector whose region record REGION_INFO shows: an accepted SAVE entry's own, the DAYS region's, or the
SAVE target's of an alias. That a REJECTED alias of a SAVE entry shows none is the model's choice (log 29). -/
def shownRecord (s : State) (i : Nat) : Option Nat :=
  if !isAccepted s i then none
  else if (entryAt s i).kind = kindAlias then
    (if resolvedKind s i = kindSave then some (entryAt s i).target else none)
  else if (entryAt s i).kind = kindSample then none
  else some i

/-- R19: the record fields, absent together where the entry has no record. -/
def recordField (s : State) (i : Nat) : List Byte :=
  match shownRecord s i with
  | some t =>
    leBytes 1 (recordStateCode (recordAt s t).state) ++ leBytes 4 (recordAt s t).generation
      ++ leBytes 1 (lockCode (recordAt s t).lock)
  | none => absentField 1 ++ absentField 4 ++ absentField 1

/-- R19, R199: the write right of R5 or R7; none, which is written with all its bits set, for a SAMPLE, an EMPTY and a
REJECTED entry. The DAYS region's, which R19 does not name, is shown as no right (log 13). -/
def rightField (en : Entry) : List Byte :=
  optField 1 (if en.standing = .accepted ∧ en.kind ≠ kindSample then some (flagCode en.writeRight) else none)

/-- R19: the entry REGION_INFO describes; every selector is EMPTY unless the result is LOADED. That the fields
"as loaded" of an entry that was never loaded are 0 is the model's choice (log 13). -/
def shownEntry (s : State) (i : Nat) : Entry := if s.dir.result = .loaded then entryAt s i else {}

/-- R19: the description of selector `i`. The write right's and the lock state's bytes, and the FFh of the target of an
entry that is no alias, are as log 13 says. Any ALIAS entry, REJECTED or not, shows its target as loaded (log 29). R60
speaks of checks read from REGION_INFO; R19 lists no check, and none is reported (log 30). -/
def regionInfoPayload (s : State) (i : Nat) : List Byte :=
  let en := shownEntry s i
  leBytes 1 i ++ leBytes 1 (standingCode en.standing) ++ leBytes 1 (reasonCode en.reason) ++ leBytes 1 en.kind
    ++ leBytes 1 en.level ++ leBytes 1 (flagCode en.write + 2 * flagCode en.presentFlag)
    ++ rightField en ++ leBytes 1 (flagCode en.present) ++ memoryField s i en
    ++ leBytes 4 en.base ++ leBytes 4 en.length
    ++ optField 1 (if en.kind = kindAlias then some en.target else none) ++ recordField s i

/-- R19. -/
def answerRegionInfo (q : Request) (s : State) : Answer :=
  if q.byte 0 < 24 then .now s .ok (regionInfoPayload s (q.byte 0)) else refuse .noEntry s

/-- REGION_INFO (R19). -/
def execRegionInfo (q : Request) (s : State) : Host.Outcome State Fault Refusal :=
  .next (serve .regionInfo q (fun _ => answerRegionInfo q) s)

/-- The present flag of entry `i` set (R11). -/
def setPresent (i : Nat) (p : Bool) (s : State) : State :=
  { s with dir := { s.dir with entries := s.dir.entries.setIfInBounds i { entryAt s i with present := p } } }

/-- R11: the checks in order, then the flag's new value; the reply carries the old one. -/
def answerRegionPresent (q : Request) (s : State) : Answer :=
  let i := q.byte 0
  if !isAccepted s i then refuse .noEntry s
  else if (entryAt s i).kind = kindDays then refuse .wrongKind s
  else match choice (q.byte 1) with
    | none => refuse .badValue s
    | some p => .now (setPresent i p s) .ok (leBytes 1 (flagCode (entryAt s i).present))

/-- REGION_PRESENT (R11). -/
def execRegionPresent (q : Request) (s : State) : Host.Outcome State Fault Refusal :=
  .next (serve .regionPresent q (fun _ => answerRegionPresent q) s)

end Sys2Proof.Machine
end

