-- ==== Sys2Proof/Decode.lean ====
section
/-! DEFINITION. What the bytes of a selection spell (R186, R187, R190, R199), their encoding, and the host's
`decodeTableWord`. -/

namespace Sys2Proof

open Machine in
/-- R187, R190 step 2: the command of a frame that is whole: broken, of a defined kind, or of none. -/
def decodeFrame (kind tag level length : Byte) (payload : List Byte) (check : Byte) : Instr :=
  if frameIsBad kind tag level length payload check then .frameError kind tag level length payload check
  else match kindOfCode kind with
    | some k => requestOf k ⟨tag, level, payload⟩
    | none => .unknownKind kind ⟨tag, level, payload⟩

/-- R186: the bytes that follow the start byte C3h. A length above 64 ends the frame at the length byte, and no payload
or check byte is read (its operand is then 00h). A frame that is not whole has no effect: none. Bytes after the frame
are ignored. -/
def decodeHeader (kind tag level length : Byte) (rest : List Byte) : Option Instr :=
  if 64 < length.toNat then some (decodeFrame kind tag level length [] 0x00#8)
  else match rest.drop length.toNat with
    | check :: _ => some (decodeFrame kind tag level length (rest.take length.toNat) check)
    | [] => none

/-- R186: the command that the bytes of one selection, in the order sent, amount to. -/
def decodeSelection : List Byte → Option Instr
  | [] => none
  | b :: rest =>
    if b = 0xC3#8 then
      match rest with
      | kind :: tag :: level :: length :: more => decodeHeader kind tag level length more
      | _ => none
    else some (.selectionWithoutFrame b)

/-- R199: the bytes of a request frame. -/
def encodeFrame (kind : Byte) (q : Request) : List Byte :=
  let length := BitVec.ofNat 8 q.payload.length
  [0xC3#8, kind, q.tag, q.level, length] ++ q.payload
    ++ [Machine.requestCheck kind q.tag q.level length q.payload]

/-- The request kind and the frame of a request command. -/
def Instr.request : Instr → Option (Kind × Request)
  | .ident q => some (.ident, q)
  | .noticeFetch q => some (.noticeFetch, q)
  | .noticeMask q => some (.noticeMask, q)
  | .titleReset q => some (.titleReset, q)
  | .titleResetTaken => none
  | .regionInfo q => some (.regionInfo, q)
  | .regionPresent q => some (.regionPresent, q)
  | .saveRead q => some (.saveRead, q)
  | .saveBegin q => some (.saveBegin, q)
  | .saveWrite q => some (.saveWrite, q)
  | .saveCommit q => some (.saveCommit, q)
  | .saveAbandon q => some (.saveAbandon, q)
  | .saveStatus q => some (.saveStatus, q)
  | .lockSet q => some (.lockSet, q)
  | .lockClear q => some (.lockClear, q)
  | .lockOpen q => some (.lockOpen, q)
  | .eraseArm q => some (.eraseArm, q)
  | .erase q => some (.erase, q)
  | .masterSet q => some (.masterSet, q)
  | .lockFreeze q => some (.lockFreeze, q)
  | .clockRead q => some (.clockRead, q)
  | .dateToDay q => some (.dateToDay, q)
  | .dayToDate q => some (.dayToDate, q)
  | .clockSet q => some (.clockSet, q)
  | .clockTrim q => some (.clockTrim, q)
  | .daysConfig q => some (.daysConfig, q)
  | .counterArm q => some (.counterArm, q)
  | .counterDisarm q => some (.counterDisarm, q)
  | .counterAck q => some (.counterAck, q)
  | .counterRead q => some (.counterRead, q)
  | .dayTest q => some (.dayTest, q)
  | .voiceSetup q => some (.voiceSetup, q)
  | .voicePitch q => some (.voicePitch, q)
  | .voiceLevel q => some (.voiceLevel, q)
  | .voiceRamp q => some (.voiceRamp, q)
  | .voiceKeyOn q => some (.voiceKeyOn, q)
  | .voiceKeyOff q => some (.voiceKeyOff, q)
  | .voiceStop q => some (.voiceStop, q)
  | .voiceRead q => some (.voiceRead, q)
  | .mixConfig q => some (.mixConfig, q)
  | .mixFlags q => some (.mixFlags, q)
  | .rumbleDefine q => some (.rumbleDefine, q)
  | .rumblePlay q => some (.rumblePlay, q)
  | .rumbleCancel q => some (.rumbleCancel, q)
  | .rumbleFollow q => some (.rumbleFollow, q)
  | .rumbleHold q => some (.rumbleHold, q)
  | .rumbleRead q => some (.rumbleRead, q)
  | .supplyRead q => some (.supplyRead, q)
  | .cellCheck q => some (.cellCheck, q)
  | .unknownKind _ _ => none
  | .frameError _ _ _ _ _ _ => none
  | .selectionWithoutFrame _ => none
  | .selectionEnd => none
  | .srstAssertion => none
  | .srstRelease => none
  | .vslotThresholdChange _ => none
  | .offToStart _ => none
  | .normalToLow => none
  | .lowToNormal => none
  | .warnEntry _ => none
  | .warnRecovery => none
  | .supplyOff _ => none
  | .cellMeasurementCompletion _ => none
  | .directoryLoadBurstCompletion _ => none
  | .linkOpen => none
  | .scanStepCompletion _ => none
  | .dayBlockLoad => none
  | .refillCompletion _ => none
  | .linkReadCompletion _ => none
  | .commitStepCompletion _ => none
  | .clockTick => none
  | .minuteBoundary => none
  | .endOfRange => none
  | .dayTurn => none
  | .frame => none
  | .envelopeTick => none
  | .rumbleTick => none
  | .heatTick => none
  | .holdTimerExpiry => none
  | .stepEnd => none

/-- R186, R199: the bytes of a selection that amount to a command, for the commands that are selections. A frame ended
at a length above 64 has no byte after its length. -/
def encodeSelection (i : Instr) : Option (List Byte) :=
  match i.request with
  | some (k, q) => some (encodeFrame (Machine.kindCode k) q)
  | none =>
    match i with
    | .unknownKind kind q => some (encodeFrame kind q)
    | .frameError kind tag level length payload check =>
      some ([0xC3#8, kind, tag, level, length]
        ++ (if 64 < length.toNat then [] else payload ++ [check]))
    | .selectionWithoutFrame first => some [first]
    | _ => none

/-- The command that a word spells by the bits of spec/opcode_table.json. The table gives no row any bits (log 19). -/
def decodeTableWord (_nbits _w : Nat) : Option Instr := none

end Sys2Proof
end

