-- ==== Sys2Proof/Machine/Clock.lean ====
section
/-! DEFINITION. Dates (R93 to R95), the clock requests (R89 to R92) and the tick of the calendar divider with its
minute boundary, end of range and day turn (R82 to R88). -/

namespace Sys2Proof.Machine

/-! ## Dates (R93 to R95) -/

/-- R93: the days before month `m` (1 to 12). -/
def daysBefore (leap : Bool) (m : Nat) : Nat :=
  let common := [0, 31, 59, 90, 120, 151, 181, 212, 243, 273, 304, 334].getD (m - 1) 0
  if leap && decide (3 ≤ m) then common + 1 else common

/-- R93: the length of month `m` (1 to 12). -/
def monthLength (leap : Bool) (m : Nat) : Nat :=
  if m = 2 then (if leap then 29 else 28) else [31, 28, 31, 30, 31, 30, 31, 31, 30, 31, 30, 31].getD (m - 1) 0

/-- A calendar date with the day of year, as R93 and R94 report it. -/
structure Date where
  year      : Nat
  month     : Nat
  day       : Nat
  dayOfYear : Nat
  leap      : Bool
deriving DecidableEq, Repr

/-- R93 step 4: the last month, from `m` down, whose days before do not exceed `y`. -/
def monthOf (leap : Bool) (y : Nat) : Nat → Nat
  | 0 => 1
  | m + 1 => if daysBefore leap (m + 1) ≤ y then m + 1 else monthOf leap y m

/-- R93: the date of day number `d`. -/
def dateOf (d : Nat) : Date :=
  let b := d / 1461
  let r := d % 1461
  let k := if r < 366 then 0 else 1 + (r - 366) / 365
  let y := if r < 366 then r else (r - 366) % 365
  let leap := k == 0
  let m := monthOf leap y 12
  ⟨2000 + 4 * b + k, m, y - daysBefore leap m + 1, y + 1, leap⟩

/-- R94: a year divisible by 4, within the range. -/
def isLeap (year : Nat) : Bool := year % 4 == 0

/-- R94: the validity test of a date. -/
def validDate (year month day : Nat) : Bool :=
  decide (2000 ≤ year ∧ year ≤ 2099 ∧ 1 ≤ month ∧ month ≤ 12 ∧ 1 ≤ day ∧ day ≤ monthLength (isLeap year) month)

/-- R94: the day within the year, from 0. -/
def dayInYear (year month day : Nat) : Nat := daysBefore (isLeap year) month + day - 1

/-- R94: the day number of a valid date. -/
def dayNumberOf (year month day : Nat) : Nat :=
  let k := (year - 2000) % 4
  let b := (year - 2000 - k) / 4
  let y := dayInYear year month day
  if k = 0 then 1461 * b + y else 1461 * b + 366 + 365 * (k - 1) + y

/-- R95: the weekday of a day number, 0 for Sunday. -/
def weekdayOf (d : Nat) : Nat := (d + 6) % 7

/-! ## DAY_TO_DATE and DATE_TO_DAY (R93, R94) -/

/-- The date fields of a day number: year, month, day of month. -/
def dateBytes (d : Date) : List Byte := leBytes 2 d.year ++ leBytes 1 d.month ++ leBytes 1 d.day

/-- R93: day number (2). -/
def answerDayToDate (q : Request) (s : State) : Answer :=
  let d := q.word 0
  if 36524 < d then refuse .badValue s
  else .now s .ok (dateBytes (dateOf d) ++ leBytes 2 (dateOf d).dayOfYear ++ leBytes 1 (weekdayOf d)
    ++ leBytes 1 (flagCode (dateOf d).leap))

/-- DAY_TO_DATE (R93). -/
def execDayToDate (q : Request) (s : State) : Host.Outcome State Fault Refusal :=
  .next (serve .dayToDate q (fun _ => answerDayToDate q) s)

/-- R94: year (2), month, day of month. -/
def answerDateToDay (q : Request) (s : State) : Answer :=
  let d := dayNumberOf (q.word 0) (q.byte 2) (q.byte 3)
  if validDate (q.word 0) (q.byte 2) (q.byte 3) then
    .now s .ok (leBytes 2 d ++ leBytes 2 (dayInYear (q.word 0) (q.byte 2) (q.byte 3) + 1) ++ leBytes 1 (weekdayOf d))
  else refuse .badValue s

/-- DATE_TO_DAY (R94). -/
def execDateToDay (q : Request) (s : State) : Host.Outcome State Fault Refusal :=
  .next (serve .dateToDay q (fun _ => answerDateToDay q) s)

/-! ## CLOCK_READ (R92) -/

/-- R92, R101: the day block is reported: the cartridge has no DAYS region, or the working copy is in service. -/
def dayBlockShown (s : State) : Bool := !hasDays s || s.days.inService

/-- R92: the game day field; absent while UNSET, and while a DAYS region's block is not yet in service (R101). -/
def gameDayShown (s : State) : Option Int := if dayBlockShown s then gameDay s else none

/-- R92, R99: the high day field; none where there is no working copy in service. -/
def highDayShown (s : State) : Option Int := if s.days.inService then s.days.highDay else none

/-- R92, R104: the behind flag is reported clear while UNSET, and where no working copy is in service. -/
def behindShown (s : State) : Bool := s.clock.state == .valid && s.days.inService && s.days.behind

/-- R92: the date, the time of day, the weekday and the day of year of a VALID clock. -/
def clockDateBytes (c : Clock) : List Byte :=
  match c.state with
  | .valid =>
    dateBytes (dateOf c.day) ++ leBytes 1 (c.second / 3600) ++ leBytes 1 (c.second % 3600 / 60)
      ++ leBytes 1 (c.second % 60) ++ leBytes 1 (weekdayOf c.day) ++ leBytes 2 (dateOf c.day).dayOfYear
  | .unset =>
    absentField 2 ++ absentField 1 ++ absentField 1 ++ absentField 1 ++ absentField 1 ++ absentField 1
      ++ absentField 1 ++ absentField 2

/-- R92: the results of CLOCK_READ. -/
def clockReadPayload (s : State) : List Byte :=
  leBytes 1 (clockStateCode s.clock.state) ++ leBytes 2 s.clock.day ++ leBytes 4 s.clock.second
    ++ leBytes 2 s.clock.subsecond ++ clockDateBytes s.clock ++ leInt 2 s.clock.trim
    ++ optSigned 3 (gameDayShown s) ++ optSigned 3 (highDayShown s) ++ leBytes 1 (flagCode (behindShown s))

/-- R92. -/
def answerClockRead (s : State) : Answer := .now s .ok (clockReadPayload s)

/-- CLOCK_READ (R92). -/
def execClockRead (q : Request) (s : State) : Host.Outcome State Fault Refusal :=
  .next (serve .clockRead q (fun _ => answerClockRead) s)

/-! ## The divider (R83) -/

/-- R83: the frames from the last tick to the next: 31 or 33 while the adjustment count is above 0, else 32. -/
def tickInterval (c : Clock) : Nat := if c.adjust = 0 then 32 else if c.early then 31 else 33

/-- R83, R89, R90: the divider has counted the frames to the next tick: the trim sets the spacing of the ticks, and a
CLOCK_SET, which restarts the divider, takes away a tick that was about to come. -/
def tickDue (c : Clock) : Bool := decide (tickInterval c ≤ c.divider)

/-- R89, R90: where a CLOCK_SET restarts the divider. The frame of a tick that was due, and that the set takes away, is
the first of the 32 (log 28). -/
def restartedDivider (c : Clock) : Nat := if tickDue c then 1 else 0

/-! ## CLOCK_SET and CLOCK_TRIM (R89, R91) -/

/-- R89: the day number and second of day a CLOCK_SET asks for, if its form and fields pass the checks. -/
def clockSetTarget (q : Request) : Option (Nat × Nat) :=
  if q.byte 0 = 0 then
    (if q.word 1 ≤ 36524 ∧ q.quad 3 ≤ 86399 then some (q.word 1, q.quad 3) else none)
  else if q.byte 0 = 1 then
    (if validDate (q.word 1) (q.byte 3) (q.byte 4) ∧ q.byte 5 ≤ 23 ∧ q.byte 6 ≤ 59 ∧ q.byte 7 ≤ 59 then
      some (dayNumberOf (q.word 1) (q.byte 3) (q.byte 4), q.byte 5 * 3600 + q.byte 6 * 60 + q.byte 7)
    else none)
  else none

/-- R89: the clock as an accepted CLOCK_SET leaves it; the divider restarts (R90) and the trim is kept. -/
def setClock (day second : Nat) (c : Clock) : Clock :=
  { c with state := .valid, subsecond := 0, second := second, day := day, adjust := 0
           divider := restartedDivider c }

/-- R89: the set, CLOCK_STATE SET, then the catch-up that follows a CLOCK_SET. -/
def answerClockSet (q : Request) (s : State) : Answer :=
  match clockSetTarget q with
  | none => refuse .badValue s
  | some (day, second) =>
    .now (settle (catchUp (notify (.clockState .set) { s with clock := setClock day second s.clock }))) .ok []

/-- CLOCK_SET (R89). -/
def execClockSet (q : Request) (s : State) : Host.Outcome State Fault Refusal :=
  .next (serve .clockSet q (fun _ => answerClockSet q) s)

/-- R91: a trim clamped to −127 … +127. -/
def clampTrim (v : Int) : Int := max (-127) (min 127 v)

/-- R91: trim, signed (2). -/
def answerClockTrim (q : Request) (s : State) : Answer :=
  let t := clampTrim (signedOf 2 (q.word 0))
  .now { s with clock := { s.clock with trim := t } } .ok (leInt 2 s.clock.trim ++ leInt 2 t)

/-- CLOCK_TRIM (R91). -/
def execClockTrim (q : Request) (s : State) : Host.Outcome State Fault Refusal :=
  .next (serve .clockTrim q (fun _ => answerClockTrim q) s)

/-! ## The tick (R82 to R88) -/

/-- R84: the tick about to be taken is the end of range. -/
def atEndOfRange (c : Clock) : Bool :=
  c.state == .valid && decide (1023 ≤ c.subsecond ∧ 86399 ≤ c.second ∧ 36524 ≤ c.day)

/-- R82: the tick about to be taken wraps the subsecond. -/
def wrapsSubsecond (c : Clock) : Bool := c.state == .valid && decide (1023 ≤ c.subsecond)

/-- R82: the second of day after a tick that wraps the subsecond. -/
def nextSecond (c : Clock) : Nat := if 86399 ≤ c.second then 0 else c.second + 1

/-- R83: the tick about to be taken is a minute boundary. -/
def atMinuteBoundary (c : Clock) : Bool := wrapsSubsecond c && !atEndOfRange c && nextSecond c % 60 == 0

/-- R87: the tick about to be taken is a day turn for turn second `t`. -/
def atDayTurn (t : Nat) (c : Clock) : Bool := wrapsSubsecond c && !atEndOfRange c && nextSecond c == t

/-- R87: the slot domain holds the turn second in force: the working copy's in service, or 0 of a cartridge whose loaded
directory has no DAYS region. Before that, and while slot power is absent, the day block keeps it, out of reach (log 7). -/
def turnKnown (s : State) : Bool := s.days.inService || (s.dir.result != .notYet && !hasDays s)

/-- R87: the tick about to be taken may be a day turn: it reaches the turn second in force, or, where that is out of
reach, it moves the second of day (log 7). -/
def mayBeDayTurn (s : State) : Bool :=
  if turnKnown s then atDayTurn (turnSecond s) s.clock else wrapsSubsecond s.clock && !atEndOfRange s.clock

/-- R84: the clock after the end-of-range tick; the trim is kept. -/
def endedClock (c : Clock) : Clock :=
  { c with state := .unset, subsecond := 0, second := 0, day := 0, adjust := 0, divider := 0 }

/-- R83: the adjustment count and direction after a tick: one fewer at an adjusted tick, loaded at a minute boundary. -/
def adjusted (c : Clock) (c' : Clock) : Clock :=
  if atMinuteBoundary c then { c' with adjust := c.trim.natAbs, early := decide (0 < c.trim) }
  else { c' with adjust := c.adjust - 1 }

/-- R82, R83, R85: the clock after a tick other than the end of range. -/
def tickedClock (c : Clock) : Clock :=
  match c.state with
  | .unset => { c with divider := 0 }
  | .valid =>
    if c.subsecond < 1023 then adjusted c { c with subsecond := c.subsecond + 1, divider := 0 }
    else adjusted c { c with
      subsecond := 0, second := nextSecond c, day := if 86399 ≤ c.second then c.day + 1 else c.day, divider := 0 }

/-- R86: LIMIT is queued while the slot domain runs, else kept as the pending report. -/
def reportLimit (s : State) : State :=
  if slotUp s then notify (.clockState .limit) s else { s with clock := { s.clock with pendingLimit := true } }

/-- R84, R86: the end-of-range tick. -/
def endRange (s : State) : State := reportLimit { s with clock := endedClock s.clock }

/-- R88: day turns are live: the start-up progress has reached phase 8 in this period of slot power. -/
def turnsLive (s : State) : Bool := slotUp s && s.supply.phase == 8

/-- R50: at a live day turn a held clock slot leaves held with its full-pass flag set and rejoins the queue. -/
def retryClockSlot (s : State) : State :=
  let c := s.save.kept.clock
  if c.state = .pending ∧ c.held then joinQueue .clock (setSlot .clock { c with fullPass := true } s) else s

/-- R179: a measurement begins, unless one is in progress. -/
def beginMeasurement (s : State) : State := { s with supply := { s.supply with measuring := true } }

/-- R88: a live day turn handed to the game-day logic, the save engine and the supply monitor. -/
def liveDayTurn (s : State) : State := settle (beginMeasurement (retryClockSlot (catchUp s)))

/-- R82 to R88: a tick of the divider, as the calendar clock takes it. -/
def clockTick (s : State) : State :=
  if atEndOfRange s.clock then endRange s
  else
    let s1 := { s with clock := tickedClock s.clock }
    if atDayTurn (turnSecond s) s.clock && turnsLive s then liveDayTurn s1 else s1

/-- A tick of the divider that `named` describes: it is taken when the divider has counted its frames (R83, R90).
Otherwise there is no such event (log 2). -/
def takeTick (named : Bool) (s : State) : State := if tickDue s.clock && named then clockTick s else s

/-- CLOCK_TICK (R82): the tick's whole advance, with the minute boundary, end of range or day turn that it is (log 7). -/
def execClockTick (s : State) : Host.Outcome State Fault Refusal := .next (takeTick true s)

/-- MINUTE_BOUNDARY (R83): the tick that is a minute boundary (log 2, log 7). -/
def execMinuteBoundary (s : State) : Host.Outcome State Fault Refusal :=
  .next (takeTick (atMinuteBoundary s.clock) s)

/-- END_OF_RANGE (R84): the tick that is the end of range (log 2, log 7). -/
def execEndOfRange (s : State) : Host.Outcome State Fault Refusal := .next (takeTick (atEndOfRange s.clock) s)

/-- DAY_TURN (R87, R88): the tick that is a day turn. One that is not live is counted by the clock and handed to nobody
(log 2, log 7). -/
def execDayTurn (s : State) : Host.Outcome State Fault Refusal := .next (takeTick (mayBeDayTurn s) s)

end Sys2Proof.Machine
end

