-- ==== Sys2Proof/Machine/Directory.lean ====
section
/-! DEFINITION. The directory load (R1 to R8, R201) and the beginning of roll-forward (R53):
DIRECTORY_LOAD_BURST_COMPLETION. -/

namespace Sys2Proof.Machine

/-! ## The header (R2) -/

/-- R2, R201: the header's signature bytes spell "CRTD". -/
def signatureBytes : List Byte := [0x43#8, 0x52#8, 0x54#8, 0x44#8]

/-- R2: the header is accepted. -/
def headerAccepted (h : List Byte) : Bool :=
  h.take 4 == signatureBytes && decide (1 ≤ field h 4 1) && decide (field h 4 1 ≤ 24) && decide (field h 6 1 ≤ 8)
    && decide (field h 7 1 ≤ 3) && decide (field h 15 1 = (crc8 (h.take 15)).toNat)

/-- R2: the result of a load whose header is refused. -/
def refusedHeaderResult (h : List Byte) : DirResult :=
  if (h.take 4).all (· == 0x00#8) || (h.take 4).all (· == 0xFF#8) then .absent else .badHeader

/-- The ROM size of a size code (section 1.1). -/
def romSizeOf (code : Nat) : Nat := 65536 * 2 ^ code

/-- The SRAM size of a size code (section 1.1). -/
def sramSizeOf (code : Nat) : Nat := if code = 0 then 0 else 32768 * 2 ^ (code - 1)

/-! ## The entries (R3 to R7) -/

/-- R201: the fields of an entry's 16 bytes, as loaded. -/
def loadedEntry (b : List Byte) : Entry :=
  { kind := field b 0 1, level := field b 1 1, write := field b 2 1 % 2 == 1, presentFlag := field b 2 1 / 2 % 2 == 1,
    target := field b 3 1, base := field b 4 4, length := field b 8 4 }

/-- R3: an entry rejected with a reason. -/
def rejectEntry (why : Reason) (en : Entry) : Entry := { en with standing := .rejected, reason := why }

/-- R4 to R7: an entry accepted, with its effective write right. -/
def acceptEntry (writeRight : Bool) (en : Entry) : Entry := { en with standing := .accepted, writeRight := writeRight }

/-- R5, R6: two windows share a byte. -/
def windowsShare (b1 l1 b2 l2 : Nat) : Bool := decide (b1 < b2 + l2 ∧ b2 < b1 + l1)

/-- R5, R6: the window of `en` shares a byte with an earlier accepted SAVE or DAYS entry. -/
def overlapsEarlier (s : State) (i : Nat) (en : Entry) : Bool :=
  (List.range i).any (fun j =>
    let x := entryAt s j
    x.standing == .accepted && (x.kind == kindSave || x.kind == kindDays)
      && windowsShare en.base en.length x.base x.length)

/-- R4: a SAMPLE entry. -/
def checkSample (s : State) (en : Entry) : Entry :=
  if en.length = 0 then rejectEntry .zeroLength en
  else if en.write then rejectEntry .writeOnSample en
  else if s.dir.romSize < en.base + en.length then rejectEntry .outsideMemory en
  else acceptEntry false en

/-- R5: a SAVE entry. -/
def checkSave (s : State) (i : Nat) (en : Entry) : Entry :=
  if en.length = 0 then rejectEntry .zeroLength en
  else if en.base % 64 ≠ 0 ∨ en.length % 64 ≠ 0 then rejectEntry .misaligned en
  else if s.dir.sramSize < en.base + en.length then rejectEntry .outsideMemory en
  else if overlapsEarlier s i en then rejectEntry .overlap en
  else acceptEntry en.write en

/-- R6: a DAYS entry. Only the lowest-index DAYS entry of the directory is eligible. -/
def checkDays (s : State) (i : Nat) (en : Entry) : Entry :=
  if (List.range i).any (fun j => (entryAt s j).kind == kindDays) then rejectEntry .secondDays en
  else if en.length ≠ 64 then rejectEntry .wrongSize en
  else if en.base % 64 ≠ 0 then rejectEntry .misaligned en
  else if s.dir.sramSize < en.base + 64 then rejectEntry .outsideMemory en
  else if overlapsEarlier s i en then rejectEntry .overlap en
  else acceptEntry false en

/-- R3: the common checks of entry `i`, then those of its kind. An ALIAS entry is held until all entries are read. -/
def checkEntry (s : State) (i : Nat) (en : Entry) : Entry :=
  if en.kind = kindEmpty then en
  else if kindAlias < en.kind then rejectEntry .badKind en
  else if 2 < en.level then rejectEntry .badLevel en
  else if en.kind = kindSample then checkSample s en
  else if en.kind = kindSave then checkSave s i en
  else if en.kind = kindDays then checkDays s i en
  else en

/-- R3: an ALIAS entry that passed the common checks and is held for R7. -/
def heldAlias (en : Entry) : Bool := en.kind == kindAlias && en.standing == .empty

/-- R7: an ALIAS entry, against the table of all entries read. -/
def checkAlias (s : State) (en : Entry) : Entry :=
  let t := entryAt s en.target
  if 23 < en.target ∨ t.standing ≠ .accepted ∨ (t.kind ≠ kindSave ∧ t.kind ≠ kindSample) then rejectEntry .badTarget en
  else if en.length = 0 then rejectEntry .zeroLength en
  else if t.kind = kindSave ∧ (en.base % 64 ≠ 0 ∨ en.length % 64 ≠ 0) then rejectEntry .misaligned en
  else if t.length < en.base + en.length then rejectEntry .outsideTarget en
  else acceptEntry (en.write && t.writeRight) en

/-- R7, R8: entry `i` as the completed load leaves it, with its present flag. -/
def finishedEntry (s : State) (i : Nat) : Entry :=
  let en := if heldAlias (entryAt s i) then checkAlias s (entryAt s i) else entryAt s i
  { en with present := en.standing == .accepted && (en.kind == kindDays || en.presentFlag) }

/-! ## The load (R1, R8) -/

/-- R1: the burst of a load step posted at the port: the header at ROM byte 0, or entry `i` at 16 + 16 × i. -/
def postLoad (st : LoadStep) (s : State) : State :=
  { s with
    dir := { s.dir with loading := some st }
    port := { s.port with directory := some (match st with | .header => 0 | .entry i => 16 + 16 * i) } }

/-- R53: roll-forward first frees a title slot found COLLECTING. -/
def discardCollecting (s : State) : State :=
  let sl := s.save.kept.title
  if sl.state = .collecting then
    setOutcome ⟨sl.target, sl.tag, .rollForward, .discarded, none⟩ (freeSlot .title s)
  else s

/-- R8, R182: the load completes with the directory `d`, and phase 4, roll-forward, begins. -/
def completeLoad (d : Directory) (s : State) : State :=
  rollOn (discardCollecting
    { s with dir := { d with loading := none }, supply := { s.supply with phase := 4, waiting := false } })

/-- R2, R8: the load completes with a refused header: every entry is EMPTY. -/
def refuseHeader (h : List Byte) (s : State) : State := completeLoad { result := refusedHeaderResult h } s

/-- R2: an accepted header's fields, held while the entries are read. -/
def takeHeader (h : List Byte) (s : State) : State :=
  { s with dir := { s.dir with
      count := field h 4 1, revision := field h 5 1, romSize := romSizeOf (field h 6 1)
      sramSize := sramSizeOf (field h 7 1) } }

/-- R3: entry `i` checked into the table as its burst is served. -/
def takeEntry (i : Nat) (b : List Byte) (s : State) : State :=
  { s with dir := { s.dir with entries := s.dir.entries.setIfInBounds i (checkEntry s i (loadedEntry b)) } }

/-- R7, R8: the last entry has been read: the aliases are checked and the load completes LOADED. -/
def finishLoad (s : State) : State :=
  let entries : Vector Entry 24 := Vector.ofFn (fun i : Fin 24 => finishedEntry s i)
  completeLoad { s.dir with
    result := .loaded
    entries := entries
    rejected := (entries.toList.filter (fun en => en.standing == .rejected)).length } s

/-- R1: what follows a directory burst whose bytes are `b`. -/
def loadBurst (b : List Byte) (s : State) : State :=
  match s.dir.loading with
  | none => s
  | some .header => if headerAccepted b then postLoad (.entry 0) (takeHeader b s) else refuseHeader b s
  | some (.entry i) =>
    let s1 := takeEntry i b s
    if i + 1 < s1.dir.count then postLoad (.entry (i + 1)) s1 else finishLoad s1

/-- DIRECTORY_LOAD_BURST_COMPLETION (R1). With no directory burst in progress there is no such event (log 2). -/
def execDirectoryLoadBurstCompletion (bus : List Byte) (s : State) : Host.Outcome State Fault Refusal :=
  match s.port.burst with
  | some (.directory a) => .next (settle (loadBurst (burstBytes s.rom a 16 bus) (freeBus s)))
  | _ => .next s

end Sys2Proof.Machine
end

