-- ==== Sys2Proof/Machine/GameDays.lean ====
section
/-! DEFINITION. The requests on the day counters, DAYS_CONFIG and DAY_TEST (R108 to R114). -/

namespace Sys2Proof.Machine

/-- A counter as replies carry it: state, remaining, period, passes (R100). -/
def counterReply (c : Counter) : List Byte :=
  leBytes 1 (counterStateCode c.state) ++ leBytes 2 c.remaining ++ leBytes 2 c.period ++ leBytes 1 c.passes

/-- Counter `i` of the working copy. -/
def counterAt (s : State) (i : Nat) : Counter := counterOf s.days.counters i

/-- The working copy with counter `i` replaced and the dirty flag set when `changed`. -/
def putCounter (i : Nat) (c : Counter) (changed : Bool) (s : State) : State :=
  setDays { s.days with counters := s.days.counters.setIfInBounds i c, dirty := s.days.dirty || changed } s

/-- R190 step 6 and the index check of R108 to R111: NO_ENTRY on a cartridge without a DAYS region, then BAD_VALUE for
an index above 7. -/
def counterRefusal (q : Request) (s : State) : Option Status :=
  if !hasDays s then some .noEntry else if 7 < q.byte 0 then some .badValue else none

/-- R108: the remaining as clamped: 0 becomes 1, and with a period a remaining above it becomes the period. -/
def clampRemaining (remaining period : Nat) : Nat :=
  let r := max 1 remaining
  if period = 0 then r else min r period

/-- R108: an armed counter. -/
def armedCounter (remaining period : Nat) : Counter := ⟨.armed, clampRemaining remaining period, period, 0⟩

/-- R108: index, remaining (2), period (2). -/
def answerCounterArm (q : Request) (s : State) : Answer :=
  match counterRefusal q s with
  | some st => refuse st s
  | none =>
    let c := armedCounter (q.word 1) (q.word 3)
    .now (settle (putCounter (q.byte 0) c true s)) .ok (counterReply c)

/-- COUNTER_ARM (R108). -/
def execCounterArm (q : Request) (s : State) : Host.Outcome State Fault Refusal :=
  .next (serve .counterArm q (fun _ => answerCounterArm q) s)

/-- R109: index. -/
def answerCounterDisarm (q : Request) (s : State) : Answer :=
  match counterRefusal q s with
  | some st => refuse st s
  | none =>
    let c := counterAt s (q.byte 0)
    .now (settle (putCounter (q.byte 0) { c with state := .disarmed } (c.state != .disarmed) s)) .ok (counterReply c)

/-- COUNTER_DISARM (R109). -/
def execCounterDisarm (q : Request) (s : State) : Host.Outcome State Fault Refusal :=
  .next (serve .counterDisarm q (fun _ => answerCounterDisarm q) s)

/-- R110: a counter acknowledged: passes cleared, a DUE counter DISARMED. -/
def ackedCounter (c : Counter) : Counter :=
  { c with passes := 0, state := if c.state = .due then .disarmed else c.state }

/-- R110: index. -/
def answerCounterAck (q : Request) (s : State) : Answer :=
  match counterRefusal q s with
  | some st => refuse st s
  | none =>
    let c := counterAt s (q.byte 0)
    .now (settle (putCounter (q.byte 0) (ackedCounter c) (ackedCounter c != c) s)) .ok (leBytes 1 c.passes)

/-- COUNTER_ACK (R110). -/
def execCounterAck (q : Request) (s : State) : Host.Outcome State Fault Refusal :=
  .next (serve .counterAck q (fun _ => answerCounterAck q) s)

/-- R111: the durable flag: the dirty flag is clear and the clock slot is FREE. -/
def durable (s : State) : Bool := !s.days.dirty && s.save.kept.clock.state == .free

/-- R111: index. -/
def answerCounterRead (q : Request) (s : State) : Answer :=
  match counterRefusal q s with
  | some st => refuse st s
  | none =>
    .now s .ok (counterReply (counterAt s (q.byte 0)) ++ optSigned 3 s.days.highDay ++ leBytes 4 s.days.turnSecond
      ++ leBytes 1 (flagCode (durable s)))

/-- COUNTER_READ (R111). -/
def execCounterRead (q : Request) (s : State) : Host.Outcome State Fault Refusal :=
  .next (serve .counterRead q (fun _ => answerCounterRead q) s)

/-- R112: turn second (4); the new turn second stored, then the catch-up. R115's fill is made once, after the catch-up
(log 12). -/
def answerDaysConfig (q : Request) (s : State) : Answer :=
  if !hasDays s then refuse .noEntry s
  else if 86399 < q.quad 0 then refuse .badValue s
  else
    .now (settle (catchUp (setDays { s.days with turnSecond := q.quad 0, dirty := true } s))) .ok
      (leBytes 4 s.days.turnSecond)

/-- DAYS_CONFIG (R112). -/
def execDaysConfig (q : Request) (s : State) : Host.Outcome State Fault Refusal :=
  .next (serve .daysConfig q (fun _ => answerDaysConfig q) s)

/-! ## DAY_TEST (R113, R114) -/

/-- R113: the four relations, in the order of the accept set's bits. -/
inductive Relation where
  | lt | eq | gt | un
deriving DecidableEq, Repr

/-- R113, R199. -/
def relationCode : Relation → Nat
  | .lt => 0 | .eq => 1 | .gt => 2 | .un => 3

/-- R113: the relation of day `x` to the game day. -/
def relationOf (x : Nat) : Option Int → Relation
  | none => .un
  | some g => if (x : Int) < g then .lt else if (x : Int) = g then .eq else .gt

/-- R113: the day number of a DAY_TEST's operand, if its form and operand are well formed. -/
def dayOperand (q : Request) : Option Nat :=
  if q.byte 0 = 0 then (if q.word 1 ≤ 36524 then some (q.word 1) else none)
  else if q.byte 0 = 1 then
    (if validDate (q.word 1) (q.byte 3) (q.byte 4) then some (dayNumberOf (q.word 1) (q.byte 3) (q.byte 4)) else none)
  else none

/-- R113: the relation is in the accept set. -/
def accepts (set : Nat) (r : Relation) : Bool := set / 2 ^ relationCode r % 2 == 1

/-- R114: a strict test that met an UNSET clock: the sticky flag set and DAY_UNORDERED queued. -/
def unordered (x : Nat) (s : State) : State := notify (.dayUnordered x) (setDays { s.days with sticky := true } s)

/-- R113, R114: form, operand (4), accept set, strict. -/
def answerDayTest (q : Request) (s : State) : Answer :=
  match dayOperand q, choice (q.byte 6) with
  | some x, some strict =>
    if 15 < q.byte 5 then refuse .badValue s
    else
      let r := relationOf x (gameDay s)
      if strict && r == .un then .now (unordered x s) .clockUnset (leBytes 1 1)
      else .now s .ok (leBytes 1 (flagCode (accepts (q.byte 5) r)) ++ leBytes 1 (relationCode r)
        ++ optSigned 3 (gameDay s) ++ leBytes 1 (flagCode s.days.sticky))
  | _, _ => refuse .badValue s

/-- DAY_TEST (R113). -/
def execDayTest (q : Request) (s : State) : Host.Outcome State Fault Refusal :=
  .next (serve .dayTest q (fun _ => answerDayTest q) s)

end Sys2Proof.Machine
end

