-- ==== Sys2Proof/Machine/Lock.lean ====
section
/-! DEFINITION. The lock and erase requests (R70 to R79). -/

namespace Sys2Proof.Machine

/-! ## Password comparison (R74) -/

/-- R74: all eight bytes equal; a comparison against an absent password is a mismatch. -/
def passwordMatches (stored : Option (List Byte)) (given : List Byte) : Bool := stored == some given

/-- R72, R79: the password a mode compares with. -/
def storedPassword (s : State) (region : Nat) : Mode → Option (List Byte)
  | .title => (recordAt s region).password
  | .master => s.save.kept.master

/-- R74: a mismatch lowers the region's tries by 1, in the update of the refusal; the reply carries the tries left. -/
def mismatch (region : Nat) (s : State) : Answer :=
  .now (setTries region (triesAt s region - 1) s) .password (leBytes 1 (triesAt s region - 1))

/-- The lock of a region's record replaced. -/
def setLock (region : Nat) (l : LockState) (s : State) : State :=
  setRecord region { recordAt s region with lock := l } s

/-! ## LOCK_SET, LOCK_OPEN, LOCK_CLEAR (R70, R72, R73) -/

/-- R70: the record once a password is set. -/
def lockedRecord (r : Record) (pw : List Byte) (lv : LockLevel) : Record :=
  { r with password := some pw, lockLevel := lv, lock := .opened }

/-- R70: selector, password (8), lock level. -/
def answerLockSet (q : Request) (s : State) : Answer :=
  match resolveLock s (q.byte 0) q.rank true with
  | .refused st => refuse st s
  | .window w =>
    if s.save.frozen then refuse .frozen s
    else if (recordAt s w.target).lock = .locked then refuse .locked s
    else if s.save.kept.title.state ≠ .free ∧ s.save.kept.title.target = w.target then refuse .busy s
    else match lockLevelOf (q.byte 9) with
      | none => refuse .badValue s
      | some lv => .now (setRecord w.target (lockedRecord (recordAt s w.target) (q.password 1) lv) s) .ok []

/-- LOCK_SET (R70). -/
def execLockSet (q : Request) (s : State) : Host.Outcome State Fault Refusal :=
  .next (serve .lockSet q (fun _ => answerLockSet q) s)

/-- R72: selector, mode, password (8). -/
def answerLockOpen (q : Request) (s : State) : Answer :=
  match resolveLock s (q.byte 0) q.rank false with
  | .refused st => refuse st s
  | .window w =>
    let r := recordAt s w.target
    if s.save.frozen then refuse .frozen s
    else if r.lock ≠ .locked then .now s .ok (leBytes 1 (lockCode r.lock))
    else if modeOf (q.byte 1) = some .master ∧ r.lockLevel = .maximum then refuse .denied s
    else if triesAt s w.target = 0 then refuse .triesExhausted s
    else match modeOf (q.byte 1) with
      | none => refuse .badValue s
      | some m =>
        if passwordMatches (storedPassword s w.target m) (q.password 2) then
          .now (setLock w.target .opened s) .ok (leBytes 1 (lockCode .opened) ++ leBytes 1 (triesAt s w.target))
        else mismatch w.target s

/-- LOCK_OPEN (R72). -/
def execLockOpen (q : Request) (s : State) : Host.Outcome State Fault Refusal :=
  .next (serve .lockOpen q (fun _ => answerLockOpen q) s)

/-- R73: the record once its lock is cleared. -/
def unlockedRecord (r : Record) : Record := { r with lock := .none, password := none, lockLevel := .high }

/-- R73: selector, password (8). -/
def answerLockClear (q : Request) (s : State) : Answer :=
  match resolveLock s (q.byte 0) q.rank true with
  | .refused st => refuse st s
  | .window w =>
    let r := recordAt s w.target
    if s.save.frozen then refuse .frozen s
    else if r.lock = .locked then refuse .locked s
    else if r.lock = .none then .now s .ok []
    else if triesAt s w.target = 0 then refuse .triesExhausted s
    else if passwordMatches r.password (q.password 1) then .now (setRecord w.target (unlockedRecord r) s) .ok []
    else mismatch w.target s

/-- LOCK_CLEAR (R73). -/
def execLockClear (q : Request) (s : State) : Host.Outcome State Fault Refusal :=
  .next (serve .lockClear q (fun _ => answerLockClear q) s)

/-! ## MASTER_SET and LOCK_FREEZE (R75, R76) -/

/-- R75: password (8). -/
def answerMasterSet (q : Request) (s : State) : Answer :=
  if s.save.frozen then refuse .frozen s
  else .now { s with save := { s.save with kept := { s.save.kept with master := some (q.password 0) } } } .ok []

/-- MASTER_SET (R75). -/
def execMasterSet (q : Request) (s : State) : Host.Outcome State Fault Refusal :=
  .next (serve .masterSet q (fun _ => answerMasterSet q) s)

/-- R76. -/
def answerLockFreeze (s : State) : Answer := .now { s with save := { s.save with frozen := true } } .ok []

/-- LOCK_FREEZE (R76). -/
def execLockFreeze (q : Request) (s : State) : Host.Outcome State Fault Refusal :=
  .next (serve .lockFreeze q (fun _ => answerLockFreeze) s)

/-! ## ERASE_ARM and ERASE (R77 to R79) -/

/-- R78: selector. -/
def answerEraseArm (q : Request) (s : State) : Answer :=
  match resolveLock s (q.byte 0) q.rank true with
  | .refused st => refuse st s
  | .window _ =>
    if s.save.frozen then refuse .frozen s
    else .now { s with link := { s.link with latch := some ⟨q.byte 0, q.rank⟩ } } .ok []

/-- ERASE_ARM (R78). -/
def execEraseArm (q : Request) (s : State) : Host.Outcome State Fault Refusal :=
  .next (serve .eraseArm q (fun _ => answerEraseArm q) s)

/-- R79: the title slot as an erase slot on a resolved window. -/
def eraseSlot (w : Window) (tag : Byte) (sl : Slot) : Slot :=
  { freedSlot sl with
    kind := .erase, target := w.target, base := w.base, length := w.length, offset := w.offset
    selector := w.selector, level := w.level, tag := tag, fullPass := true }

/-- R79: the accepted erase: the title slot is taken and joins the queue. -/
def queueErase (w : Window) (tag : Byte) (s : State) : State :=
  joinQueue .title (setSlot .title (eraseSlot w tag s.save.kept.title) s)

/-- R79: selector, mode, password (8); `arm` is the presented arm. -/
def answerErase (q : Request) (arm : Option Arm) (s : State) : Answer :=
  match resolveLock s (q.byte 0) q.rank true with
  | .refused st => refuse st s
  | .window w =>
    let r := recordAt s w.target
    if s.save.frozen then refuse .frozen s
    else if arm ≠ some ⟨q.byte 0, q.rank⟩ then refuse .notArmed s
    else if s.save.kept.title.state ≠ .free then refuse .busy s
    else if inWarn s then refuse .power s
    else if r.lock = .locked ∧ triesAt s w.target = 0 then refuse .triesExhausted s
    else match modeOf (q.byte 1) with
      | none => refuse .badValue s
      | some m =>
        if r.lock = .locked ∧ !passwordMatches (storedPassword s w.target m) (q.password 2) then mismatch w.target s
        else .now (settle (queueErase w q.tag s)) .started []

/-- ERASE (R79). -/
def execErase (q : Request) (s : State) : Host.Outcome State Fault Refusal :=
  .next (serve .erase q (fun arm => answerErase q arm) s)

end Sys2Proof.Machine
end

