-- ==== Sys2Proof/Machine/Flags.lean ====
section
/-! DEFINITION. The mixer's arithmetic from stage 4 on, and its flags (R142 to R147). -/

namespace Sys2Proof.Machine

/-- R143: the divisor of stage 5, 2³². -/
def mixScale : Int := 4294967296

/-- R143: stage 5, M / 2³² rounded by the mode. -/
def roundQuotient (mode : Rounding) (m : Int) : Int :=
  let q := m / mixScale
  let r := m % mixScale
  match mode with
  | .floor => q
  | .ceiling => if r = 0 then q else q + 1
  | .zero => if r = 0 ∨ 0 ≤ m then q else q + 1
  | .nearest =>
    if 2 * r < mixScale then q
    else if mixScale < 2 * r then q + 1
    else if q % 2 = 0 then q else q + 1

/-- R144: stage 6, saturation to −32 768 … 32 767. -/
def saturate (v : Int) : Int := if 32767 < v then 32767 else if v < -32768 then -32768 else v

/-- R145: CLIP's condition, on the stage-5 result. -/
def clips (stage5 : Int) : Bool := decide (saturate stage5 ≠ stage5)

/-- R145: FADE's condition. -/
def fades (m stage5 : Int) : Bool := decide (m ≠ 0 ∧ stage5 = 0)

/-- R145: INEXACT's condition. -/
def isInexact (m : Int) : Bool := decide (m % mixScale ≠ 0)

/-- The eight flags as one byte, in the bit order of R200. -/
def packFlags (clipL clipR starveL starveR fadeL fadeR inexactL inexactR : Bool) : BitVec 8 :=
  BitVec.ofNat 8 (flagCode clipL + 2 * flagCode clipR + 4 * flagCode starveL + 8 * flagCode starveR
    + 16 * flagCode fadeL + 32 * flagCode fadeR + 64 * flagCode inexactL + 128 * flagCode inexactR)

/-- The flags whose kind is in an enable set: an enable names a kind and applies to both channels (section 8.1). -/
def enabledFlags (enables : BitVec 4) : BitVec 8 :=
  packFlags (enables.getLsbD 0) (enables.getLsbD 0) (enables.getLsbD 1) (enables.getLsbD 1)
    (enables.getLsbD 2) (enables.getLsbD 2) (enables.getLsbD 3) (enables.getLsbD 3)

/-- R147: the newly set flags of enabled kinds, of a frame that finds `before` and judges `found`. -/
def reportedFlags (before found : BitVec 8) (enables : BitVec 4) : BitVec 8 :=
  found &&& ~~~before &&& enabledFlags enables

/-- R147: the kind of highest priority in a set of flags. -/
def highestKind (flags : BitVec 8) : FlagKind :=
  if flags &&& 0x03#8 ≠ 0 then .clip
  else if flags &&& 0x0C#8 ≠ 0 then .starve
  else if flags &&& 0x30#8 ≠ 0 then .fade
  else .inexact

end Sys2Proof.Machine
end

