-- ==== Sys2Proof/Machine/Voice.lean ====
section
/-! DEFINITION. The voice requests (R122 to R130, R139), the envelope tick (R134) and a voice refill's completion
(R137). -/

namespace Sys2Proof.Machine

/-! ## VOICE_SETUP (R122, R123) -/

/-- R122: the fields of a VOICE_SETUP: voice, format, selector, start (3), loop start (3), end (3), looping, duty. -/
structure Setup where
  voice     : Nat
  format    : Nat
  selector  : Nat
  startPos  : Nat
  loopStart : Nat
  endPos    : Nat
  looping   : Nat
  duty      : Nat
deriving DecidableEq, Repr

/-- R199. -/
def setupOf (q : Request) : Setup :=
  ⟨q.byte 0, q.byte 1, q.byte 2, q.triple 3, q.triple 6, q.triple 9, q.byte 12, q.byte 13⟩

/-- R14: the bounds test of a PCM VOICE_SETUP. -/
def setupFits (u : Setup) (f : Format) (w : Window) : Bool :=
  decide (u.startPos < u.endPos ∧ u.loopStart < u.endPos ∧ u.endPos * sampleBytes f ≤ w.length)

/-- R122 step 1: the resolution of a PCM format; none for the formats that resolve nothing. -/
def setupResolution (u : Setup) (q : Nat) (s : State) : Option Resolution :=
  match formatOf u.format with
  | some f => if isPcm f then some (resolve s u.selector q kindSample false .none (setupFits u f)) else none
  | none => none

/-- R122, steps 2 to 4. -/
def setupRefusal (u : Setup) (s : State) : Option Status :=
  if u.voice ≤ 7 ∧ (voiceAt s u.voice).state ≠ .idle then some .busy
  else if (formatOf u.format = some .pulse ∨ formatOf u.format = some .noise)
      ∧ (u.endPos ≤ u.startPos ∨ u.endPos ≤ u.loopStart) then some .outOfBounds
  else if 7 < u.voice ∨ formatOf u.format = none ∨ choice u.looping = none then some .badValue
  else none

/-- R122: the duty clamped to 1 … 7. -/
def clampDuty (d : Nat) : Nat := max 1 (min 7 d)

/-- R123: the voice record after an accepted VOICE_SETUP with cached window `win`. -/
def setUpVoice (u : Setup) (win : Option (Nat × Nat)) (v : Voice) : Voice :=
  { v with
    format := (formatOf u.format).getD .pulse, window := win, startPos := u.startPos, loopStart := u.loopStart
    endPos := u.endPos, looping := (choice u.looping).getD false, duty := clampDuty u.duty
    index := u.startPos, fraction := 0, run := [], runOffset := 0 }

/-- R123: the reply's cached base and length, or none. -/
def windowBytes : Option (Nat × Nat) → List Byte
  | some (b, l) => leBytes 4 b ++ leBytes 4 l
  | none => absentField 4 ++ absentField 4

/-- R122 steps 2 to 4 and R123, once the window is known. -/
def finishSetup (u : Setup) (win : Option (Nat × Nat)) (s : State) : Answer :=
  match setupRefusal u s with
  | some st => refuse st s
  | none =>
    .now (settle (staleRefill u.voice (setVoice u.voice (setUpVoice u win (voiceAt s u.voice)) s))) .ok (windowBytes win)

/-- R122. -/
def answerVoiceSetup (q : Request) (s : State) : Answer :=
  match setupResolution (setupOf q) q.rank s with
  | some (.refused st) => refuse st s
  | some (.window w) => finishSetup (setupOf q) (some (w.base, w.length)) s
  | none => finishSetup (setupOf q) none s

/-- VOICE_SETUP (R122). -/
def execVoiceSetup (q : Request) (s : State) : Host.Outcome State Fault Refusal :=
  .next (serve .voiceSetup q (fun _ => answerVoiceSetup q) s)

/-! ## VOICE_PITCH, VOICE_LEVEL, VOICE_RAMP (R124 to R126) -/

/-- R124: the rate, 0 clamped to 1. -/
def clampRate (r : Nat) : Nat := max 1 r

/-- R126: a step clamped to 1 … 1023. -/
def clampStep (v : Nat) : Nat := max 1 (min 1023 v)

/-- R124: voice, rate (2). -/
def answerVoicePitch (q : Request) (s : State) : Answer :=
  if 7 < q.byte 0 then refuse .badValue s
  else .now (setVoice (q.byte 0) { voiceAt s (q.byte 0) with rate := clampRate (q.word 1) } s) .ok
    (leBytes 2 (clampRate (q.word 1)))

/-- VOICE_PITCH (R124). -/
def execVoicePitch (q : Request) (s : State) : Host.Outcome State Fault Refusal :=
  .next (serve .voicePitch q (fun _ => answerVoicePitch q) s)

/-- R125: voice, volume, pan. -/
def answerVoiceLevel (q : Request) (s : State) : Answer :=
  if 7 < q.byte 0 then refuse .badValue s
  else .now (setVoice (q.byte 0)
      { voiceAt s (q.byte 0) with volume := min 127 (q.byte 1), pan := min 128 (q.byte 2) } s) .ok
    (leBytes 1 (min 127 (q.byte 1)) ++ leBytes 1 (min 128 (q.byte 2)))

/-- VOICE_LEVEL (R125). -/
def execVoiceLevel (q : Request) (s : State) : Host.Outcome State Fault Refusal :=
  .next (serve .voiceLevel q (fun _ => answerVoiceLevel q) s)

/-- R126: voice, target (2), step (2). -/
def answerVoiceRamp (q : Request) (s : State) : Answer :=
  if 7 < q.byte 0 then refuse .badValue s
  else .now (setVoice (q.byte 0)
      { voiceAt s (q.byte 0) with target := min 1023 (q.word 1), step := clampStep (q.word 3) } s) .ok
    (leBytes 2 (min 1023 (q.word 1)) ++ leBytes 2 (clampStep (q.word 3)))

/-- VOICE_RAMP (R126). -/
def execVoiceRamp (q : Request) (s : State) : Host.Outcome State Fault Refusal :=
  .next (serve .voiceRamp q (fun _ => answerVoiceRamp q) s)

/-! ## VOICE_KEY_ON, VOICE_KEY_OFF, VOICE_STOP (R127 to R130) -/

/-- R127: a voice keyed on. -/
def keyedOn (v : Voice) : Voice :=
  { v with
    state := .playing, index := v.startPos, fraction := 0, e := 0, noise := 0x7FFF#15, last := 0
    priming := isPcm v.format, run := [], runOffset := 0 }

/-- R127: voice. -/
def answerVoiceKeyOn (q : Request) (s : State) : Answer :=
  if 7 < q.byte 0 then refuse .badValue s
  else .now (settle (staleRefill (q.byte 0) (setVoice (q.byte 0) (keyedOn (voiceAt s (q.byte 0))) s))) .ok []

/-- VOICE_KEY_ON (R127). -/
def execVoiceKeyOn (q : Request) (s : State) : Host.Outcome State Fault Refusal :=
  .next (serve .voiceKeyOn q (fun _ => answerVoiceKeyOn q) s)

/-- R128: a voice keyed off. -/
def keyedOff (step : Nat) (v : Voice) : Voice :=
  if v.state = .idle then v else { v with state := .releasing, releaseStep := step }

/-- R128: voice, step (2). -/
def answerVoiceKeyOff (q : Request) (s : State) : Answer :=
  if 7 < q.byte 0 then refuse .badValue s
  else .now (setVoice (q.byte 0) (keyedOff (clampStep (q.word 1)) (voiceAt s (q.byte 0))) s) .ok []

/-- VOICE_KEY_OFF (R128). -/
def execVoiceKeyOff (q : Request) (s : State) : Host.Outcome State Fault Refusal :=
  .next (serve .voiceKeyOff q (fun _ => answerVoiceKeyOff q) s)

/-- R130: a PLAYING or RELEASING voice goes IDLE; an IDLE voice is left as it is. -/
def stopVoice (n : Nat) (s : State) : State :=
  if (voiceAt s n).state = .idle then s
  else postRefills (staleRefill n (setVoice n (idleVoice (voiceAt s n)) s))

/-- R130: voice. -/
def answerVoiceStop (q : Request) (s : State) : Answer :=
  if 7 < q.byte 0 then refuse .badValue s
  else .now (stopVoice (q.byte 0) s) .ok (leBytes 1 (voiceStateCode (voiceAt s (q.byte 0)).state))

/-- VOICE_STOP (R130). -/
def execVoiceStop (q : Request) (s : State) : Host.Outcome State Fault Refusal :=
  .next (serve .voiceStop q (fun _ => answerVoiceStop q) s)

/-! ## VOICE_READ (R139) -/

/-- R139, R23: the class of the voice's waiting refill: none absent, ordinary 0, urgent 1 (log 13). -/
def refillClass (s : State) (n : Nat) : Option Nat :=
  if s.port.refills.contains n then some (flagCode (isUrgent s n)) else none

/-- R139: the buffer fields, which the rule gives of a PCM voice alone. That a PULSE or NOISE voice's reply carries them as
absent, and does not leave them out, is the model's choice (log 13). -/
def bufferBytes (s : State) (n : Nat) : List Byte :=
  let v := voiceAt s n
  if isPcm v.format then
    leBytes 1 v.run.length ++ leBytes 1 (bytesAhead v) ++ optField 1 (refillClass s n)
  else absentField 1 ++ absentField 1 ++ absentField 1

/-- R139: the voice record. -/
def voiceReadPayload (s : State) (n : Nat) : List Byte :=
  let v := voiceAt s n
  leBytes 1 (voiceStateCode v.state) ++ leBytes 1 (formatCode v.format) ++ leBytes 1 (flagCode v.priming)
    ++ windowBytes v.window ++ leBytes 3 v.startPos ++ leBytes 3 v.loopStart ++ leBytes 3 v.endPos
    ++ leBytes 1 (flagCode v.looping) ++ leBytes 1 v.duty ++ leBytes 2 v.rate ++ leBytes 3 v.index
    ++ leBytes 2 v.fraction ++ leBytes 2 v.e ++ leBytes 2 v.target ++ leBytes 2 v.step ++ leBytes 2 v.releaseStep
    ++ leBytes 1 v.volume ++ leBytes 1 v.pan ++ leBytes 2 v.noise.toNat ++ leInt 2 v.last ++ bufferBytes s n

/-- R139: voice. -/
def answerVoiceRead (q : Request) (s : State) : Answer :=
  if 7 < q.byte 0 then refuse .badValue s else .now s .ok (voiceReadPayload s (q.byte 0))

/-- VOICE_READ (R139). -/
def execVoiceRead (q : Request) (s : State) : Host.Outcome State Fault Refusal :=
  .next (serve .voiceRead q (fun _ => answerVoiceRead q) s)

/-! ## The envelope tick (R134) -/

/-- R134: the envelope's move in PLAYING: toward the target by the step, without passing it. -/
def rampTo (e target step : Nat) : Nat :=
  if e < target then min (e + step) target else if target < e then max (e - step) target else e

/-- R134: a voice's tick work. -/
def envelopeVoice (v : Voice) : Voice :=
  match v.state with
  | .idle => v
  | .playing => { v with e := rampTo v.e v.target v.step }
  | .releasing =>
    if v.e - v.releaseStep = 0 then idleVoice v else { v with e := v.e - v.releaseStep }

/-- R134: the voice ends its release at this tick. -/
def releaseEnds (v : Voice) : Bool := v.state == .releasing && v.e - v.releaseStep == 0

/-- R31, R121: a burst in flight for a voice of the set will be discarded. -/
def staleRefills (ended : Nat → Bool) (s : State) : State :=
  match s.port.burst with
  | some (.refill m a c st) => { s with port := { s.port with burst := some (.refill m a c (st || ended m)) } }
  | _ => s

/-- R138: VOICE_END queued for the voices that ended, if any. -/
def reportEnds (ended : Nat → Bool) (why : VoiceEndReason) (s : State) : State :=
  if maskOf ended = 0 then s else notify (.voiceEnd (maskOf ended) why) s

/-- R134, R138: the envelope moves of all voices at a tick. -/
def moveEnvelopes (s : State) : State :=
  let ended := fun n => releaseEnds (voiceAt s n)
  settle (reportEnds ended .released (staleRefills ended
    { s with voices := Vector.ofFn (fun i : Fin 8 => envelopeVoice s.voices[i]) }))

/-- ENVELOPE_TICK (R134). While the supply is WARN no envelope moves (R140), and while it is OFF there are no voices. -/
def execEnvelopeTick (s : State) : Host.Outcome State Fault Refusal :=
  .next (if slotUp s && !inWarn s then moveEnvelopes s else s)

/-! ## The refill's completion (R137) -/

/-- The cells a burst from address `a` brought. -/
def cellsFrom (a : Nat) : List Byte → List Host.Cell
  | [] => []
  | b :: bs => (a, b) :: cellsFrom (a + 1) bs

/-- R129, R133: the position's sample is present in the run. -/
def samplePresent (v : Voice) : Bool := decide (v.runOffset + sampleBytes v.format ≤ v.run.length)

/-- R137: a burst's bytes appended to the run; priming ends when the start sample is now present. -/
def appendBurst (a : Nat) (bytes : List Byte) (v : Voice) : Voice :=
  let v' := { v with run := v.run ++ cellsFrom a bytes }
  { v' with priming := v.priming && !samplePresent v' }

/-- R137: the bytes of a refill reach the voice, unless they are to be discarded. -/
def deliverRefill (n a : Nat) (stale : Bool) (bytes : List Byte) (s : State) : State :=
  if stale then s else setVoice n (appendBurst a bytes (voiceAt s n)) s

/-- REFILL_COMPLETION (R137). With no refill in progress there is no such event (log 2). -/
def execRefillCompletion (bus : List Byte) (s : State) : Host.Outcome State Fault Refusal :=
  match s.port.burst with
  | some (.refill n a c stale) =>
    .next (settle (deliverRefill n a stale (burstBytes s.rom a c bus) (freeBus s)))
  | _ => .next s

end Sys2Proof.Machine
end

