-- ==== Sys2Proof/Machine/Mixer.lean ====
section
/-! DEFINITION. The audio frame (R131 to R133, R138, R141 to R147) and the mixer's two requests (R148, R149). -/

namespace Sys2Proof.Machine

/-! ## A voice's frame work (R131 to R133) -/

/-- R141: the voice takes part in the mix. -/
def sounding (v : Voice) : Bool := v.state != .idle

/-- R131: the voice forms a sample and advances in a frame. -/
def steps (v : Voice) : Bool := sounding v && !v.priming

/-- The `n` bytes of the run from the run offset on. -/
def runBytes (v : Voice) (n : Nat) : List Byte := ((v.run.drop v.runOffset).take n).map Prod.snd

/-- R132: the two levels of the generated formats. -/
def generatedLevel (high : Bool) : Int := if high then 16384 else -16384

/-- R132, R133: the sample at the position's index; a PCM sample that is not present is the last sample. -/
def sampleOf (v : Voice) : Int :=
  match v.format with
  | .pulse => generatedLevel (v.index % 8 < v.duty)
  | .noise => generatedLevel (!v.noise.getLsbD 0)
  | .pcm8 => if samplePresent v then signedOf 1 (leNat (runBytes v 1)) * 256 else v.last
  | .pcm16 => if samplePresent v then signedOf 2 (leNat (runBytes v 2)) else v.last

/-- R133: the voice starves in this frame. -/
def starves (v : Voice) : Bool := steps v && isPcm v.format && !samplePresent v

/-- R132: one shift of the noise register. -/
def shiftNoise (r : BitVec 15) : BitVec 15 :=
  (r >>> 1) ||| (if r.getLsbD 0 != r.getLsbD 1 then 0x4000#15 else 0)

/-- R132: `n` shifts. -/
def shiftNoiseBy : Nat → BitVec 15 → BitVec 15
  | 0, r => r
  | n + 1, r => shiftNoiseBy n (shiftNoise r)

/-- R131 step 2: the whole samples a frame advances. -/
def samplesAdvanced (v : Voice) : Nat := (v.fraction + v.rate) / 4096

/-- R131 steps 1 and 2: the last sample, the position, the run offset (PCM) and the noise register (NOISE). The index is
the exact sum of R131, also where a voice that ends passes R120's range by it (log 27). -/
def advanceVoice (v : Voice) : Voice :=
  let n := samplesAdvanced v
  { v with
    last := sampleOf v
    index := v.index + n
    fraction := (v.fraction + v.rate) % 4096
    runOffset := if isPcm v.format then v.runOffset + n * sampleBytes v.format else v.runOffset
    noise := if v.format = .noise then shiftNoiseBy n v.noise else v.noise }

/-- R131 step 3: the loop's wrap. -/
def wrapIndex (v : Voice) : Nat := v.loopStart + (v.index - v.loopStart) % (v.endPos - v.loopStart)

/-- R131 step 3: end or loop. -/
def endOrLoop (v : Voice) : Voice :=
  if v.index < v.endPos then v
  else if v.looping then { v with index := wrapIndex v }
  else idleVoice v

/-- R131: a voice's record after a frame. -/
def frameVoice (v : Voice) : Voice := if steps v then endOrLoop (advanceVoice v) else v

/-- R131 step 3: the voice ends in this frame. -/
def frameEnds (v : Voice) : Bool := steps v && !v.looping && decide (v.endPos ≤ v.index + samplesAdvanced v)

/-! ## The mix (R141 to R147) -/

/-- R141: the sample a voice gives the mix: 0 while it is priming. -/
def mixSample (v : Voice) : Int := if v.priming then 0 else sampleOf v

/-- R142 stage 1. -/
def voiceTerm (v : Voice) : Int := if sounding v then mixSample v * v.e * v.volume else 0

/-- R142 stages 2 and 3, left. -/
def leftSum (s : State) : Int :=
  ((List.range 8).map (fun n => voiceTerm (voiceAt s n) * (128 - ((voiceAt s n).pan : Int)))).sum

/-- R142 stages 2 and 3, right. -/
def rightSum (s : State) : Int :=
  ((List.range 8).map (fun n => voiceTerm (voiceAt s n) * ((voiceAt s n).pan : Int))).sum

/-- R133, R146: a voice starves on the left. -/
def starvesLeft (s : State) : Bool :=
  (List.range 8).any (fun n => starves (voiceAt s n) && decide ((voiceAt s n).pan < 128))

/-- R133, R146: a voice starves on the right. -/
def starvesRight (s : State) : Bool :=
  (List.range 8).any (fun n => starves (voiceAt s n) && decide (0 < (voiceAt s n).pan))

/-- R142 stage 4, left. -/
def leftMaster (s : State) : Int := leftSum s * s.mixer.master

/-- R142 stage 4, right. -/
def rightMaster (s : State) : Int := rightSum s * s.mixer.master

/-- R143: stage 5 of a stage-4 value under the mixer's mode. -/
def stageFive (s : State) (m : Int) : Int := roundQuotient s.mixer.mode m

/-- R145, R146: the flags whose conditions hold in this frame. -/
def judgedFlags (s : State) : BitVec 8 :=
  let l := leftMaster s
  let r := rightMaster s
  packFlags (clips (stageFive s l)) (clips (stageFive s r)) (starvesLeft s) (starvesRight s)
    (fades l (stageFive s l)) (fades r (stageFive s r)) (isInexact l) (isInexact r)

/-- R144 to R146: the mixer after a frame. -/
def mixed (s : State) : Mixer :=
  { s.mixer with
    left := saturate (stageFive s (leftMaster s)), right := saturate (stageFive s (rightMaster s))
    flags := s.mixer.flags ||| judgedFlags s }

/-- R147: the newly set flags of enabled kinds of the frame that `s` finds. -/
def frameReport (s : State) : BitVec 8 := reportedFlags s.mixer.flags (judgedFlags s) s.mixer.enables

/-- R147: one MIX_FLAGS for a set of newly set, enabled flags. -/
def reportFlags (flags : BitVec 8) (s : State) : State :=
  if flags = 0 then s else notify (.mixFlags flags (highestKind flags)) s

/-- R138, R147: the notices of a frame. Where both are due, their order is a free value (log 11). -/
def reportFrame (ended : Nat → Bool) (flags : BitVec 8) (s : State) : State :=
  if maskOf ended ≠ 0 ∧ flags ≠ 0 then
    let s1 := { s with free := s.free + 1 }
    if Config.voiceEndQueuedFirst s.free then reportFlags flags (reportEnds ended .ended s1)
    else reportEnds ended .ended (reportFlags flags s1)
  else reportFlags flags (reportEnds ended .ended s)

/-- R131, R141: the frame while the sound engine computes: voices, mixer, notices, and what they set off. -/
def soundFrame (s : State) : State :=
  let ended := fun n => frameEnds (voiceAt s n)
  settle (reportFrame ended (frameReport s) (staleRefills ended
    { s with voices := Vector.ofFn (fun i : Fin 8 => frameVoice s.voices[i]), mixer := mixed s }))

/-- The crystal's frame counted towards the next tick (00_scope.md section 4.4, R83). -/
def countFrame (s : State) : State := { s with clock := { s.clock with divider := s.clock.divider + 1 } }

/-- FRAME (R131, R141). In WARN no frame is computed (R140, R151), and in OFF there is no sound engine; the divider
counts in every supply state. -/
def execFrame (s : State) : Host.Outcome State Fault Refusal :=
  .next (if slotUp s && !inWarn s then soundFrame (countFrame s) else countFrame s)

/-! ## MIX_CONFIG and MIX_FLAGS (R148, R149) -/

/-- The master volume, rounding mode and output enable, as replies carry them. -/
def settingsBytes (m : Mixer) : List Byte :=
  leBytes 2 m.master ++ leBytes 1 (roundingCode m.mode) ++ leBytes 1 (flagCode m.output)

/-- R149: the mixer with new settings. -/
def configured (master : Nat) (mode : Rounding) (output : Bool) (m : Mixer) : Mixer :=
  { m with master := min 256 master, mode := mode, output := output }

/-- R149: master (2), rounding mode, output enable. R165: the ceiling follows the output reservation. -/
def answerMixConfig (q : Request) (s : State) : Answer :=
  match roundingOf (q.byte 2), choice (q.byte 3) with
  | some mode, some output =>
    let m := configured (q.word 0) mode output s.mixer
    .now (recompute { s with mixer := m }) .ok (settingsBytes m)
  | _, _ => refuse .badValue s

/-- MIX_CONFIG (R149). -/
def execMixConfig (q : Request) (s : State) : Host.Outcome State Fault Refusal :=
  .next (serve .mixConfig q (fun _ => answerMixConfig q) s)

/-- R148: the enable set an enable choice leaves: FFh keeps it, a kind set replaces it, any other value is malformed. -/
def enableChoice (v : Nat) (kept : BitVec 4) : Option (BitVec 4) :=
  if v = 255 then some kept else if v < 16 then some (BitVec.ofNat 4 v) else none

/-- R148: clear set, enable choice. -/
def answerMixFlags (q : Request) (s : State) : Answer :=
  match enableChoice (q.byte 1) s.mixer.enables with
  | none => refuse .badValue s
  | some enables =>
    let m := { s.mixer with flags := s.mixer.flags &&& ~~~(BitVec.ofNat 8 (q.byte 0)), enables := enables }
    .now { s with mixer := m } .ok
      (leBytes 1 s.mixer.flags.toNat ++ leBytes 1 m.flags.toNat ++ leBytes 1 enables.toNat ++ settingsBytes m)

/-- MIX_FLAGS (R148). -/
def execMixFlags (q : Request) (s : State) : Host.Outcome State Fault Refusal :=
  .next (serve .mixFlags q (fun _ => answerMixFlags q) s)

end Sys2Proof.Machine
end

