-- ==== Sys2Proof/Machine/Rumble.lean ====
section
/-! DEFINITION. The rumble driver: its tick work (R159 to R169), its six requests and shedding (R156 to R172). -/

namespace Sys2Proof.Machine

/-- A RUMBLE_STATE notice queued (R171). -/
def reportRumble (r : RumbleReport) (s : State) : State := notify (.rumbleState r) s

/-- The rumble driver's records replaced. -/
def setRumble (r : Rumble) (s : State) : State := { s with rumble := r }

/-! ## Patterns and entries (R156, R157) -/

/-- The step list of pattern `p`. -/
def patternAt (r : Rumble) (p : Nat) : List PatternStep := r.patterns[p]?.getD []

/-- The duration of step `k` of pattern `p`. -/
def durationAt (r : Rumble) (p k : Nat) : Nat := (((patternAt r p)[k]?).map PatternStep.duration).getD 0

/-- The strength of step `k` of pattern `p`. -/
def strengthAt (r : Rumble) (p k : Nat) : Nat := (((patternAt r p)[k]?).map PatternStep.strength).getD 0

/-- R157: an entry starts. -/
def startEntry (r : Rumble) (x : PlayerEntry) : PlayerEntry :=
  { x with stepIndex := 0, ticksLeft := durationAt r x.pattern 0 }

/-- R160, R161: the current entry leaves, and the head of the waiting list, if there is one, starts. -/
def startNext (r : Rumble) : Rumble :=
  match r.waiting with
  | [] => { r with current := none }
  | x :: rest => { r with current := some (startEntry r x), waiting := rest }

/-- R157, R158: a new entry inserted after every waiting entry of equal or higher priority. -/
def insertEntry (x : PlayerEntry) : List PlayerEntry → List PlayerEntry
  | [] => [x]
  | y :: ys => if y.priority < x.priority then x :: y :: ys else y :: insertEntry x ys

/-- R158: the position, from 1, at which `insertEntry` places an entry. -/
def insertPosition (x : PlayerEntry) : List PlayerEntry → Nat
  | [] => 1
  | y :: ys => if y.priority < x.priority then 1 else insertPosition x ys + 1

/-! ## The tick work (R159) -/

/-- R166: Q after a heat tick. -/
def heated (q applied : Nat) : Nat := min 65535 (q + applied - 96)

/-- R167: the limiter after a heat tick that left Q at `q`. -/
def limited (q : Nat) (limiter : Bool) : Bool := if limiter then decide (32768 < q) else decide (49152 ≤ q)

/-- R167: LIMIT_ON or LIMIT_OFF, when the limiter changes. -/
def reportLimiter (before after : Bool) (s : State) : State :=
  if before = after then s else reportRumble (if after then .limitOn else .limitOff) s

/-- R159 step 1. -/
def heatStep (s : State) : State :=
  let r := s.rumble
  if r.heatCount = 15 then
    let q := heated r.heat r.applied
    reportLimiter r.limiter (limited q r.limiter)
      (setRumble { r with heat := q, limiter := limited q r.limiter, heatCount := 0 } s)
  else setRumble { r with heatCount := r.heatCount + 1 } s

/-- R169: what the hold timer's expiry finds to clear. -/
def drives (r : Rumble) : Bool := r.current.isSome || r.follow.isSome

/-- R159 step 2, R169. -/
def holdStep (s : State) : State :=
  let r := s.rumble
  match r.timer with
  | none => s
  | some n =>
    if 1 < n then setRumble { r with timer := some (n - 1) } s
    else if drives r then
      reportRumble .holdExpired (setRumble { r with timer := none, current := none, waiting := [], follow := none } s)
    else setRumble { r with timer := none } s

/-- R159 step 3: the pattern strength. -/
def patternStrength (r : Rumble) : Nat :=
  match r.current with
  | some x => strengthAt r x.pattern x.stepIndex
  | none => 0

/-- R163: the follow strength. -/
def followStrength (s : State) : Nat :=
  match s.rumble.follow with
  | some (n, g) => (voiceAt s n).e * g / 1023
  | none => 0

/-- R159 step 4, R163: the follow strength and the demand. -/
def demandStep (s : State) : State :=
  setRumble { s.rumble with
    lastFollow := followStrength s, lastDemand := max (patternStrength s.rumble) (followStrength s) } s

/-- R160: an entry whose pattern starts again at step 0. -/
def replayed (r : Rumble) (x : PlayerEntry) : PlayerEntry :=
  startEntry r { x with playsLeft := x.playsLeft - 1 }

/-- R160: the end of the current entry's step. The plays left of an endless entry are 0 and stay 0. -/
def endStep (x : PlayerEntry) (s : State) : State :=
  let r := s.rumble
  if x.stepIndex + 1 < (patternAt r x.pattern).length then
    setRumble { r with current := some { x with
      stepIndex := x.stepIndex + 1, ticksLeft := durationAt r x.pattern (x.stepIndex + 1) } } s
  else if x.playsLeft = 1 then reportRumble .finished (setRumble (startNext r) s)
  else setRumble { r with current := some (replayed r x) } s

/-- R159 step 6, R160. -/
def advanceStep (s : State) : State :=
  match s.rumble.current with
  | none => s
  | some x =>
    if 1 < x.ticksLeft then setRumble { s.rumble with current := some { x with ticksLeft := x.ticksLeft - 1 } } s
    else endStep x s

/-- R159: the driver's work at a tick. -/
def tickWork (s : State) : State := advanceStep (recompute (demandStep (holdStep (heatStep s))))

/-- RUMBLE_TICK (R159): the tick's whole work, with the heat tick, expiry or step end that it is (log 7). While the
supply is OFF there is no driver. -/
def execRumbleTick (s : State) : Host.Outcome State Fault Refusal := .next (if slotUp s then tickWork s else s)

/-- HEAT_TICK (R166, R167): the tick that is a heat tick (log 2, log 7). -/
def execHeatTick (s : State) : Host.Outcome State Fault Refusal :=
  .next (if slotUp s && s.rumble.heatCount == 15 then tickWork s else s)

/-- R169: the hold timer runs out at the tick about to be taken. -/
def holdExpires (s : State) : Bool :=
  match s.rumble.timer with
  | some n => decide (n ≤ 1)
  | none => false

/-- HOLD_TIMER_EXPIRY (R169): the tick at which the hold timer runs out (log 2, log 7). -/
def execHoldTimerExpiry (s : State) : Host.Outcome State Fault Refusal :=
  .next (if slotUp s && holdExpires s then tickWork s else s)

/-- R160: a step ends at the tick about to be taken: there is a current entry with one tick left, and the hold timer
does not clear it first. -/
def stepEnds (s : State) : Bool :=
  match s.rumble.current with
  | some x => decide (x.ticksLeft ≤ 1) && !holdExpires s
  | none => false

/-- STEP_END (R160): the tick at which a pattern step ends (log 2, log 7). -/
def execStepEnd (s : State) : Host.Outcome State Fault Refusal :=
  .next (if slotUp s && stepEnds s then tickWork s else s)

/-! ## RUMBLE_DEFINE (R156) -/

/-- R156: a duration clamped to 1 … 4095. -/
def clampDuration (d : Nat) : Nat := max 1 (min 4095 d)

/-- R199: the steps of a RUMBLE_DEFINE: strength, duration (2), with the durations clamped (R156). -/
def stepsOf : List Byte → List PatternStep
  | strength :: lo :: hi :: rest => ⟨strength.toNat, clampDuration (leNat [lo, hi])⟩ :: stepsOf rest
  | _ => []

/-- R156 step 1: the player holds pattern `p`. -/
def patternHeld (r : Rumble) (p : Nat) : Bool :=
  (r.current.any (fun x => x.pattern == p)) || r.waiting.any (fun x => x.pattern == p)

/-- R156: the length of one play in ticks. -/
def playLength (steps : List PatternStep) : Nat := (steps.map PatternStep.duration).sum

/-- R156: pattern, then s steps of strength and duration (2). -/
def answerRumbleDefine (q : Request) (s : State) : Answer :=
  let p := q.byte 0
  let steps := stepsOf (q.payload.drop 1)
  if patternHeld s.rumble p then refuse .busy s
  else if 15 < p ∨ 16 < steps.length then refuse .badValue s
  else
    .now (setRumble { s.rumble with patterns := s.rumble.patterns.setIfInBounds p steps } s) .ok
      (leBytes 1 steps.length ++ leBytes 2 (playLength steps))

/-- RUMBLE_DEFINE (R156). -/
def execRumbleDefine (q : Request) (s : State) : Host.Outcome State Fault Refusal :=
  .next (serve .rumbleDefine q (fun _ => answerRumbleDefine q) s)

/-! ## RUMBLE_PLAY (R158) -/

/-- R158: the placements of the reply. -/
inductive Placement where
  | startedNow | preempted
  | waiting (position : Nat)
deriving DecidableEq, Repr

/-- R158, R199: the placement, and the position, absent unless the entry waits (log 13). -/
def placementBytes : Placement → List Byte
  | .startedNow => leBytes 1 0 ++ absentField 1
  | .preempted => leBytes 1 1 ++ absentField 1
  | .waiting n => leBytes 1 2 ++ leBytes 1 n

/-- R168: the hold timer restarted. -/
def restartTimer (r : Rumble) : Rumble := { r with timer := if r.hold = 0 then none else some (r.hold * 1024) }

/-- R158: an entry as RUMBLE_PLAY places it, with the driver's arrival number. -/
def newEntry (r : Rumble) (pattern priority plays : Nat) : PlayerEntry :=
  { pattern := pattern, priority := priority, playsLeft := plays, arrival := r.arrival }

/-- R158 step 3: the waiting list is full and holds no priority below `priority`. The list is ordered, so its last entry
has the lowest priority. -/
def waitingRefuses (r : Rumble) (priority : Nat) : Bool :=
  decide (4 ≤ r.waiting.length) && (r.waiting.getLast?.all (fun y => decide (priority ≤ y.priority)))

/-- R158: the new entry would join the waiting list. -/
def wouldWait (r : Rumble) (priority : Nat) : Bool := r.current.any (fun c => decide (priority ≤ c.priority))

/-- R158, steps 1 to 3. -/
def playRefusal (q : Request) (s : State) : Option Status :=
  if inWarn s then some .power
  else if 15 < q.byte 0 ∨ 3 < q.byte 1 ∨ patternAt s.rumble (q.byte 0) = [] then some .badValue
  else if wouldWait s.rumble (q.byte 1) ∧ waitingRefuses s.rumble (q.byte 1) then some .queueFull
  else none

/-- R158: the entry joins the waiting list. From a full list the last entry, the latest of the lowest priority, is
removed first. -/
def placeWaiting (x : PlayerEntry) (s : State) : State × Placement :=
  let r := s.rumble
  if r.waiting.length < 4 then
    (setRumble { r with waiting := insertEntry x r.waiting } s, .waiting (insertPosition x r.waiting))
  else
    (reportRumble .displaced (setRumble { r with waiting := insertEntry x r.waiting.dropLast } s),
      .waiting (insertPosition x r.waiting.dropLast))

/-- R158: the placement of a new entry. -/
def place (x : PlayerEntry) (s : State) : State × Placement :=
  let started := setRumble { s.rumble with current := some (startEntry s.rumble x) } s
  match s.rumble.current with
  | none => (started, .startedNow)
  | some c => if c.priority < x.priority then (reportRumble .preempted started, .preempted) else placeWaiting x s

/-- R158: pattern, priority, plays. -/
def answerRumblePlay (q : Request) (s : State) : Answer :=
  match playRefusal q s with
  | some st => refuse st s
  | none =>
    let x := newEntry s.rumble (q.byte 0) (q.byte 1) (q.byte 2)
    let s1 := setRumble { restartTimer s.rumble with arrival := s.rumble.arrival + 1 } s
    .now (place x s1).1 .ok (placementBytes (place x s1).2)

/-- RUMBLE_PLAY (R158). -/
def execRumblePlay (q : Request) (s : State) : Host.Outcome State Fault Refusal :=
  .next (serve .rumblePlay q (fun _ => answerRumblePlay q) s)

/-! ## RUMBLE_CANCEL, RUMBLE_FOLLOW, RUMBLE_HOLD (R161, R162, R168) -/

/-- The number of current entries, 0 or 1. -/
def currentCount (r : Rumble) : Nat := if r.current.isSome then 1 else 0

/-- R161: scope: CURRENT 0, ALL 1. -/
def answerRumbleCancel (q : Request) (s : State) : Answer :=
  let r := s.rumble
  if q.byte 0 = 0 then
    .now (if r.current.isSome then setRumble (startNext r) s else s) .ok (leBytes 1 (currentCount r))
  else if q.byte 0 = 1 then
    .now (setRumble { r with current := none, waiting := [] } s) .ok (leBytes 1 (currentCount r + r.waiting.length))
  else refuse .badValue s

/-- RUMBLE_CANCEL (R161). -/
def execRumbleCancel (q : Request) (s : State) : Host.Outcome State Fault Refusal :=
  .next (serve .rumbleCancel q (fun _ => answerRumbleCancel q) s)

/-- A follow setting as replies carry it: choice, voice, gain; voice and gain absent when off (log 13). -/
def followBytes : Option (Nat × Nat) → List Byte
  | some (n, g) => leBytes 1 1 ++ leBytes 1 n ++ leBytes 1 g
  | none => leBytes 1 0 ++ absentField 1 ++ absentField 1

/-- R162: the update of an accepted RUMBLE_FOLLOW. -/
def setFollow (f : Option (Nat × Nat)) (s : State) : Answer :=
  .now (setRumble { restartTimer s.rumble with follow := f } s) .ok (followBytes s.rumble.follow)

/-- R162: choice, voice, gain. -/
def answerRumbleFollow (q : Request) (s : State) : Answer :=
  match choice (q.byte 0) with
  | none => refuse .badValue s
  | some false => setFollow none s
  | some true =>
    if inWarn s then refuse .power s
    else if 7 < q.byte 1 then refuse .badValue s
    else setFollow (some (q.byte 1, q.byte 2)) s

/-- RUMBLE_FOLLOW (R162). -/
def execRumbleFollow (q : Request) (s : State) : Host.Outcome State Fault Refusal :=
  .next (serve .rumbleFollow q (fun _ => answerRumbleFollow q) s)

/-- R168: seconds (2). -/
def answerRumbleHold (q : Request) (s : State) : Answer :=
  let h := min 255 (q.word 0)
  .now (setRumble (restartTimer { s.rumble with hold := h }) s) .ok (leBytes 2 h)

/-- RUMBLE_HOLD (R168). -/
def execRumbleHold (q : Request) (s : State) : Host.Outcome State Fault Refusal :=
  .next (serve .rumbleHold q (fun _ => answerRumbleHold q) s)

/-! ## RUMBLE_READ (R172) -/

/-- R172: the current entry, or absent. -/
def currentBytes : Option PlayerEntry → List Byte
  | some x =>
    leBytes 1 x.pattern ++ leBytes 1 x.priority ++ leBytes 1 x.playsLeft ++ leBytes 1 x.stepIndex ++ leBytes 2 x.ticksLeft
  | none => absentField 6

/-- R172: one place of the waiting list, or absent (log 13). -/
def waitingBytes : Option PlayerEntry → List Byte
  | some x => leBytes 1 x.pattern ++ leBytes 1 x.priority ++ leBytes 1 x.playsLeft
  | none => absentField 3

/-- R172: which reservations stand, as a set: output, copy. -/
def reservationSet (s : State) : Nat := flagCode (outputReservation s) + 2 * flagCode (copyReported s)

/-- R172: the driver as it stands. A stopped hold timer is written as an absent field, and the lists and sets as log 13
says. -/
def rumbleReadPayload (s : State) : List Byte :=
  let r := s.rumble
  currentBytes r.current
    ++ waitingBytes r.waiting[0]? ++ waitingBytes r.waiting[1]? ++ waitingBytes r.waiting[2]? ++ waitingBytes r.waiting[3]?
    ++ followBytes r.follow ++ leBytes 1 r.lastFollow ++ leBytes 1 r.lastDemand ++ leBytes 2 r.heat
    ++ leBytes 1 (flagCode r.limiter) ++ leBytes 1 (budget s.supply.state) ++ leBytes 1 (reservationSet s)
    ++ leBytes 1 r.ceiling ++ leBytes 1 r.applied ++ leBytes 2 r.hold ++ optField 3 r.timer

/-- R172. -/
def answerRumbleRead (s : State) : Answer := .now s .ok (rumbleReadPayload s)

/-- RUMBLE_READ (R172). -/
def execRumbleRead (q : Request) (s : State) : Host.Outcome State Fault Refusal :=
  .next (serve .rumbleRead q (fun _ => answerRumbleRead) s)

/-! ## Shedding (R170) -/

/-- R170: on the entry into WARN the player and follow are cleared, C and A recomputed, and SHED queued. -/
def shed (s : State) : State :=
  reportRumble .shed (recompute (setRumble { s.rumble with current := none, waiting := [], follow := none } s))

end Sys2Proof.Machine
end

