-- ==== Sys2Proof/Machine/Save.lean ====
section
/-! DEFINITION. The save requests (R36 to R43), the link read's completion (R42) and the commit engine's steps (R45 to
R49, R53, R54, R80, R81). -/

namespace Sys2Proof.Machine

/-! ## SAVE_READ (R42) -/

/-- R22, R27: a link read posted, with an empty passed set. -/
def postLinkRead (r : LinkRead) (s : State) : State :=
  { s with port := { s.port with linkRead := some r, passed := [] } }

/-- R42: selector, offset (4), count. -/
def answerSaveRead (q : Request) (s : State) : Answer :=
  let off := q.quad 1
  let count := q.byte 5
  match resolveSave s (q.byte 0) q.rank false (fun w => decide (off + count ≤ w.length)) with
  | .refused st => refuse st s
  | .window w =>
    if count = 0 ∨ 60 < count then refuse .badValue s
    else if (recordAt s w.target).state = .blank then .now s .ok (List.replicate count 0x00#8)
    else .later (grant (postLinkRead ⟨w.base + off, count, w.target⟩ s))

/-- SAVE_READ (R42). -/
def execSaveRead (q : Request) (s : State) : Host.Outcome State Fault Refusal :=
  .next (serve .saveRead q (fun _ => answerSaveRead q) s)

/-- R42: the status of a read served from SRAM, by the record as it stands at the completion. -/
def readStatus (s : State) (region : Nat) : Status :=
  if (recordAt s region).state = .damaged then .okDamaged else .ok

/-- R31, R42: the bytes of a link read go into the reply, unless the selection has ended since the grant. -/
def deliverRead (r : LinkRead) (stale : Bool) (bytes : List Byte) (s : State) : State :=
  match stale, s.link.selection with
  | false, .awaiting tag => replyWith (readStatus s r.region) tag bytes false s
  | _, _ => s

/-- LINK_READ_COMPLETION (R42). With no link read in progress there is no such event (log 2). -/
def execLinkReadCompletion (bus : List Byte) (s : State) : Host.Outcome State Fault Refusal :=
  match s.port.burst with
  | some (.linkRead r stale) =>
    .next (settle (deliverRead r stale (burstBytes s.sram r.addr r.count bus) (freeBus s)))
  | _ => .next s

/-! ## SAVE_BEGIN and SAVE_WRITE (R36 to R38) -/

/-- R36: the title slot COLLECTING on a resolved window. -/
def collectingSlot (w : Window) (tag : Byte) (sl : Slot) : Slot :=
  { freedSlot sl with
    state := .collecting, target := w.target, base := w.base, length := w.length, offset := w.offset
    selector := w.selector, level := w.level, tag := tag }

/-- R36: selector. -/
def answerSaveBegin (q : Request) (s : State) : Answer :=
  match resolveSave s (q.byte 0) q.rank true (fun _ => true) with
  | .refused st => refuse st s
  | .window w =>
    if s.save.kept.title.state ≠ .free then refuse .busy s
    else if inWarn s then refuse .power s
    else .now (setSlot .title (collectingSlot w q.tag s.save.kept.title) s) .ok []

/-- SAVE_BEGIN (R36). -/
def execSaveBegin (q : Request) (s : State) : Host.Outcome State Fault Refusal :=
  .next (serve .saveBegin q (fun _ => answerSaveBegin q) s)

/-- A staged block of index `i` exists. -/
def hasBlock (blocks : List StagedBlock) (i : Nat) : Bool := blocks.any (fun b => b.index == i)

/-- R38: the touched blocks that have no staged block yet, for `n` bytes from target offset `y`. -/
def newBlocks (blocks : List StagedBlock) (y n : Nat) : List Nat :=
  let first := y / 64
  let last := (y + n - 1) / 64
  (if last = first then [first] else [first, last]).filter (fun i => !hasBlock blocks i)

/-- R38: an empty staged block created at the end of first-touch order. -/
def createBlock (i : Nat) : StagedBlock := ⟨i, List.replicate 64 none⟩

/-- R38: one data byte stored at target offset `y` in its block, whose written set its position joins. -/
def stageByte (y : Nat) (b : Byte) (blocks : List StagedBlock) : List StagedBlock :=
  blocks.map (fun x => if x.index = y / 64 then { x with bytes := x.bytes.set (y % 64) (some b) } else x)

/-- R38: the data bytes stored from target offset `y` on. -/
def stageBytesFrom (y : Nat) (blocks : List StagedBlock) : List Byte → List StagedBlock
  | [] => blocks
  | b :: data => stageBytesFrom (y + 1) (stageByte y b blocks) data

/-- R38: the merge of a write at target offset `y`. -/
def mergeWrite (y : Nat) (data : List Byte) (blocks : List StagedBlock) : List StagedBlock :=
  stageBytesFrom y (blocks ++ (newBlocks blocks y data.length).map createBlock) data

/-- R37, R38: offset (4), then the data bytes. -/
def answerSaveWrite (q : Request) (s : State) : Answer :=
  let sl := s.save.kept.title
  let off := q.quad 0
  let data := q.payload.drop 4
  if sl.state ≠ .collecting then refuse .noTransaction s
  else if sl.level < q.rank then refuse .denied s
  else if sl.length < off + data.length then refuse .outOfBounds s
  else if 31 < sl.blocks.length + (newBlocks sl.blocks (sl.offset + off) data.length).length then refuse .stagingFull s
  else
    let blocks := mergeWrite (sl.offset + off) data sl.blocks
    .now (setSlot .title { sl with blocks := blocks } s) .ok (leBytes 1 blocks.length)

/-- SAVE_WRITE (R38). -/
def execSaveWrite (q : Request) (s : State) : Host.Outcome State Fault Refusal :=
  .next (serve .saveWrite q (fun _ => answerSaveWrite q) s)

/-! ## SAVE_COMMIT and SAVE_ABANDON (R39 to R41, R81) -/

/-- R39 step 1: the title slot can be committed: COLLECTING, or PENDING and held. -/
def committable (sl : Slot) : Bool := sl.state == .collecting || (sl.state == .pending && sl.held)

/-- R39 step 4, R81: the re-resolution of a commit or retry; an erase slot's uses the form ERASE used. -/
def reresolve (s : State) (sl : Slot) : Resolution :=
  resolve s sl.selector sl.level kindSave true
    (if sl.kind = .erase then .uncheckedOnly else .uncheckedAndLocked) (fun _ => true)

/-- R39: a commit with no staged block ends the transaction at once. -/
def endEmpty (tag : Byte) (s : State) : State :=
  let sl := s.save.kept.title
  setOutcome ⟨sl.target, Config.emptyCommitTag sl.tag tag, .commit, .committed, none⟩ (freeSlot .title s)

/-- R39: the full-pass flag of a first commit: set for a BLANK or DAMAGED record. -/
def needsFullPass (s : State) (target : Nat) : Bool :=
  (recordAt s target).state == .blank || (recordAt s target).state == .damaged

/-- R39, R40: the title slot takes the commit's tag, and its full-pass flag, and joins the queue. -/
def queueTitle (tag : Byte) (full : Bool) (s : State) : State :=
  joinQueue .title (setSlot .title { s.save.kept.title with tag := tag, fullPass := full } s)

/-- R39, R40. -/
def answerSaveCommit (q : Request) (s : State) : Answer :=
  let sl := s.save.kept.title
  if !committable sl then refuse .noTransaction s
  else if sl.level < q.rank then refuse .denied s
  else if inWarn s then refuse .power s
  else match reresolve s sl with
    | .refused st => refuse st s
    | .window _ =>
      if sl.state = .pending then .now (settle (queueTitle q.tag true s)) .started []
      else if sl.blocks.isEmpty then .now (endEmpty q.tag s) .ok []
      else .now (settle (queueTitle q.tag (needsFullPass s sl.target) s)) .started []

/-- SAVE_COMMIT (R39). -/
def execSaveCommit (q : Request) (s : State) : Host.Outcome State Fault Refusal :=
  .next (serve .saveCommit q (fun _ => answerSaveCommit q) s)

/-- R51: the operation of a slot's kind. -/
def opOfKind : SlotKind → SaveOp
  | .write => .commit
  | .erase => .erase

/-- R41. -/
def answerSaveAbandon (q : Request) (s : State) : Answer :=
  let sl := s.save.kept.title
  if sl.state = .free then refuse .noTransaction s
  else if sl.level < q.rank then refuse .denied s
  else if !committable sl then refuse .busy s
  else .now (setOutcome ⟨sl.target, q.tag, opOfKind sl.kind, .discarded, none⟩ (freeSlot .title s)) .ok []

/-- SAVE_ABANDON (R41). -/
def execSaveAbandon (q : Request) (s : State) : Host.Outcome State Fault Refusal :=
  .next (serve .saveAbandon q (fun _ => answerSaveAbandon q) s)

/-! ## SAVE_STATUS (R43) -/

/-- R43, R51: the outcome record's fields; outcome NONE and the fields with it are absent. -/
def outcomeBytes : Option OutcomeRecord → List Byte
  | some r =>
    leBytes 1 r.target ++ [r.tag] ++ leBytes 1 (saveOpCode r.op) ++ leBytes 1 (saveOutcomeCode r.outcome)
      ++ optField 4 r.faultOffset
  | none => absentField 1 ++ absentField 1 ++ absentField 1 ++ absentField 1 ++ absentField 4

/-- R43: the slot that is COPYING, if any. -/
def copyingSlot (s : State) : Option SlotId :=
  if s.save.kept.title.state = .copying then some .title
  else if s.save.kept.clock.state = .copying then some .clock
  else none

/-- R43: the title slot, the clock slot, the pending queue in two places, the slot COPYING, the outcome record. -/
def saveStatusPayload (s : State) : List Byte :=
  let t := s.save.kept.title
  let c := s.save.kept.clock
  let unlessFree (v : Nat) : Option Nat := if t.state = .free then none else some v
  leBytes 1 (slotStateCode t.state) ++ leBytes 1 (flagCode t.held) ++ leBytes 1 (slotKindCode t.kind)
    ++ leBytes 1 t.blocks.length ++ leBytes 1 t.faults ++ optField 1 (unlessFree t.target)
    ++ optField 1 (unlessFree t.selector) ++ optField 1 (unlessFree t.level)
    ++ leBytes 1 (slotStateCode c.state) ++ leBytes 1 (flagCode c.held) ++ leBytes 1 c.faults
    ++ optField 1 ((s.save.kept.queue[0]?).map slotIdCode) ++ optField 1 ((s.save.kept.queue[1]?).map slotIdCode)
    ++ optField 1 ((copyingSlot s).map slotIdCode) ++ outcomeBytes s.save.kept.outcome

/-- R43. -/
def answerSaveStatus (s : State) : Answer := .now s .ok (saveStatusPayload s)

/-- SAVE_STATUS (R43). -/
def execSaveStatus (q : Request) (s : State) : Host.Outcome State Fault Refusal :=
  .next (serve .saveStatus q (fun _ => answerSaveStatus) s)

/-! ## The copy (R45 to R49) -/

/-- R51, R53: the operation an ending carries: ROLL_FORWARD in phase 4. -/
def endingOp (s : State) (sl : Slot) : SaveOp := if s.supply.phase = 4 then .rollForward else opOfKind sl.kind

/-- R47, R53: the outcome of a completion. -/
def completionOutcome (s : State) : SaveOutcome := if s.supply.phase = 4 then .rolledForward else .committed

/-- The outcome record of a copy's ending. -/
def endingRecord (s : State) (sl : Slot) (o : SaveOutcome) (off : Option Nat) : OutcomeRecord :=
  ⟨sl.target, sl.tag, endingOp s sl, o, off⟩

/-- R47, R62, R80: the region record at the completion of a copy. -/
def completedRecord (sl : Slot) (c : Copy) (r : Record) : Record :=
  match sl.kind with
  | .write =>
    { r with state := .valid, generation := min 4294967295 (r.generation + 1),
             check := if sl.fullPass then c.fresh else c.running }
  | .erase => { state := .valid, generation := 0, check := c.fresh, lock := .none, lockLevel := .high, password := none }

/-- The copy ends: no position is held (R44, R57). -/
def dropCopy (s : State) : State := { s with save := { s.save with copy := none } }

/-- R51, R52: for the title slot, the outcome record is written and SAVE_DONE queued; the clock slot does neither. -/
def recordEnding (id : SlotId) (r : OutcomeRecord) (s : State) : State :=
  match id with
  | .title => setOutcome r s
  | .clock => s

/-- R52. -/
def reportEnding (id : SlotId) (r : OutcomeRecord) (s : State) : State :=
  match id with
  | .title => notify (.saveDone r) s
  | .clock => s

/-- R53, R54: in phase 4 roll-forward goes on with its next slot. -/
def rollIfRolling (s : State) : State := if s.supply.phase = 4 then rollOn s else s

/-- R47: the copy of `c` completes. The record of the slot's target is written also where no directory entry names the
target (log 16). -/
def completeCopy (c : Copy) (s : State) : State :=
  let sl := slotAt s c.slot
  let r := endingRecord s sl (completionOutcome s) none
  rollIfRolling (reportEnding c.slot r (dropCopy (recordEnding c.slot r
    (freeSlot c.slot (setRecord sl.target (completedRecord sl c (recordAt s sl.target)) s)))))

/-- R116: after a discarded clock slot the calendar rewrites the durable copy, once the working copy is in service. -/
def rewriteDays (id : SlotId) (target : Nat) (s : State) : State :=
  match id with
  | .title => s
  | .clock =>
    if s.days.inService then
      notify (.regionState target .damaged .rebuilt) (setDays { s.days with dirty := true, rebuilt := true } s)
    else s

/-- R48: a slot that stops on its first verify fault: PENDING, held, with fault count 1, out of the queue. -/
def heldSlot (sl : Slot) : Slot := { sl with state := .pending, held := true, faults := 1 }

/-- R48: the first verify fault, at target offset `off`. In roll-forward the slot is taken again at once (R54). The
record is written also where no directory entry names the target (log 16). -/
def firstFault (c : Copy) (off : Nat) (s : State) : State :=
  let sl := slotAt s c.slot
  let r := endingRecord s sl .fault (some off)
  let s1 := dropCopy (recordEnding c.slot r (setSlot c.slot (heldSlot sl)
    (setRecord sl.target { recordAt s sl.target with state := .damaged } s)))
  let s2 := reportEnding c.slot r (notify (.regionState sl.target .damaged .verifyFault) s1)
  if s.supply.phase = 4 then startCopy c.slot true s2 else s2

/-- R49: a verify fault met with the fault count at 1 discards the slot. The record is written also where no directory
entry names the target (log 16). -/
def discardOnFault (c : Copy) (s : State) : State :=
  let sl := slotAt s c.slot
  let r := endingRecord s sl .faultDiscarded none
  let s1 := dropCopy (recordEnding c.slot r (freeSlot c.slot
    (setRecord sl.target { recordAt s sl.target with state := .damaged } s)))
  rollIfRolling (rewriteDays c.slot sl.target
    (reportEnding c.slot r (notify (.regionState sl.target .damaged .verifyFault) s1)))

/-- R48: the position of the first byte at which two blocks differ. -/
def firstDifference : List Byte → List Byte → Option Nat
  | a :: as, b :: bs => if a = b then (firstDifference as bs).map (· + 1) else some 0
  | _, _ => none

/-- R48, R49: a verify fault at position `pos` of the block at hand. -/
def verifyFault (c : Copy) (pos : Nat) (s : State) : State :=
  let sl := slotAt s c.slot
  if sl.faults = 0 then firstFault c (partBlock sl c.part * 64 + pos) s else discardOnFault c s

/-- R45 to R47: the position after the present one: the next staged block, the pass part when the full-pass flag is
set, or the completion. -/
def nextPart (c : Copy) (s : State) : State :=
  let sl := slotAt s c.slot
  match c.part with
  | .staged k =>
    if k + 1 < sl.blocks.length then beginPart c (.staged (k + 1)) s
    else if sl.fullPass ∧ 0 < regionLength s sl then beginPart c (.pass 0) s
    else completeCopy c s
  | .pass b => if 64 * (b + 1) < regionLength s sl then beginPart c (.pass (b + 1)) s else completeCopy c s

/-- R45, R46: a read step's bytes. A staged block's are the old block, over which the new one is formed and written; a
block of the pass part is added to the fresh sum. -/
def afterRead (c : Copy) (bytes : List Byte) (s : State) : State :=
  match c.part with
  | .staged k =>
    postStep { c with dir := .write, oldBlock := bytes, newBlock := formBlock (stagedBytes (slotAt s c.slot) k) bytes } s
  | .pass _ => nextPart { c with fresh := addBlock c.fresh bytes } s

/-- R45 step 5, R46, R61: the sums after a read-back that matched. -/
def summed (sl : Slot) (bytes : List Byte) (c : Copy) : Copy :=
  match c.part with
  | .staged _ =>
    if sl.fullPass then c else { c with running := addBlock (removeBlock c.running c.oldBlock) c.newBlock }
  | .pass _ => { c with fresh := addBlock c.fresh bytes }

/-- R45 step 4: a read-back compared with the block written. -/
def afterReadBack (c : Copy) (bytes : List Byte) (s : State) : State :=
  match firstDifference c.newBlock bytes with
  | some pos => verifyFault c pos s
  | none => nextPart (summed (slotAt s c.slot) bytes c) s

/-- R31, R45: what follows a commit step of `c` whose burst transferred `bytes`. -/
def commitStepDone (c : Copy) (bytes : List Byte) (s : State) : State :=
  match c.dir with
  | .read => afterRead c bytes s
  | .write => postStep { c with dir := .readBack } s
  | .readBack => afterReadBack c bytes s

/-- R21: a commit step's burst as the memory takes it: a block write stores its 64 bytes. -/
def burstStores (cs : CommitStep) (s : State) : State :=
  match cs.dir with
  | .write => { s with sram := writeBytes s.sram cs.addr cs.data }
  | .read | .readBack => s

/-- R31: the save engine takes the completion of a commit step. -/
def engineTakes (bytes : List Byte) (s : State) : State :=
  match s.save.copy with
  | some c => commitStepDone c bytes s
  | none => s

/-- COMMIT_STEP_COMPLETION (R45). With no commit step in progress there is no such event (log 2). -/
def execCommitStepCompletion (bus : List Byte) (s : State) : Host.Outcome State Fault Refusal :=
  match s.port.burst with
  | some (.commit cs) =>
    .next (settle (engineTakes (burstBytes s.sram cs.addr 64 bus) (burstStores cs (freeBus s))))
  | _ => .next s

end Sys2Proof.Machine
end

