-- ==== Sys2Proof/Machine/Supply.lean ====
section
/-! DEFINITION. The supply monitor: supply states and qualification timers (R173 to R176, R185), cell measurements
(R178 to R180), the retention mark (R181), SUPPLY_READ and CELL_CHECK (R177, R180). -/

namespace Sys2Proof.Machine

/-! ## Supply states (R173) -/

/-- R173: the qualification timers whose condition holds at `mv` millivolts in a supply state and start-up phase. -/
def timersFor (st : SupplyState) (mv phase : Nat) : Timers :=
  { offToStart  := st == .off && decide (3000 ≤ mv)
    normalToLow := st == .normal && decide (mv < 3000)
    lowToNormal := st == .low && decide (3100 ≤ mv)
    warnToLow   := st == .warn && decide (2900 ≤ mv) && phase == 8
    warnToStart := st == .warn && decide (2900 ≤ mv) && phase != 8 }

/-- R173, R176: a change of supply state that the slot domain lives through: the state, its timers, SUPPLY_CHANGE. -/
def changeSupply (st : SupplyState) (s : State) : State :=
  notify (.supplyChange st)
    { s with supply := { s.supply with state := st, timers := timersFor st s.supply.vslot s.supply.phase } }

/-! ## The entry into WARN (R174) -/

/-- R182: the phases that may not begin or proceed in WARN: 5, the opening of the link, and 7, the day block. Either
waits while the supply is WARN. -/
def waitsInWarn (s : State) : Bool := s.supply.phase == 5 || s.supply.phase == 7

/-- R182: the waiting flag at the entry into WARN. -/
def markWaiting (s : State) : State :=
  { s with supply := { s.supply with waiting := s.supply.waiting || waitsInWarn s } }

/-- R151: no output sample stands from the entry into WARN until the next frame computed (log 23). -/
def silence (s : State) : State := { s with mixer := { s.mixer with left := 0, right := 0 } }

/-- R174: the supply enters WARN: SUPPLY_CHANGE, then each neighbour's measures (log 12). -/
def enterWarn (s : State) : State := settle (shed (silence (markWaiting (changeSupply .warn s))))

/-! ## The fall to OFF (R185, R30, R57) -/

/-- R30: the block that a write burst held when power went: each byte is new or old, as a free value says (log 6). -/
def tornBlock (use : Nat) (m : List Host.Cell) (a : Nat) : Nat → List Byte → List Byte
  | _, [] => []
  | pos, b :: bs => (if Config.tornByteIsNew use pos then b else readByte m (a + pos)) :: tornBlock use m a (pos + 1) bs

/-- R30: SRAM after a loss of slot power. -/
def tornSram (s : State) : List Host.Cell :=
  match s.port.burst with
  | some (.commit c) =>
    (match c.dir with
     | .write => writeBytes s.sram c.addr (tornBlock s.free s.sram c.addr 0 c.data)
     | .read | .readBack => s.sram)
  | _ => s.sram

/-- 00_scope.md section 3: what a loss of slot power leaves: the battery domain (kept RAM, the clock), the two memories,
the levels of VSLOT and SRST, and the model's own fields. -/
def switchOff (s : State) : State :=
  { pending := s.pending
    free := s.free + 1
    srst := s.srst
    rom := s.rom
    sram := tornSram s
    supply := { state := .off, vslot := s.supply.vslot, timers := timersFor .off s.supply.vslot 1 }
    save := { kept := s.save.kept }
    clock := s.clock }

/-! ## VSLOT's events (R173, R174, R185) -/

/-- The supply states from which VSLOT below 2.8 V leads to WARN (R173). -/
def canEnterWarn (s : State) : Bool :=
  s.supply.state == .start || s.supply.state == .normal || s.supply.state == .low

/-- R173: VSLOT stands at `mv`: a timer runs where its condition holds. -/
def setVslot (mv : Nat) (s : State) : State :=
  { s with supply := { s.supply with vslot := mv, timers := timersFor s.supply.state mv s.supply.phase } }

/-- R173: the transition into WARN, taken at the instant VSLOT is below 2.8 V. -/
def warnIfBelow (s : State) : State := if canEnterWarn s ∧ s.supply.vslot < 2800 then enterWarn s else s

/-- R173: the transition from WARN to OFF, taken at the instant VSLOT is below 2.5 V. -/
def offIfBelow (s : State) : State := if inWarn s ∧ s.supply.vslot < 2500 then switchOff s else s

/-- R173: VSLOT comes to stand at `mv`. The transitions without a hold time are taken at once, WARN before OFF (log 9). -/
def vslotBecomes (mv : Nat) (s : State) : State := offIfBelow (warnIfBelow (setVslot mv s))

/-- VSLOT_THRESHOLD_CHANGE (R173). -/
def execVslotThresholdChange (mv : Nat) (s : State) : Host.Outcome State Fault Refusal := .next (vslotBecomes mv s)

/-- WARN_ENTRY (R174). At 2.8 V or more, or from OFF or WARN, there is no such event (log 2). -/
def execWarnEntry (mv : Nat) (s : State) : Host.Outcome State Fault Refusal :=
  .next (if canEnterWarn s ∧ mv < 2800 then vslotBecomes mv s else s)

/-- SUPPLY_OFF (R185). At 2.5 V or more, or outside WARN, there is no such event (log 2). -/
def execSupplyOff (mv : Nat) (s : State) : Host.Outcome State Fault Refusal :=
  .next (if inWarn s ∧ mv < 2500 then vslotBecomes mv s else s)

/-! ## Transitions with a hold time (R173, R175, R182) -/

/-- NORMAL_TO_LOW (R173). Without its timer running there is no such event (log 2). -/
def execNormalToLow (s : State) : Host.Outcome State Fault Refusal :=
  .next (if s.supply.state = .normal ∧ s.supply.timers.normalToLow then settle (changeSupply .low s) else s)

/-- LOW_TO_NORMAL (R173). -/
def execLowToNormal (s : State) : Host.Outcome State Fault Refusal :=
  .next (if s.supply.state = .low ∧ s.supply.timers.lowToNormal then settle (changeSupply .normal s) else s)

/-- R173, R175: the state to which a supply in WARN recovers. -/
def recoveryState (s : State) : SupplyState := if s.supply.phase = 8 then .low else .start

/-- R173: a timer that leaves WARN upwards runs. -/
def recoveryTimed (s : State) : Bool := s.supply.timers.warnToLow || s.supply.timers.warnToStart

/-- R182, R184: at the leaving of WARN, the passage from phase 4 to 5 or from phase 6 to 7 that waited is made, and a
phase that waited goes on; nothing waits any longer. -/
def passOn (s : State) : State :=
  { s with supply := { s.supply with
      phase := if s.supply.waiting ∧ (s.supply.phase = 4 ∨ s.supply.phase = 6) then s.supply.phase + 1
        else s.supply.phase
      waiting := false } }

/-- WARN_RECOVERY (R175). The voices and the clock slot post their requests first, and then one grant is made, over
these and over the requests that waited through WARN (log 10). -/
def execWarnRecovery (s : State) : Host.Outcome State Fault Refusal :=
  .next (if inWarn s ∧ recoveryTimed s then settle (passOn (changeSupply (recoveryState s) s)) else s)

/-- OFF_TO_START (R173, R182): the slot domain comes up at its start-up values in phase 1, with the first measurement
begun (R179). `retained`: the battery domain kept its power (R181, log 17). -/
def comeUp (retained : Bool) (s : State) : State :=
  { pending := s.pending
    free := s.free
    srst := s.srst
    rom := s.rom
    sram := s.sram
    supply := { state := .start, vslot := s.supply.vslot, measuring := true }
    save := { kept := { s.save.kept with mark := s.save.kept.mark && retained } }
    clock := s.clock }

/-- OFF_TO_START (R182). Without its timer running there is no such event (log 2). -/
def execOffToStart (retained : Bool) (s : State) : Host.Outcome State Fault Refusal :=
  .next (if s.supply.state = .off ∧ s.supply.timers.offToStart then comeUp retained s else s)

/-! ## The retention mark (R181, R68, R86, R96) -/

/-- R96: the clock after a retention loss. -/
def lostClock (c : Clock) : Clock :=
  { c with state := .unset, subsecond := 0, second := 0, day := 0, trim := 0, adjust := 0, pendingLimit := false }

/-- R181, R86: an intact mark: the pending report is queued and becomes none. -/
def retentionIntact (s : State) : State :=
  if s.clock.pendingLimit then notify (.clockState .limit) { s with clock := { s.clock with pendingLimit := false } }
  else s

/-- R181: a lost mark: kept RAM is rebuilt (R68), then the clock (R96), and the mark is written last. -/
def retentionLost (s : State) : State :=
  notify (.clockState .unset) { s with
    save := { s.save with kept := { mark := true } }, clock := lostClock s.clock }

/-- R181, R182: phase 2, and phase 3 begun. -/
def checkRetention (s : State) : State :=
  let intact := s.save.kept.mark
  let s1 := if intact then retentionIntact s else retentionLost s
  postLoad .header { s1 with supply := { s1.supply with
    phase := 3, retention := if intact then .intact else .lost } }

/-! ## Cell measurements (R178, R179) -/

/-- R178: a reading of a cell at `mv` millivolts. -/
def readingOf (mv : Nat) : Nat := min 3990 (mv / 10 * 10)

/-- R178: the cell state of a reading. -/
def cellStateOf (reading : Nat) : CellState :=
  if 2700 ≤ reading then .good else if 2400 ≤ reading then .weak else .flat

/-- R179: the measurement completes. -/
def completeMeasurement (mv : Nat) (s : State) : State :=
  let c := cellStateOf (readingOf mv)
  let s1 := { s with supply := { s.supply with
    cell := c, reading := readingOf mv, measuring := false, checkWaiting := false } }
  if c ≠ s.supply.cell ∨ s.supply.checkWaiting then notify (.cellState c (readingOf mv)) s1 else s1

/-- R182: phase 1 completes with its measurement, and phases 2 and 3 follow. -/
def afterMeasurement (s : State) : State := if s.supply.phase = 1 then settle (checkRetention s) else s

/-- CELL_MEASUREMENT_COMPLETION (R179). With no measurement in progress there is no such event (log 2). -/
def execCellMeasurementCompletion (mv : Nat) (s : State) : Host.Outcome State Fault Refusal :=
  .next (if slotUp s ∧ s.supply.measuring then afterMeasurement (completeMeasurement mv s) else s)

/-! ## SUPPLY_READ and CELL_CHECK (R177, R180) -/

/-- R177. -/
def supplyReadPayload (s : State) : List Byte :=
  leBytes 1 (supplyCode s.supply.state) ++ leBytes 1 (budget s.supply.state) ++ progressBytes s ++ cellBytes s
    ++ leBytes 1 (flagCode s.supply.measuring) ++ leBytes 1 (flagCode s.supply.checkWaiting)

/-- R177. -/
def answerSupplyRead (s : State) : Answer := .now s .ok (supplyReadPayload s)

/-- SUPPLY_READ (R177). -/
def execSupplyRead (q : Request) (s : State) : Host.Outcome State Fault Refusal :=
  .next (serve .supplyRead q (fun _ => answerSupplyRead) s)

/-- R180: a measurement begins, or the one in progress is joined; a CELL_CHECK waits on it. -/
def answerCellCheck (s : State) : Answer :=
  .now { s with supply := { s.supply with measuring := true, checkWaiting := true } } .started []

/-- CELL_CHECK (R180). -/
def execCellCheck (q : Request) (s : State) : Host.Outcome State Fault Refusal :=
  .next (serve .cellCheck q (fun _ => answerCellCheck) s)

end Sys2Proof.Machine
end

