-- ==== Sys2Proof/Machine/StartUp.lean ====
section
/-! DEFINITION. The later phases of start-up: LINK_OPEN (phase 5), the scan (phase 6, R64, R65) and DAY_BLOCK_LOAD
(phases 7 and 8, R118, R119, R182). -/

namespace Sys2Proof.Machine

/-! ## The scan (R64, R65) -/

/-- R64: the next region to scan, from selector `i` on. -/
def nextUnchecked (s : State) (i : Nat) : Option Nat :=
  (List.range 24).find? (fun j => decide (i ≤ j) && inUse s j && (recordAt s j).state == .unchecked)

/-- R64: the scan at block `sc.block` of its region: its step posted. -/
def postScan (sc : Scan) (s : State) : State :=
  { s with
    save := { s.save with scan := some sc }
    port := { s.port with scan := some ((entryAt s sc.region).base + 64 * sc.block) } }

/-- R64, R182: phase 6 ends, and the passage to phase 7 is made or waits. -/
def endScan (s : State) : State := passTo 7 { s with save := { s.save with scan := none } }

/-- R64: the scan goes on with the next UNCHECKED region from selector `i` on. -/
def scanFrom (i : Nat) (s : State) : State :=
  match nextUnchecked s i with
  | some r => postScan ⟨r, 0, 0⟩ s
  | none => endScan s

/-- LINK_OPEN (R182): phase 5 opens the link and completes, and phase 6 begins with the scan. Outside phase 5, or while
the supply is WARN, there is no such event (log 2, log 8). -/
def execLinkOpen (s : State) : Host.Outcome State Fault Refusal :=
  .next (if s.supply.phase = 5 ∧ slotUp s ∧ !inWarn s then
    settle (scanFrom 0 { s with supply := { s.supply with phase := 6, waiting := false } }) else s)

/-- R118: the scan hands the DAYS region's bytes to the calendar. -/
def handDays (region : Nat) (bytes : List Byte) (s : State) : State :=
  if daysRegion s = some region then { s with days := { s.days with handed := some bytes } } else s

/-- R64: a region's scan ends with the sum `sum`. -/
def judgeRegion (region sum : Nat) (s : State) : State :=
  let r := recordAt s region
  if checksEqual sum r.check then setRecord region { r with state := .valid } s
  else notify (.regionState region .damaged .scanMismatch) (setRecord region { r with state := .damaged } s)

/-- R64: a scan step's block added, and the next step, region or phase. -/
def scanBlock (sc : Scan) (bytes : List Byte) (s : State) : State :=
  let sum := addBlock sc.sum bytes
  let s1 := handDays sc.region bytes s
  if 64 * (sc.block + 1) < (entryAt s sc.region).length then postScan ⟨sc.region, sc.block + 1, sum⟩ s1
  else scanFrom (sc.region + 1) (judgeRegion sc.region sum s1)

/-- R31: the save engine takes the completion of a scan step. -/
def scanTakes (bytes : List Byte) (s : State) : State :=
  match s.save.scan with
  | some sc => scanBlock sc bytes s
  | none => s

/-- SCAN_STEP_COMPLETION (R64). With no scan step in progress there is no such event (log 2). -/
def execScanStepCompletion (bus : List Byte) (s : State) : Host.Outcome State Fault Refusal :=
  match s.port.burst with
  | some (.scan a) => .next (settle (scanTakes (burstBytes s.sram a 64 bus) (freeBus s)))
  | _ => .next s

/-! ## The day block (R118, R119) and phase 8 (R173, R182) -/

/-- R118: the durable block, when the record is VALID and the bytes pass the load checks. -/
def durableBlock (s : State) (sel : Nat) : Option (Nat × Option Int × Vector Counter 8) :=
  if (recordAt s sel).state = .valid then s.days.handed.bind loadDayBlock else none

/-- R118 steps 1 and 2: the working copy from a durable block, in service. -/
def loadedDays (d : Days) (turn : Nat) (high : Option Int) (counters : Vector Counter 8) : Days :=
  { d with
    inService := true, turnSecond := turn, highDay := high, counters := counters
    dirty := false, rebuilt := false, behind := false, handed := none }

/-- R119, R118 step 2: the working copy rebuilt, in service. -/
def rebuiltDays (d : Days) : Days :=
  { d with
    inService := true, turnSecond := 0, highDay := none, counters := Vector.replicate 8 {}
    dirty := true, rebuilt := true, behind := false, handed := none }

/-- R118, R119: the working copy loaded or rebuilt. -/
def loadDays (s : State) : State :=
  match daysRegion s with
  | none => s
  | some sel =>
    match durableBlock s sel with
    | some (turn, high, counters) => setDays (loadedDays s.days turn high counters) s
    | none => notify (.regionState sel (recordAt s sel).state .rebuilt) (setDays (rebuiltDays s.days) s)

/-- R173, R182: phase 8: the supply leaves START for NORMAL or LOW. -/
def becomeReady (s : State) : State :=
  changeSupply (if 3000 ≤ s.supply.vslot then .normal else .low)
    { s with supply := { s.supply with phase := 8, waiting := false } }

/-- DAY_BLOCK_LOAD (R118): phase 7's update, the start-up catch-up, and phase 8, in which the fill is made. Outside
START in phase 7 there is no such event (log 2). -/
def execDayBlockLoad (s : State) : Host.Outcome State Fault Refusal :=
  .next (if s.supply.phase = 7 ∧ s.supply.state = .start then settle (becomeReady (catchUp (loadDays s))) else s)

end Sys2Proof.Machine
end

