-- ==== Sys2Proof/Machine/Dispatch.lean ====
section
/-! DEFINITION. The dispatch of a command to its meaning: one arm for each constructor of `Instr`. -/

namespace Sys2Proof.Machine

def exec (i : Instr) (s : State) : Host.Outcome State Fault Refusal :=
  match i with
  | .ident q => Sys2Proof.Machine.execIdent q s
  | .noticeFetch q => Sys2Proof.Machine.execNoticeFetch q s
  | .noticeMask q => Sys2Proof.Machine.execNoticeMask q s
  | .titleReset q => Sys2Proof.Machine.execTitleReset q s
  | .titleResetTaken => Sys2Proof.Machine.execTitleResetTaken s
  | .regionInfo q => Sys2Proof.Machine.execRegionInfo q s
  | .regionPresent q => Sys2Proof.Machine.execRegionPresent q s
  | .saveRead q => Sys2Proof.Machine.execSaveRead q s
  | .saveBegin q => Sys2Proof.Machine.execSaveBegin q s
  | .saveWrite q => Sys2Proof.Machine.execSaveWrite q s
  | .saveCommit q => Sys2Proof.Machine.execSaveCommit q s
  | .saveAbandon q => Sys2Proof.Machine.execSaveAbandon q s
  | .saveStatus q => Sys2Proof.Machine.execSaveStatus q s
  | .lockSet q => Sys2Proof.Machine.execLockSet q s
  | .lockClear q => Sys2Proof.Machine.execLockClear q s
  | .lockOpen q => Sys2Proof.Machine.execLockOpen q s
  | .eraseArm q => Sys2Proof.Machine.execEraseArm q s
  | .erase q => Sys2Proof.Machine.execErase q s
  | .masterSet q => Sys2Proof.Machine.execMasterSet q s
  | .lockFreeze q => Sys2Proof.Machine.execLockFreeze q s
  | .clockRead q => Sys2Proof.Machine.execClockRead q s
  | .dateToDay q => Sys2Proof.Machine.execDateToDay q s
  | .dayToDate q => Sys2Proof.Machine.execDayToDate q s
  | .clockSet q => Sys2Proof.Machine.execClockSet q s
  | .clockTrim q => Sys2Proof.Machine.execClockTrim q s
  | .daysConfig q => Sys2Proof.Machine.execDaysConfig q s
  | .counterArm q => Sys2Proof.Machine.execCounterArm q s
  | .counterDisarm q => Sys2Proof.Machine.execCounterDisarm q s
  | .counterAck q => Sys2Proof.Machine.execCounterAck q s
  | .counterRead q => Sys2Proof.Machine.execCounterRead q s
  | .dayTest q => Sys2Proof.Machine.execDayTest q s
  | .voiceSetup q => Sys2Proof.Machine.execVoiceSetup q s
  | .voicePitch q => Sys2Proof.Machine.execVoicePitch q s
  | .voiceLevel q => Sys2Proof.Machine.execVoiceLevel q s
  | .voiceRamp q => Sys2Proof.Machine.execVoiceRamp q s
  | .voiceKeyOn q => Sys2Proof.Machine.execVoiceKeyOn q s
  | .voiceKeyOff q => Sys2Proof.Machine.execVoiceKeyOff q s
  | .voiceStop q => Sys2Proof.Machine.execVoiceStop q s
  | .voiceRead q => Sys2Proof.Machine.execVoiceRead q s
  | .mixConfig q => Sys2Proof.Machine.execMixConfig q s
  | .mixFlags q => Sys2Proof.Machine.execMixFlags q s
  | .rumbleDefine q => Sys2Proof.Machine.execRumbleDefine q s
  | .rumblePlay q => Sys2Proof.Machine.execRumblePlay q s
  | .rumbleCancel q => Sys2Proof.Machine.execRumbleCancel q s
  | .rumbleFollow q => Sys2Proof.Machine.execRumbleFollow q s
  | .rumbleHold q => Sys2Proof.Machine.execRumbleHold q s
  | .rumbleRead q => Sys2Proof.Machine.execRumbleRead q s
  | .supplyRead q => Sys2Proof.Machine.execSupplyRead q s
  | .cellCheck q => Sys2Proof.Machine.execCellCheck q s
  | .unknownKind kind q => Sys2Proof.Machine.execUnknownKind kind q s
  | .frameError kind tag level length payload check => Sys2Proof.Machine.execFrameError kind tag level length payload check s
  | .selectionWithoutFrame first => Sys2Proof.Machine.execSelectionWithoutFrame first s
  | .selectionEnd => Sys2Proof.Machine.execSelectionEnd s
  | .srstAssertion => Sys2Proof.Machine.execSrstAssertion s
  | .srstRelease => Sys2Proof.Machine.execSrstRelease s
  | .vslotThresholdChange mv => Sys2Proof.Machine.execVslotThresholdChange mv s
  | .offToStart retained => Sys2Proof.Machine.execOffToStart retained s
  | .normalToLow => Sys2Proof.Machine.execNormalToLow s
  | .lowToNormal => Sys2Proof.Machine.execLowToNormal s
  | .warnEntry mv => Sys2Proof.Machine.execWarnEntry mv s
  | .warnRecovery => Sys2Proof.Machine.execWarnRecovery s
  | .supplyOff mv => Sys2Proof.Machine.execSupplyOff mv s
  | .cellMeasurementCompletion mv => Sys2Proof.Machine.execCellMeasurementCompletion mv s
  | .directoryLoadBurstCompletion bus => Sys2Proof.Machine.execDirectoryLoadBurstCompletion bus s
  | .linkOpen => Sys2Proof.Machine.execLinkOpen s
  | .scanStepCompletion bus => Sys2Proof.Machine.execScanStepCompletion bus s
  | .dayBlockLoad => Sys2Proof.Machine.execDayBlockLoad s
  | .refillCompletion bus => Sys2Proof.Machine.execRefillCompletion bus s
  | .linkReadCompletion bus => Sys2Proof.Machine.execLinkReadCompletion bus s
  | .commitStepCompletion bus => Sys2Proof.Machine.execCommitStepCompletion bus s
  | .clockTick => Sys2Proof.Machine.execClockTick s
  | .minuteBoundary => Sys2Proof.Machine.execMinuteBoundary s
  | .endOfRange => Sys2Proof.Machine.execEndOfRange s
  | .dayTurn => Sys2Proof.Machine.execDayTurn s
  | .frame => Sys2Proof.Machine.execFrame s
  | .envelopeTick => Sys2Proof.Machine.execEnvelopeTick s
  | .rumbleTick => Sys2Proof.Machine.execRumbleTick s
  | .heatTick => Sys2Proof.Machine.execHeatTick s
  | .holdTimerExpiry => Sys2Proof.Machine.execHoldTimerExpiry s
  | .stepEnd => Sys2Proof.Machine.execStepEnd s

end Sys2Proof.Machine
end

