-- ==== Sys2Proof/WellFormed.lean ====
section
/-! DEFINITION. Well-formed commands: those whose operands the part can meet. -/

namespace Sys2Proof

/-- R186: a request frame carries at most 64 payload bytes. -/
def Request.wf (q : Request) : Bool := decide (q.payload.length ≤ 64)

/-- A received frame that is broken, with the payload its length byte gives; after a length above 64 neither payload nor
check byte is read (R186, R187). -/
def frameErrorWf (kind tag level length : Byte) (payload : List Byte) (check : Byte) : Bool :=
  Machine.frameIsBad kind tag level length payload check
    && (if 64 < length.toNat then payload.isEmpty && check == 0x00#8 else payload.length == length.toNat)

/-- The operands of a command are among those the part can meet: frames by R186 and R187; a kind code beyond the 48
(R190); a first byte other than C3h (R186); VSLOT levels by R173; no more bytes than a burst transfers (R21). -/
def Instr.wf : Instr → Bool
  | .ident q => q.wf
  | .noticeFetch q => q.wf
  | .noticeMask q => q.wf
  | .titleReset q => q.wf
  | .titleResetTaken => true
  | .regionInfo q => q.wf
  | .regionPresent q => q.wf
  | .saveRead q => q.wf
  | .saveBegin q => q.wf
  | .saveWrite q => q.wf
  | .saveCommit q => q.wf
  | .saveAbandon q => q.wf
  | .saveStatus q => q.wf
  | .lockSet q => q.wf
  | .lockClear q => q.wf
  | .lockOpen q => q.wf
  | .eraseArm q => q.wf
  | .erase q => q.wf
  | .masterSet q => q.wf
  | .lockFreeze q => q.wf
  | .clockRead q => q.wf
  | .dateToDay q => q.wf
  | .dayToDate q => q.wf
  | .clockSet q => q.wf
  | .clockTrim q => q.wf
  | .daysConfig q => q.wf
  | .counterArm q => q.wf
  | .counterDisarm q => q.wf
  | .counterAck q => q.wf
  | .counterRead q => q.wf
  | .dayTest q => q.wf
  | .voiceSetup q => q.wf
  | .voicePitch q => q.wf
  | .voiceLevel q => q.wf
  | .voiceRamp q => q.wf
  | .voiceKeyOn q => q.wf
  | .voiceKeyOff q => q.wf
  | .voiceStop q => q.wf
  | .voiceRead q => q.wf
  | .mixConfig q => q.wf
  | .mixFlags q => q.wf
  | .rumbleDefine q => q.wf
  | .rumblePlay q => q.wf
  | .rumbleCancel q => q.wf
  | .rumbleFollow q => q.wf
  | .rumbleHold q => q.wf
  | .rumbleRead q => q.wf
  | .supplyRead q => q.wf
  | .cellCheck q => q.wf
  | .unknownKind kind q => q.wf && (Machine.kindOfCode kind).isNone
  | .frameError kind tag level length payload check => frameErrorWf kind tag level length payload check
  | .selectionWithoutFrame first => first != 0xC3#8
  | .selectionEnd => true
  | .srstAssertion => true
  | .srstRelease => true
  | .vslotThresholdChange _ => true
  | .offToStart _ => true
  | .normalToLow => true
  | .lowToNormal => true
  | .warnEntry mv => decide (mv < 2800)
  | .warnRecovery => true
  | .supplyOff mv => decide (mv < 2500)
  | .cellMeasurementCompletion _ => true
  | .directoryLoadBurstCompletion bus => decide (bus.length ≤ 16)
  | .linkOpen => true
  | .scanStepCompletion bus => decide (bus.length ≤ 64)
  | .dayBlockLoad => true
  | .refillCompletion bus => decide (bus.length ≤ 8)
  | .linkReadCompletion bus => decide (bus.length ≤ 60)
  | .commitStepCompletion bus => decide (bus.length ≤ 64)
  | .clockTick => true
  | .minuteBoundary => true
  | .endOfRange => true
  | .dayTurn => true
  | .frame => true
  | .envelopeTick => true
  | .rumbleTick => true
  | .heatTick => true
  | .holdTimerExpiry => true
  | .stepEnd => true

end Sys2Proof
end

