-- ==== Sys2Proof/Safety.lean ====
section
/-! DEFINITION. What a safe state is, in the terms the statements use: the invariants that the specification gives the
part, and the words for a request taken and answered. -/

namespace Sys2Proof.Machine

/-! ## Invariants -/

/-- R192: no two entries have the same kind, and every count is 1 to 255. -/
def QueueOk (q : List NoticeEntry) : Prop :=
  (q.map (fun x => noticeKind x.notice)).Nodup ∧ ∀ x ∈ q, 1 ≤ x.count ∧ x.count ≤ 255

/-- R82, R83, R84, R91: the clock's ranges, and the counters of an UNSET clock at 0. -/
def ClockOk (c : Clock) : Prop :=
  c.subsecond ≤ 1023 ∧ c.second ≤ 86399 ∧ c.day ≤ 36524 ∧ -127 ≤ c.trim ∧ c.trim ≤ 127 ∧ c.adjust ≤ 127
    ∧ (c.state = .unset → c.subsecond = 0 ∧ c.second = 0 ∧ c.day = 0 ∧ c.adjust = 0)

/-- R99, R100, R118: the working copy's ranges, counter by counter. -/
def DaysOk (d : Days) : Prop :=
  d.turnSecond ≤ 86399
    ∧ (∀ h, d.highDay = some h → -1 ≤ h ∧ h ≤ 36524)
    ∧ (∀ i, i < 8 → counterLoads (counterOf d.counters i) = true
        ∧ (counterOf d.counters i).remaining ≤ 65535 ∧ (counterOf d.counters i).period ≤ 65535)

/-- R121: an IDLE voice has envelope level 0, is not priming and has an empty buffer. -/
def VoiceOk (v : Voice) : Prop :=
  v.state = .idle → v.e = 0 ∧ v.priming = false ∧ v.run = [] ∧ v.runOffset = 0

/-- R22, R28, R135: the waiting refills are those of the voices that meet R135's conditions, and none in WARN. -/
def RefillsCurrent (s : State) : Prop := s.port.refills = (postRefills s).port.refills

/-- R31, R136: a refill in progress whose bytes will not be discarded belongs to a voice that is not IDLE and holds at
most 7 bytes, and brings at most 8. -/
def BurstOk (s : State) : Prop :=
  match s.port.burst with
  | some (.refill n _ c false) => (voiceAt s n).state ≠ .idle ∧ (voiceAt s n).run.length ≤ 7 ∧ c ≤ 8
  | _ => True

/-- R121, R135, R136: the voices, their buffers of at most 16 bytes, and their requests at the port. -/
def VoicesOk (s : State) : Prop :=
  (∀ n, n < 8 → VoiceOk (voiceAt s n) ∧ (voiceAt s n).run.length ≤ 16) ∧ RefillsCurrent s ∧ BurstOk s

/-- R122, R135, R136: a PCM voice's cached window holds its end boundary; its start, its loop start and, unless it is IDLE,
its index lie before its end; and its run's bytes come from the window, before the end boundary. -/
def WindowOk (v : Voice) : Prop :=
  isPcm v.format = true →
    ∃ b len, v.window = some (b, len) ∧ endBoundary v ≤ len ∧ v.startPos < v.endPos ∧ v.loopStart < v.endPos
      ∧ (v.state ≠ .idle → v.index < v.endPos) ∧ ∀ x ∈ v.run, b ≤ x.1 ∧ x.1 < b + endBoundary v

/-- R136: every voice's window, and the addresses of a refill in progress whose bytes will not be discarded: at least one
byte, all of them in its voice's window before the end boundary. -/
def WindowsOk (s : State) : Prop :=
  (∀ n, n < 8 → WindowOk (voiceAt s n))
    ∧ match s.port.burst with
      | some (.refill n a c false) =>
        n < 8 ∧ ∃ b len, (voiceAt s n).window = some (b, len) ∧ b ≤ a ∧ 1 ≤ c
          ∧ a + c ≤ b + endBoundary (voiceAt s n)
      | _ => True

/-- R165: C and A are as the supply state, the reservations, the last demand and the limiter give them. -/
def RumbleCurrent (s : State) : Prop :=
  s.rumble.ceiling = ceilingOf s
    ∧ s.rumble.applied = appliedFrom s.rumble.lastDemand s.rumble.ceiling s.rumble.limiter

/-- R157: the waiting list is ordered: an entry stands before those of lower priority, and before later arrivals of its
own priority. -/
def Ordered (xs : List PlayerEntry) : Prop :=
  xs.Pairwise (fun x y => y.priority < x.priority ∨ (y.priority = x.priority ∧ x.arrival < y.arrival))

/-- R157: at most four entries wait, in order, none of them above the current entry's priority, and none at all without
a current entry; every arrival number given is below the driver's. -/
def PlayerOk (r : Rumble) : Prop :=
  r.waiting.length ≤ 4 ∧ Ordered r.waiting
    ∧ (∀ x ∈ r.waiting, x.arrival < r.arrival ∧ ∃ c, r.current = some c ∧ x.priority ≤ c.priority)

/-- R34, R35, R44: the queue lists the slots that are PENDING and not held, each once. -/
def QueueLists (k : Kept) : Prop :=
  k.queue.Nodup
    ∧ (SlotId.title ∈ k.queue ↔ k.title.state = .pending ∧ k.title.held = false)
    ∧ (SlotId.clock ∈ k.queue ↔ k.clock.state = .pending ∧ k.clock.held = false)

/-- R32, R38: at most 31 staged blocks in the title slot and one in the clock slot, no block twice, 64 positions in each. -/
def PoolOk (k : Kept) : Prop :=
  k.title.blocks.length ≤ 31 ∧ k.clock.blocks.length ≤ 1
    ∧ (k.title.blocks.map StagedBlock.index).Nodup
    ∧ (∀ b ∈ k.title.blocks ++ k.clock.blocks, b.bytes.length = 64)

/-- R44, R57: a copy in progress is of a slot that is COPYING, and there is none before phase 4. -/
def CopyOk (s : State) : Prop :=
  (∀ c, s.save.copy = some c → (slotAt s c.slot).state = .copying) ∧ (s.supply.phase < 4 → s.save.copy = none)

/-- The journal's invariant. -/
def JournalOk (s : State) : Prop := QueueLists s.save.kept ∧ PoolOk s.save.kept ∧ CopyOk s

/-- The two memories are in canonical form (log 5). -/
def MemoryOk (s : State) : Prop := Memory.wf s.rom = true ∧ Memory.wf s.sram = true

/-- R69: a region's tries lie between 0 and 5. -/
def TriesOk (s : State) : Prop := ∀ i, i < 24 → triesAt s i ≤ 5

/-! ## A request taken and answered -/

/-- What the link interface asks of a request of kind `k`, by R186, R190 and R191: the slot domain runs and SRST is
released; no earlier selection stands; the payload's length suits the kind; the level is 0 to 2 and trusted enough; the
start-up progress has reached the kind's phase. -/
def Takes (k : Kind) (q : Request) (s : State) : Prop :=
  hears s = true ∧ s.link.selection = .none ∧ lengthSuits k q.payload.length = true
    ∧ q.level.toNat ≤ leastTrusted k ∧ takenFromPhase k (hasDays s) ≤ s.supply.phase

/-- R77, R188: the state with a reply standing and the erase-arm latch emptied, and nothing else changed. -/
def answered (st : Status) (tag : Byte) (payload : List Byte) (s : State) : State :=
  { s with link := { s.link with selection := .replying ⟨st, tag, payload⟩ false, latch := none } }

/-- R42, R77: the state with a SAVE_READ's reply awaited and the latch emptied. -/
def awaited (tag : Byte) (s : State) : State :=
  { s with link := { s.link with selection := .awaiting tag, latch := none } }

/-- R32, R38: the staged byte at offset `y` of the target region, if that position is in the written set. -/
def stagedAt (blocks : List StagedBlock) (y : Nat) : Option Byte :=
  match blocks.find? (fun b => b.index == y / 64) with
  | some b => (b.bytes[y % 64]?).join
  | none => none

/-- R22: a commit step is posted at the port, or its burst is in progress. -/
def stepUnderWay (c : CommitStep) (s : State) : Prop :=
  s.port.commit = some c ∨ s.port.burst = some (.commit c)

/-- R1, R22: a directory burst from ROM address `a` is posted at the port, or in progress. -/
def loadUnderWay (a : Nat) (s : State) : Prop :=
  s.port.directory = some a ∨ s.port.burst = some (.directory a)

/-- R22, R64: a scan step at SRAM address `a` is posted at the port, or in progress. -/
def scanUnderWay (a : Nat) (s : State) : Prop :=
  s.port.scan = some a ∨ s.port.burst = some (.scan a)

/-- R136: voice `w` is `v` as it stood, or `v` with its run trimmed by a grant to its refill. -/
def AsGranted (w v : Voice) : Prop := w = v ∨ w = trimRun v

/-- R33, R53: a slot that roll-forward takes: PENDING, held or not, or COPYING. -/
def ToRoll (sl : Slot) : Prop := sl.state = .pending ∨ sl.state = .copying

/-- R53, R182: with `t`, phase 4 has begun after `s`: a COLLECTING title slot has been discarded; with a slot to roll
forward a copy is in progress, and with none the phase is complete. -/
def phase4Begun (s t : State) : Prop :=
  (s.save.kept.title.state = .collecting →
    t.save.kept.title.blocks = [] ∧ (SlotId.title ∉ s.save.kept.queue → t.save.kept.title.state = .free)
    ∧ t.save.kept.outcome = some ⟨s.save.kept.title.target, s.save.kept.title.tag, .rollForward, .discarded, none⟩)
  ∧ (s.save.kept.title.state ≠ .collecting → t.save.kept.outcome = s.save.kept.outcome)
  ∧ (ToRoll s.save.kept.title ∨ ToRoll s.save.kept.clock →
    t.supply = { s.supply with phase := 4, waiting := false } ∧ t.save.copy ≠ none)
  ∧ (¬ ToRoll s.save.kept.title → ¬ ToRoll s.save.kept.clock →
    t.supply = (if s.supply.state = .warn then { s.supply with phase := 4, waiting := true }
      else { s.supply with phase := 5, waiting := false }))

/-- R22, R42: a link read is posted at the port, or in progress for the selection that stands. -/
def readUnderWay (r : LinkRead) (s : State) : Prop :=
  s.port.linkRead = some r ∨ s.port.burst = some (.linkRead r false)

end Sys2Proof.Machine
end

