-- ==== Sys2Proof/Certificates/Slice0/Obligations.lean ====
section
/-! DEFINITION. The statements for the provers: what the numbered rules of the specification say of the machine. -/

section

open Sys2Proof Sys2Proof.Machine

/-! ## The queue of commands and the step -/

/-- A step takes the command at the front of the queue and runs its meaning over the rest of the queue. -/
def Obligations.StepRunsTheFrontCommand : Prop :=
  ∀ (c : Instr) (rest : List Instr) (s : State),
    step { s with pending := c :: rest } = exec c { s with pending := rest }

/-- Every command of the table completes from every state: no meaning faults or refuses, because the specification
names no condition that stops the part (every error it describes is an effect on the state). That an event which cannot
occur in a state completes there too, and leaves it as it is, is the model's choice (log 2, DESIGN CHOICE), not a rule.
And no meaning touches the commands that wait, or the ROM, which no rule writes (R9: "the ROM does not change"). -/
def Obligations.EveryCommandCompletes : Prop :=
  ∀ (c : Instr) (s : State), ∃ t, exec c s = .next t ∧ t.pending = s.pending ∧ t.rom = s.rom


/-! ## Selections, frames and the refusal order -/

/-- R186, R187, R190, R199: the bytes of the selection that a well-formed command is, as the frame format lays them out,
decode to that command, whatever bytes the console sends after the frame. -/
def Obligations.SelectionsDecodeToTheirCommand : Prop :=
  ∀ (i : Instr) (bs more : List Byte),
    i.wf = true → encodeSelection i = some bs → decodeSelection (bs ++ more) = some i

/-- R186, R187, R188, R190 step 2: what a broken frame, an undefined kind and a selection without a frame do. Each frame
is answered with an empty payload and the tag as received, and empties the erase-arm latch; a selection whose first byte
is not C3h leaves the latch, and the part sends 00h throughout it. Nothing else changes. And what the part sends on LDO:
00h while a reply is awaited; then the reply frame, from its start byte to its check byte; then 00h again. How many
bytes of filler come first is the sender's to know (log 3). -/
def Obligations.BrokenTransfersAnswered : Prop :=
  (∀ (s : State), hears s = true → s.link.selection = .none →
    (∀ (kind tag level length : Byte) (payload : List Byte) (check : Byte),
      (64 < length.toNat ∨ check ≠ crc8 (kind :: tag :: level :: length :: payload)) →
      exec (.frameError kind tag level length payload check) s = .next (answered .frameError tag [] s))
    ∧ (∀ (kind : Byte) (q : Request), (∀ k : Kind, kindCode k ≠ kind) →
      exec (.unknownKind kind q) s = .next (answered .unknownKind q.tag [] s))
    ∧ (∀ first : Byte, first ≠ 0xC3#8 →
      ∃ t, exec (.selectionWithoutFrame first) s = .next t
        ∧ t = { s with link := { s.link with selection := .quiet } } ∧ ∀ wait k, ldo t wait k = some 0x00#8))
  ∧ (∀ (s : State) (tag : Byte) (wait k : Nat), s.link.selection = .awaiting tag → ldo s wait k = some 0x00#8)
  ∧ (∀ (s : State) (r : Reply) (due : Bool) (wait k : Nat) (body : List Byte), s.link.selection = .replying r due →
    body = statusCode r.status :: r.tag :: BitVec.ofNat 8 r.payload.length :: r.payload →
    (k < wait → ldo s wait k = some 0x00#8)
    ∧ (wait ≤ k → k < wait + body.length + 2 → ldo s wait k = (0x3C#8 :: (body ++ [crc8 body]))[k - wait]?)
    ∧ (wait + body.length + 2 ≤ k → ldo s wait k = some 0x00#8))

/-- R190, R191, R183: the link interface's own refusals of a request of a defined kind, in order: a payload length that
does not suit the kind; a level above 2, or less trusted than the kind allows; a start-up progress that has not reached
the kind's phase. Each refusal carries an empty payload and changes no state, but for the latch that reception emptied.
-/
def Obligations.LinkRefusesInOrder : Prop :=
  ∀ (k : Kind) (q : Request) (s : State), hears s = true → s.link.selection = .none →
    (lengthSuits k q.payload.length = false →
      exec (requestOf k q) s = .next (answered .badLength q.tag [] s))
    ∧ (lengthSuits k q.payload.length = true → leastTrusted k < q.level.toNat →
      exec (requestOf k q) s = .next (answered .badLevel q.tag [] s))
    ∧ (lengthSuits k q.payload.length = true → q.level.toNat ≤ leastTrusted k →
      s.supply.phase < takenFromPhase k (hasDays s) →
      exec (requestOf k q) s = .next (answered .notReady q.tag [] s))

/-- R77: every request frame the part receives leaves the erase-arm latch empty, except an ERASE_ARM, whose update comes
after the frame has emptied the latch. -/
def Obligations.FramesEmptyTheLatch : Prop :=
  ∀ (k : Kind) (q : Request) (s t : State), hears s = true → k ≠ .eraseArm →
    exec (requestOf k q) s = .next t → t.link.latch = none

/-- R189: the end of a selection: a standing reply is lost and nothing else changes; a SAVE_READ's read that waits is
withdrawn with its passed set, and one in flight will be discarded; a title reset still due is taken. With no selection
standing nothing happens. -/
def Obligations.SelectionEndLosesTheReply : Prop :=
  ∀ (s : State), slotUp s = true →
    (s.link.selection = .none → exec .selectionEnd s = .next s)
    ∧ (s.link.selection = .quiet → exec .selectionEnd s = .next { s with link := { s.link with selection := .none } })
    ∧ (∀ r, s.link.selection = .replying r false →
      exec .selectionEnd s = .next { s with link := { s.link with selection := .none } })
    ∧ (∀ r, s.link.selection = .replying r true →
      exec .selectionEnd s
        = .next { titleReset s with link := { (titleReset s).link with selection := .none } })
    ∧ (∀ tag, s.link.selection = .awaiting tag →
      ∃ t, exec .selectionEnd s = .next t ∧ t = { s with link := t.link, port := t.port }
        ∧ t.link = { s.link with selection := .none }
        ∧ t.port.linkRead = none
        ∧ t.port.passed = (if s.port.linkRead.isSome then [] else s.port.passed)
        ∧ (∀ r st, s.port.burst = some (.linkRead r st) → t.port.burst = some (.linkRead r true))
        ∧ ((∀ r st, s.port.burst ≠ some (.linkRead r st)) → t.port.burst = s.port.burst)
        ∧ t.port = { s.port with linkRead := t.port.linkRead, passed := t.port.passed, burst := t.port.burst })

/-! ## Reports, IDENT and notices -/

/-- R19, R43, R92, R111, R139, R172, R177, R196: the requests that report a block answer OK with their report, field by
field, and change nothing, apart from the latch that reception emptied. The places of lists, the codes of absent, yes
and no, the fields that a rule gives for other entries or voices alone, and the like are the model's choice (log 13), as
are what a REJECTED alias shows (log 29) and that REGION_INFO carries no check (log 30), and the memory byte of an entry
that names no memory is a free value (log 14). A selector above 23, a voice or counter number above 7, and COUNTER_READ
without a DAYS region are refused. -/
def Obligations.ReportsChangeNothing : Prop :=
  ∀ (tag level b : Byte) (s : State),
    (Takes .ident ⟨tag, level, []⟩ s →
      exec (.ident ⟨tag, level, []⟩) s = .next (answered .ok tag
        ([0x44#8, 0xFD#8, 0x01#8, BitVec.ofNat 8 (dirResultCode s.dir.result)]
          ++ (if s.dir.result = .loaded then
                [BitVec.ofNat 8 s.dir.count, BitVec.ofNat 8 s.dir.rejected, BitVec.ofNat 8 s.dir.revision]
                  ++ leBytes 2 (s.dir.romSize / 1024) ++ leBytes 2 (s.dir.sramSize / 1024)
              else List.replicate 7 0x00#8)
          ++ [BitVec.ofNat 8 s.supply.phase, BitVec.ofNat 8 (retentionCode s.supply.retention),
              BitVec.ofNat 8 (if s.supply.waiting then 1 else 0), BitVec.ofNat 8 (cellCode s.supply.cell)]
          ++ leBytes 2 s.supply.reading) s))
    ∧ (∀ en : Entry, en = (if s.dir.result = .loaded then entryAt s b.toNat else {}) →
      Takes .regionInfo ⟨tag, level, [b]⟩ s → b.toNat ≤ 23 →
      ∃ (memory : Byte) (rest : List Byte),
        exec (.regionInfo ⟨tag, level, [b]⟩) s = .next (answered .ok tag
          ([b, BitVec.ofNat 8 (standingCode en.standing), BitVec.ofNat 8 (reasonCode en.reason), BitVec.ofNat 8 en.kind,
            BitVec.ofNat 8 en.level, BitVec.ofNat 8 ((if en.write then 1 else 0) + if en.presentFlag then 2 else 0),
            (if en.standing = .accepted ∧ en.kind ≠ kindSample then (if en.writeRight then 1#8 else 0#8) else 0xFF#8),
            (if en.present then 1#8 else 0#8), memory]
            ++ leBytes 4 en.base ++ leBytes 4 en.length
            ++ [if en.kind = kindAlias then BitVec.ofNat 8 en.target else 0xFF#8] ++ rest) s)
        ∧ (en.kind = kindSample → memory = 0#8) ∧ (en.kind = kindSave ∨ en.kind = kindDays → memory = 1#8)
        ∧ (en.kind = kindAlias → en.standing = .accepted →
            memory = if (entryAt s en.target).kind = kindSample then 0#8 else 1#8)
        ∧ (∀ i, (en.standing = .accepted ∧ (((en.kind = kindSave ∨ en.kind = kindDays) ∧ i = b.toNat)
              ∨ (en.kind = kindAlias ∧ (entryAt s en.target).kind = kindSave ∧ i = en.target))) →
            rest = [BitVec.ofNat 8 (recordStateCode (recordAt s i).state)] ++ leBytes 4 (recordAt s i).generation
              ++ [BitVec.ofNat 8 (lockCode (recordAt s i).lock)])
        ∧ ((en.standing ≠ .accepted ∨ en.kind = kindSample
              ∨ (en.kind = kindAlias ∧ (entryAt s en.target).kind ≠ kindSave)) → rest = List.replicate 6 0xFF#8))
    ∧ (Takes .regionInfo ⟨tag, level, [b]⟩ s → 23 < b.toNat →
      exec (.regionInfo ⟨tag, level, [b]⟩) s = .next (answered .noEntry tag [] s))
    ∧ (∀ t c : Slot, t = s.save.kept.title → c = s.save.kept.clock → Takes .saveStatus ⟨tag, level, []⟩ s →
      exec (.saveStatus ⟨tag, level, []⟩) s = .next (answered .ok tag
        ([BitVec.ofNat 8 (slotStateCode t.state), if t.held then 1#8 else 0#8, BitVec.ofNat 8 (slotKindCode t.kind),
            BitVec.ofNat 8 t.blocks.length, BitVec.ofNat 8 t.faults]
          ++ (if t.state = .free then List.replicate 3 0xFF#8
              else [BitVec.ofNat 8 t.target, BitVec.ofNat 8 t.selector, BitVec.ofNat 8 t.level])
          ++ [BitVec.ofNat 8 (slotStateCode c.state), if c.held then 1#8 else 0#8, BitVec.ofNat 8 c.faults]
          ++ [0, 1].map (fun i => match s.save.kept.queue[i]? with
              | some .title => 0#8
              | some .clock => 1#8
              | none => 0xFF#8)
          ++ [if t.state = .copying then 0#8 else if c.state = .copying then 1#8 else 0xFF#8]
          ++ (match s.save.kept.outcome with
              | some r => [BitVec.ofNat 8 r.target, r.tag, BitVec.ofNat 8 (saveOpCode r.op),
                  BitVec.ofNat 8 (saveOutcomeCode r.outcome)] ++ optField 4 r.faultOffset
              | none => List.replicate 8 0xFF#8)) s))
    ∧ (∀ (c : Clock) (game : Option Int), c = s.clock →
      game = (if c.state = .unset ∨ (hasDays s = true ∧ s.days.inService = false) then none
        else some (if turnSecond s ≤ c.second then (c.day : Int) else (c.day : Int) - 1)) →
      Takes .clockRead ⟨tag, level, []⟩ s →
      exec (.clockRead ⟨tag, level, []⟩) s = .next (answered .ok tag
        ([if c.state = .valid then 0#8 else 1#8] ++ leBytes 2 c.day ++ leBytes 4 c.second ++ leBytes 2 c.subsecond
          ++ (if c.state = .valid then
                leBytes 2 (dateOf c.day).year ++ [BitVec.ofNat 8 (dateOf c.day).month, BitVec.ofNat 8 (dateOf c.day).day,
                  BitVec.ofNat 8 (c.second / 3600), BitVec.ofNat 8 (c.second % 3600 / 60), BitVec.ofNat 8 (c.second % 60),
                  BitVec.ofNat 8 ((c.day + 6) % 7)] ++ leBytes 2 (dateOf c.day).dayOfYear
              else List.replicate 10 0xFF#8)
          ++ leInt 2 c.trim ++ optSigned 3 game ++ optSigned 3 (if s.days.inService then s.days.highDay else none)
          ++ [if c.state = .valid ∧ s.days.inService = true ∧ s.days.behind = true then 1#8 else 0#8]) s))
    ∧ (Takes .counterRead ⟨tag, level, [b]⟩ s → hasDays s = true → b.toNat ≤ 7 →
      ∃ c : Counter, c = counterOf s.days.counters b.toNat ∧ exec (.counterRead ⟨tag, level, [b]⟩) s
        = .next (answered .ok tag
          ([BitVec.ofNat 8 (counterStateCode c.state)] ++ leBytes 2 c.remaining ++ leBytes 2 c.period
            ++ [BitVec.ofNat 8 c.passes] ++ optSigned 3 s.days.highDay ++ leBytes 4 s.days.turnSecond
            ++ [if s.days.dirty = false ∧ s.save.kept.clock.state = .free then 1#8 else 0#8]) s))
    ∧ (∀ v : Voice, v = voiceAt s b.toNat → Takes .voiceRead ⟨tag, level, [b]⟩ s → b.toNat ≤ 7 →
      exec (.voiceRead ⟨tag, level, [b]⟩) s = .next (answered .ok tag
        ([BitVec.ofNat 8 (voiceStateCode v.state), BitVec.ofNat 8 (formatCode v.format), if v.priming then 1#8 else 0#8]
          ++ (match v.window with
              | some (base, len) => leBytes 4 base ++ leBytes 4 len
              | none => List.replicate 8 0xFF#8)
          ++ leBytes 3 v.startPos ++ leBytes 3 v.loopStart ++ leBytes 3 v.endPos
          ++ [if v.looping then 1#8 else 0#8, BitVec.ofNat 8 v.duty]
          ++ leBytes 2 v.rate ++ leBytes 3 v.index ++ leBytes 2 v.fraction ++ leBytes 2 v.e ++ leBytes 2 v.target
          ++ leBytes 2 v.step ++ leBytes 2 v.releaseStep ++ [BitVec.ofNat 8 v.volume, BitVec.ofNat 8 v.pan]
          ++ leBytes 2 v.noise.toNat ++ leInt 2 v.last
          ++ (if v.format = .pcm8 ∨ v.format = .pcm16 then
                [BitVec.ofNat 8 v.run.length, BitVec.ofNat 8 (v.run.length - v.runOffset),
                  if b.toNat ∈ s.port.refills then (if v.run.length - v.runOffset < 2 then 1#8 else 0#8) else 0xFF#8]
              else List.replicate 3 0xFF#8)) s))
    ∧ (Takes .voiceRead ⟨tag, level, [b]⟩ s → 7 < b.toNat →
      exec (.voiceRead ⟨tag, level, [b]⟩) s = .next (answered .badValue tag [] s))
    ∧ (Takes .counterRead ⟨tag, level, [b]⟩ s → hasDays s = false →
      exec (.counterRead ⟨tag, level, [b]⟩) s = .next (answered .noEntry tag [] s))
    ∧ (Takes .counterRead ⟨tag, level, [b]⟩ s → hasDays s = true → 7 < b.toNat →
      exec (.counterRead ⟨tag, level, [b]⟩) s = .next (answered .badValue tag [] s))
    ∧ (∀ r : Rumble, r = s.rumble → Takes .rumbleRead ⟨tag, level, []⟩ s →
      exec (.rumbleRead ⟨tag, level, []⟩) s = .next (answered .ok tag
        ((match r.current with
          | some x => [BitVec.ofNat 8 x.pattern, BitVec.ofNat 8 x.priority, BitVec.ofNat 8 x.playsLeft,
              BitVec.ofNat 8 x.stepIndex] ++ leBytes 2 x.ticksLeft
          | none => List.replicate 6 0xFF#8)
          ++ ([0, 1, 2, 3].map (fun i => match r.waiting[i]? with
              | some x => [BitVec.ofNat 8 x.pattern, BitVec.ofNat 8 x.priority, BitVec.ofNat 8 x.playsLeft]
              | none => List.replicate 3 0xFF#8)).flatten
          ++ (match r.follow with
              | some (n, g) => [1#8, BitVec.ofNat 8 n, BitVec.ofNat 8 g]
              | none => [0#8, 0xFF#8, 0xFF#8])
          ++ [BitVec.ofNat 8 r.lastFollow, BitVec.ofNat 8 r.lastDemand] ++ leBytes 2 r.heat
          ++ [if r.limiter then 1#8 else 0#8,
              (match s.supply.state with | .normal => 100#8 | .low => 45#8 | _ => 0#8),
              BitVec.ofNat 8 ((if s.mixer.output = true ∧ s.supply.state ≠ .off ∧ s.supply.state ≠ .warn then 1 else 0)
                + if s.save.copy = none then 0 else 2),
              BitVec.ofNat 8 r.ceiling, BitVec.ofNat 8 r.applied] ++ leBytes 2 r.hold
          ++ (match r.timer with
              | some n => leBytes 3 n
              | none => List.replicate 3 0xFF#8)) s))
    ∧ (Takes .supplyRead ⟨tag, level, []⟩ s →
      exec (.supplyRead ⟨tag, level, []⟩) s = .next (answered .ok tag
        ([BitVec.ofNat 8 (supplyCode s.supply.state),
            (match s.supply.state with | .normal => 100#8 | .low => 45#8 | _ => 0#8),
            BitVec.ofNat 8 s.supply.phase, BitVec.ofNat 8 (retentionCode s.supply.retention),
            BitVec.ofNat 8 (if s.supply.waiting then 1 else 0), BitVec.ofNat 8 (cellCode s.supply.cell)]
          ++ leBytes 2 s.supply.reading
          ++ [if s.supply.measuring then 1#8 else 0#8, if s.supply.checkWaiting then 1#8 else 0#8]) s))


/-- R193, R194, R195, R200: NOTICE_FETCH removes the oldest entry and reports its kind number, count and the detail
bytes of its kind, an absent fault offset as FFFFFFFFh; an empty queue answers with an empty payload; the attention line
is asserted afterwards exactly when entries remain. NOTICE_MASK replaces the mask and answers with the mask before; a
set naming a kind outside the ten is refused BAD_VALUE, and pending entries stay. -/
def Obligations.NoticeRequests : Prop :=
  (∀ (tag level : Byte) (s : State), Takes .noticeFetch ⟨tag, level, []⟩ s →
    (s.link.queue = [] → exec (.noticeFetch ⟨tag, level, []⟩) s = .next (answered .ok tag [] s))
    ∧ (∀ (x : NoticeEntry) (rest : List NoticeEntry) (record : List Byte), s.link.queue = x :: rest →
      record = (match x.notice with
        | .supplyChange st => [1#8, BitVec.ofNat 8 x.count,
            match st with | .off => 0#8 | .start => 1#8 | .normal => 2#8 | .low => 3#8 | .warn => 4#8]
        | .cellState c mv => [2#8, BitVec.ofNat 8 x.count,
            match c with | .unknown => 0#8 | .good => 1#8 | .weak => 2#8 | .flat => 3#8] ++ leBytes 2 mv
        | .saveDone r => [3#8, BitVec.ofNat 8 x.count,
            (match r.op with | .commit => 0#8 | .erase => 1#8 | .rollForward => 2#8), BitVec.ofNat 8 r.target, r.tag,
            (match r.outcome with
              | .committed => 0#8 | .rolledForward => 1#8 | .discarded => 2#8 | .fault => 3#8 | .faultDiscarded => 4#8)]
            ++ (match r.faultOffset with | some o => leBytes 4 o | none => List.replicate 4 0xFF#8)
        | .regionState i st why => [4#8, BitVec.ofNat 8 x.count, BitVec.ofNat 8 i,
            (match st with | .unchecked => 0#8 | .valid => 1#8 | .damaged => 2#8 | .blank => 3#8),
            (match why with | .scanMismatch => 0#8 | .verifyFault => 1#8 | .rebuilt => 2#8)]
        | .dayDue set passes => [5#8, BitVec.ofNat 8 x.count, set] ++ leBytes 2 passes
        | .clockState r => [6#8, BitVec.ofNat 8 x.count,
            match r with | .unset => 0#8 | .set => 1#8 | .behind => 2#8 | .ahead => 3#8 | .limit => 4#8]
        | .dayUnordered day => [7#8, BitVec.ofNat 8 x.count] ++ leBytes 2 day
        | .mixFlags flags highest => [8#8, BitVec.ofNat 8 x.count, flags,
            match highest with | .clip => 0#8 | .starve => 1#8 | .fade => 2#8 | .inexact => 3#8]
        | .voiceEnd set why => [9#8, BitVec.ofNat 8 x.count, set, match why with | .ended => 0#8 | .released => 1#8]
        | .rumbleState r => [10#8, BitVec.ofNat 8 x.count,
            match r with
            | .finished => 0#8 | .preempted => 1#8 | .displaced => 2#8 | .limitOn => 3#8 | .limitOff => 4#8
            | .holdExpired => 5#8 | .shed => 6#8]) →
      ∃ t, exec (.noticeFetch ⟨tag, level, []⟩) s = .next t
        ∧ t = answered .ok tag record
            { s with link := { s.link with queue := rest } }
        ∧ latn t = !rest.isEmpty))
  ∧ (∀ (tag level lo hi : Byte) (s : State), Takes .noticeMask ⟨tag, level, [lo, hi]⟩ s →
    exec (.noticeMask ⟨tag, level, [lo, hi]⟩) s = .next
      (if hi.toNat < 4 then
        answered .ok tag [BitVec.ofNat 8 (s.link.mask.toNat % 256), BitVec.ofNat 8 (s.link.mask.toNat / 256)]
          { s with link := { s.link with mask := BitVec.ofNat 10 (lo.toNat + 256 * hi.toNat) } }
      else answered .badValue tag [] s))


/-- R192: what queueing a notice does. A kind outside the mask is discarded. A kind with no pending entry gets a new one
at the tail, with count 1. A pending entry keeps its place, its count rises by 1 up to 255, and its detail becomes the
notice's, but that a set (the counters due, the flags, the voices) becomes the union of the two. No other entry changes,
and nothing but the queue does. -/
def Obligations.NoticesFoldByKind : Prop :=
  ∀ (n : Notice) (s : State),
    notify n s = { s with link := { s.link with queue := (notify n s).link.queue } }
    ∧ (s.link.mask.getLsbD (noticeKind n - 1) = false → notify n s = s)
    ∧ (s.link.mask.getLsbD (noticeKind n - 1) = true →
      ((∀ x ∈ s.link.queue, noticeKind x.notice ≠ noticeKind n) →
        (notify n s).link.queue = s.link.queue ++ [⟨1, n⟩])
      ∧ (∀ (before after : List NoticeEntry) (x : NoticeEntry), s.link.queue = before ++ x :: after →
        noticeKind x.notice = noticeKind n → (∀ y ∈ before, noticeKind y.notice ≠ noticeKind n) →
        ∃ d, (notify n s).link.queue = before ++ ⟨min 255 (x.count + 1), d⟩ :: after
          ∧ (∀ c p c' p', x.notice = .dayDue c p → n = .dayDue c' p' → d = .dayDue (c ||| c') p')
          ∧ (∀ f h f' h', x.notice = .mixFlags f h → n = .mixFlags f' h' → d = .mixFlags (f ||| f') h')
          ∧ (∀ v w v' w', x.notice = .voiceEnd v w → n = .voiceEnd v' w' → d = .voiceEnd (v ||| v') w')
          ∧ (noticeKind n ≠ 5 → noticeKind n ≠ 8 → noticeKind n ≠ 9 → d = n)))

/-- R192: no step gives the notice queue two entries of one kind, or a count outside 1 to 255. -/
def Obligations.NoticeQueueInvariant : Prop :=
  ∀ (s t : State), QueueOk s.link.queue → step s = .next t → QueueOk t.link.queue ∧ t.link.queue.length ≤ 10

/-! ## Title reset and the reset line -/

/-- R197: TITLE_RESET is answered OK at once and its title reset is due; the title reset is taken when the reply's check
byte has been sent, with the effects of the table of section 11.5: the queue emptied, the mask and latch at their
values, every voice and the mixer at their defaults, the player, follow, patterns and hold cleared with A 0, the sticky
flag cleared; the directory, the supply, the clock, the memories and the heat model kept. What it does to kept RAM is
that of `titleReset`, which TitleResetDiscardsCollecting states. That the stored output sample becomes 0 with
the mixer's other defaults is the model's reading (log 23). -/
def Obligations.TitleResetTakenAfterReply : Prop :=
  (∀ (tag level : Byte) (s : State), Takes .titleReset ⟨tag, level, []⟩ s →
    exec (.titleReset ⟨tag, level, []⟩) s
      = .next { s with link := { s.link with selection := .replying ⟨.ok, tag, []⟩ true, latch := none } })
  ∧ (∀ (r : Reply) (s : State), s.link.selection = .replying r true →
    ∃ t, exec .titleResetTaken s = .next t
      ∧ t.link = { selection := .replying r false, latch := none, queue := [], mask := 0x3FF#10 }
      ∧ t.voices = Vector.replicate 8 {} ∧ t.mixer = {}
      ∧ t.rumble = { s.rumble with
          patterns := Vector.replicate 16 [], current := none, waiting := [], follow := none, hold := 0, timer := none
          applied := 0, lastFollow := 0, lastDemand := 0, ceiling := ceilingOf t }
      ∧ t.days = { s.days with sticky := false }
      ∧ t.dir = s.dir ∧ t.supply = s.supply ∧ t.clock = s.clock ∧ t.rom = s.rom ∧ t.sram = s.sram
      ∧ t.port.mark = s.port.mark ∧ t.port.starvation = s.port.starvation ∧ t.port.refills = []
      ∧ t.port.commit = s.port.commit ∧ t.port.scan = s.port.scan ∧ t.port.linkRead = s.port.linkRead
      ∧ t.save.copy = s.save.copy ∧ t.save.tries = s.save.tries ∧ t.save.frozen = s.save.frozen
      ∧ t.save.kept = (titleReset s).save.kept)

/-- R55, R71: what a title reset does to kept RAM: a COLLECTING title slot becomes FREE with its blocks returned and the
outcome record DISCARDED, and the clock slot stays, its pending order, if it has one, being 1 then (R34); a title slot
in any other state, the clock slot and the queue stay; OPEN locks of records in use become LOCKED. -/
def Obligations.TitleResetDiscardsCollecting : Prop :=
  ∀ (s : State),
    (s.save.kept.title.state = .collecting →
      (titleReset s).save.kept.title.state = .free ∧ (titleReset s).save.kept.title.blocks = []
      ∧ (titleReset s).save.kept.outcome
          = some ⟨s.save.kept.title.target, s.save.kept.title.tag, .commit, .discarded, none⟩
      ∧ (titleReset s).save.kept.clock
          = { s.save.kept.clock with order := if s.save.kept.clock.order = 0 then 0 else 1 })
    ∧ (s.save.kept.title.state ≠ .collecting →
      (titleReset s).save.kept.title = s.save.kept.title ∧ (titleReset s).save.kept.clock = s.save.kept.clock
      ∧ (titleReset s).save.kept.outcome = s.save.kept.outcome)
    ∧ (titleReset s).save.kept.queue = s.save.kept.queue ∧ (titleReset s).save.kept.master = s.save.kept.master
    ∧ (∀ i, i < 24 → inUse s i = true → (recordAt s i).lock = .opened →
      recordAt (titleReset s) i = { recordAt s i with lock := .locked })
    ∧ (∀ i, i < 24 → (inUse s i = false ∨ (recordAt s i).lock ≠ .opened) →
      recordAt (titleReset s) i = recordAt s i)

/-- R198: an assertion of SRST, with no selection standing, gives a title reset from phase 5 on and none before it; one
already asserted is no assertion; a release gives nothing; and while SRST is asserted every request leaves the state as
it was. -/
def Obligations.ResetLineResetsTheTitle : Prop :=
  ∀ (s : State),
    (slotUp s = true → s.link.selection = .none → s.srst = false →
      exec .srstAssertion s
        = .next (if 5 ≤ s.supply.phase then titleReset { s with srst := true } else { s with srst := true }))
    ∧ (s.srst = true → exec .srstAssertion s = .next s)
    ∧ exec .srstRelease s = .next { s with srst := false }
    ∧ (s.srst = true → ∀ (k : Kind) (q : Request), exec (requestOf k q) s = .next s)

/-! ## The region directory -/

/-- R11: REGION_PRESENT's checks, in order, and the flag's new value; the reply carries the old one. -/
def Obligations.RegionPresentSetsTheFlag : Prop :=
  ∀ (tag level sel v : Byte) (s : State), Takes .regionPresent ⟨tag, level, [sel, v]⟩ s →
    (isAccepted s sel.toNat = false →
      exec (.regionPresent ⟨tag, level, [sel, v]⟩) s = .next (answered .noEntry tag [] s))
    ∧ (isAccepted s sel.toNat = true → (entryAt s sel.toNat).kind = kindDays →
      exec (.regionPresent ⟨tag, level, [sel, v]⟩) s = .next (answered .wrongKind tag [] s))
    ∧ (isAccepted s sel.toNat = true → (entryAt s sel.toNat).kind ≠ kindDays → 1 < v.toNat →
      exec (.regionPresent ⟨tag, level, [sel, v]⟩) s = .next (answered .badValue tag [] s))
    ∧ (isAccepted s sel.toNat = true → (entryAt s sel.toNat).kind ≠ kindDays → v.toNat ≤ 1 →
      exec (.regionPresent ⟨tag, level, [sel, v]⟩) s
        = .next (answered .ok tag [if (entryAt s sel.toNat).present then 1#8 else 0#8]
            { s with dir := { s.dir with entries :=
                s.dir.entries.setIfInBounds sel.toNat { entryAt s sel.toNat with present := v == 1#8 } } }))

/-- R1 to R8, R201, R53, R182: a directory burst. A header is accepted when its signature is CRTD, its entry count 1 to
24, its size codes at most 8 and 3, and its check byte the CRC-8 of the 15 bytes before it; it gives the sizes and
counts, and entry 0's burst follows. A refused one ends the load ABSENT or BAD_HEADER with every entry EMPTY. An entry's
16 bytes are taken by R201's places and checked, and it is rejected by the first reason that holds: BAD_KIND, BAD_LEVEL,
then of its kind those of R4, R5 or R6 in their order; an EMPTY entry stays EMPTY, and an ALIAS entry is held for R7. It
goes into the table, and the next one's burst follows; after the last one each ALIAS held is checked against its target,
and the load ends LOADED. At the end of the load phase 4 begins: a COLLECTING title slot is freed with the outcome
DISCARDED, and the phase is complete at once where no slot is PENDING or COPYING. -/
def Obligations.DirectoryBurstsBuildTheTable : Prop :=
  ∀ (a : Nat) (bus h : List Byte) (s : State), s.port.burst = some (.directory a) → h = burstBytes s.rom a 16 bus →
    (headerAccepted h = true ↔ h.take 4 = [0x43#8, 0x52#8, 0x54#8, 0x44#8]
      ∧ 1 ≤ (h.getD 4 0).toNat ∧ (h.getD 4 0).toNat ≤ 24 ∧ (h.getD 6 0).toNat ≤ 8 ∧ (h.getD 7 0).toNat ≤ 3
      ∧ h.getD 15 0 = crc8 (h.take 15))
    ∧ (∀ (i : Nat) (en : Entry) (clash second : Bool),
      en = { kind := (h.getD 0 0).toNat, level := (h.getD 1 0).toNat, write := (h.getD 2 0).getLsbD 0
             presentFlag := (h.getD 2 0).getLsbD 1, target := (h.getD 3 0).toNat, base := leNat ((h.drop 4).take 4)
             length := leNat ((h.drop 8).take 4) } →
      (clash = true ↔ ∃ j, j < i ∧ (entryAt s j).standing = .accepted
        ∧ ((entryAt s j).kind = kindSave ∨ (entryAt s j).kind = kindDays)
        ∧ en.base < (entryAt s j).base + (entryAt s j).length ∧ (entryAt s j).base < en.base + en.length) →
      (second = true ↔ ∃ j, j < i ∧ (entryAt s j).kind = kindDays) →
      checkEntry s i (loadedEntry h) =
        if en.kind = 0 then en
        else if 4 < en.kind then { en with standing := .rejected, reason := .badKind }
        else if 2 < en.level then { en with standing := .rejected, reason := .badLevel }
        else if en.kind = 1 then
          (if en.length = 0 then { en with standing := .rejected, reason := .zeroLength }
          else if en.write = true then { en with standing := .rejected, reason := .writeOnSample }
          else if s.dir.romSize < en.base + en.length then { en with standing := .rejected, reason := .outsideMemory }
          else { en with standing := .accepted })
        else if en.kind = 2 then
          (if en.length = 0 then { en with standing := .rejected, reason := .zeroLength }
          else if en.base % 64 ≠ 0 ∨ en.length % 64 ≠ 0 then { en with standing := .rejected, reason := .misaligned }
          else if s.dir.sramSize < en.base + en.length then { en with standing := .rejected, reason := .outsideMemory }
          else if clash = true then { en with standing := .rejected, reason := .overlap }
          else { en with standing := .accepted, writeRight := en.write })
        else if en.kind = 3 then
          (if second = true then { en with standing := .rejected, reason := .secondDays }
          else if en.length ≠ 64 then { en with standing := .rejected, reason := .wrongSize }
          else if en.base % 64 ≠ 0 then { en with standing := .rejected, reason := .misaligned }
          else if s.dir.sramSize < en.base + en.length then { en with standing := .rejected, reason := .outsideMemory }
          else if clash = true then { en with standing := .rejected, reason := .overlap }
          else { en with standing := .accepted })
        else en)
    ∧ (s.dir.loading = some .header →
      ∃ t, exec (.directoryLoadBurstCompletion bus) s = .next t
        ∧ (headerAccepted h = true →
            t.dir = { s.dir with
              loading := some (.entry 0), count := field h 4 1, revision := field h 5 1
              romSize := 65536 * 2 ^ field h 6 1, sramSize := sramSizeOf (field h 7 1) }
            ∧ loadUnderWay 16 t ∧ t.supply = s.supply)
        ∧ (headerAccepted h = false →
            t.dir.entries = Vector.replicate 24 {} ∧ t.dir.loading = none
            ∧ t.dir.romSize = 0 ∧ t.dir.sramSize = 0
            ∧ (t.dir.result = .absent ↔ (∀ b ∈ h.take 4, b = 0x00#8) ∨ (∀ b ∈ h.take 4, b = 0xFF#8))
            ∧ (t.dir.result = .absent ∨ t.dir.result = .badHeader)
            ∧ phase4Begun s t))
    ∧ (∀ i, s.dir.loading = some (.entry i) → i < 24 → i + 1 < s.dir.count →
      ∃ t, exec (.directoryLoadBurstCompletion bus) s = .next t
        ∧ t.dir = { s.dir with
            loading := some (.entry (i + 1)), entries := s.dir.entries.setIfInBounds i (checkEntry s i (loadedEntry h)) }
        ∧ loadUnderWay (16 + 16 * (i + 1)) t ∧ t.supply = s.supply)
    ∧ (∀ i, s.dir.loading = some (.entry i) → i < 24 → s.dir.count ≤ i + 1 →
      ∃ (t u : State), exec (.directoryLoadBurstCompletion bus) s = .next t
        ∧ u = { s with dir := { s.dir with
            entries := s.dir.entries.setIfInBounds i (checkEntry s i (loadedEntry h)) } }
        ∧ t.dir.result = .loaded ∧ t.dir.loading = none
        ∧ t.dir.rejected = (t.dir.entries.toList.filter (fun en => en.standing == .rejected)).length
        ∧ (∀ j, j < 24 → ∀ (en tg f : Entry), en = entryAt u j → tg = entryAt u en.target →
            f = (if en.kind ≠ kindAlias ∨ en.standing ≠ .empty then en
              else if 23 < en.target ∨ tg.standing ≠ .accepted ∨ (tg.kind ≠ kindSave ∧ tg.kind ≠ kindSample) then
                { en with standing := .rejected, reason := .badTarget }
              else if en.length = 0 then { en with standing := .rejected, reason := .zeroLength }
              else if tg.kind = kindSave ∧ (en.base % 64 ≠ 0 ∨ en.length % 64 ≠ 0) then
                { en with standing := .rejected, reason := .misaligned }
              else if tg.length < en.base + en.length then { en with standing := .rejected, reason := .outsideTarget }
              else { en with standing := .accepted, writeRight := en.write && tg.writeRight }) →
            entryAt t j = { f with
              present := decide (f.standing = .accepted ∧ (f.kind = kindDays ∨ f.presentFlag = true)) })
        ∧ phase4Begun s t)

/-- R5, R6: an entry that is checked into the table and accepted as SAVE or DAYS has an aligned window inside SRAM that
shares no byte with an earlier accepted SAVE or DAYS entry; a DAYS entry is 64 bytes long. -/
def Obligations.AcceptedWindowsAreDisjoint : Prop :=
  ∀ (s : State) (i : Nat) (b : List Byte), i < 24 →
    (entryAt (takeEntry i b s) i).standing = .accepted →
    ((entryAt (takeEntry i b s) i).kind = kindSave ∨ (entryAt (takeEntry i b s) i).kind = kindDays) →
    0 < (entryAt (takeEntry i b s) i).length
    ∧ (entryAt (takeEntry i b s) i).base % 64 = 0 ∧ (entryAt (takeEntry i b s) i).length % 64 = 0
    ∧ (entryAt (takeEntry i b s) i).base + (entryAt (takeEntry i b s) i).length ≤ s.dir.sramSize
    ∧ ((entryAt (takeEntry i b s) i).kind = kindDays → (entryAt (takeEntry i b s) i).length = 64)
    ∧ ∀ j, j < i → (entryAt s j).standing = .accepted →
        ((entryAt s j).kind = kindSave ∨ (entryAt s j).kind = kindDays) →
        (entryAt (takeEntry i b s) i).base + (entryAt (takeEntry i b s) i).length ≤ (entryAt s j).base
        ∨ (entryAt s j).base + (entryAt s j).length ≤ (entryAt (takeEntry i b s) i).base

/-- R10, R13, R15: a selector resolves exactly when every check of R13 passes, and then to the window of R15: an alias's
base is its target's base plus its offset, and its memory and record are its target's; the window carries the offset,
the selector and level asked with, and the effective write right. Otherwise the first check that fails gives the status:
NO_ENTRY, NOT_PRESENT, DENIED, NOT_PRESENT of an alias's target, WRONG_KIND, READ_ONLY, NOT_READY, LOCKED and
OUT_OF_BOUNDS, in this order. -/
def Obligations.ResolutionPassesEveryCheck : Prop :=
  ∀ (s : State) (i q need : Nat) (write : Bool) (test : RecordTest) (fits : Window → Bool) (w : Window) (en tg : Entry)
    (r : Record),
    (resolve s i q need write test fits = .window w ↔
      (w = windowOf s i q ∧ isAccepted s i = true ∧ (entryAt s i).present = true ∧ q ≤ (entryAt s i).level
        ∧ ((entryAt s i).kind = kindAlias → (entryAt s (entryAt s i).target).present = true)
        ∧ (if (entryAt s i).kind = kindAlias then (entryAt s (entryAt s i).target).kind else (entryAt s i).kind) = need
        ∧ (write = true → (entryAt s i).writeRight = true)
        ∧ (test ≠ .none → (recordAt s w.target).state ≠ .unchecked)
        ∧ (test = .uncheckedAndLocked → (recordAt s w.target).lock ≠ .locked)
        ∧ fits w = true))
    ∧ (w = windowOf s i q →
      w.target = (if (entryAt s i).kind = kindAlias then (entryAt s i).target else i)
      ∧ w.base = (entryAt s i).base
          + (if (entryAt s i).kind = kindAlias then (entryAt s (entryAt s i).target).base else 0)
      ∧ w.length = (entryAt s i).length
      ∧ w.offset = (if (entryAt s i).kind = kindAlias then (entryAt s i).base else 0)
      ∧ w.selector = i ∧ w.level = q ∧ w.write = (entryAt s i).writeRight
      ∧ (w.memory = .rom ↔ (entryAt s i).kind = kindSample
          ∨ ((entryAt s i).kind = kindAlias ∧ (entryAt s (entryAt s i).target).kind = kindSample)))
    ∧ (en = entryAt s i → tg = entryAt s en.target → r = recordAt s (if en.kind = kindAlias then en.target else i) →
      (∀ w, resolve s i q need write test fits ≠ .window w) →
      resolve s i q need write test fits = .refused
        (if isAccepted s i = false then .noEntry
        else if en.present = false then .notPresent
        else if en.level < q then .denied
        else if en.kind = kindAlias ∧ tg.present = false then .notPresent
        else if (if en.kind = kindAlias then tg.kind else en.kind) ≠ need then .wrongKind
        else if write = true ∧ en.writeRight = false then .readOnly
        else if test ≠ .none ∧ r.state = .unchecked then .notReady
        else if test = .uncheckedAndLocked ∧ r.lock = .locked then .locked
        else .outOfBounds))

/-! ## Save transactions -/

/-- R36, R41: SAVE_BEGIN: a refused resolution, a title slot that is not FREE, the supply in WARN; else the title slot
is COLLECTING on the resolved window, with no staged block, and nothing else changes. SAVE_ABANDON: NO_TRANSACTION,
DENIED and BUSY; else the title slot is FREE, its blocks returned, and the outcome record says DISCARDED. -/
def Obligations.SaveBeginAndAbandon : Prop :=
  (∀ (tag level sel : Byte) (s : State), Takes .saveBegin ⟨tag, level, [sel]⟩ s →
    (∀ st, resolveSave s sel.toNat level.toNat true (fun _ => true) = .refused st →
      exec (.saveBegin ⟨tag, level, [sel]⟩) s = .next (answered st tag [] s))
    ∧ (∀ w, resolveSave s sel.toNat level.toNat true (fun _ => true) = .window w →
      exec (.saveBegin ⟨tag, level, [sel]⟩) s = .next
        (if s.save.kept.title.state ≠ .free then answered .busy tag [] s
        else if s.supply.state = .warn then answered .power tag [] s
        else answered .ok tag [] { s with save := { s.save with kept := { s.save.kept with title :=
          { state := .collecting, held := false, kind := .write, target := w.target, base := w.base
            length := w.length, offset := w.offset, selector := sel.toNat, level := level.toNat, tag := tag
            order := 0, faults := 0, fullPass := false, zeroBase := false, blocks := [] } } } })))
  ∧ (∀ (tag level : Byte) (s : State), Takes .saveAbandon ⟨tag, level, []⟩ s →
    (s.save.kept.title.state = .free →
      exec (.saveAbandon ⟨tag, level, []⟩) s = .next (answered .noTransaction tag [] s))
    ∧ (s.save.kept.title.state ≠ .free → s.save.kept.title.level < level.toNat →
      exec (.saveAbandon ⟨tag, level, []⟩) s = .next (answered .denied tag [] s))
    ∧ (s.save.kept.title.state ≠ .free → level.toNat ≤ s.save.kept.title.level →
      committable s.save.kept.title = false →
      exec (.saveAbandon ⟨tag, level, []⟩) s = .next (answered .busy tag [] s))
    ∧ (level.toNat ≤ s.save.kept.title.level → committable s.save.kept.title = true →
      ∃ t, exec (.saveAbandon ⟨tag, level, []⟩) s = .next t
        ∧ t.link = { s.link with selection := .replying ⟨.ok, tag, []⟩ false, latch := none }
        ∧ t = { s with link := t.link, save := t.save }
        ∧ t.save.kept.title.state = .free ∧ t.save.kept.title.blocks = [] ∧ t.save.kept.title.order = 0
        ∧ t.save.kept.outcome = some ⟨s.save.kept.title.target, tag,
            (if s.save.kept.title.kind = .erase then .erase else .commit), .discarded, none⟩
        ∧ t.save.kept.clock.order = (if s.save.kept.clock.order = 0 then 0 else 1)
        ∧ t.save.kept.records = s.save.kept.records ∧ t.save.kept.queue = s.save.kept.queue))


/-- R37, R38: SAVE_WRITE: its refusals in order; else every byte of the write stands staged at its offset in the target
region, every other staged position stands as before, the touched blocks that had no staged block follow the others, at
most 31 blocks are staged, and the reply carries their number. Nothing else changes. That of two such blocks the lower
index comes first is the model's reading (log 24). -/
def Obligations.SaveWriteStagesItsBytes : Prop :=
  ∀ (tag level o0 o1 o2 o3 : Byte) (data : List Byte) (s : State),
    Takes .saveWrite ⟨tag, level, o0 :: o1 :: o2 :: o3 :: data⟩ s →
    (∀ b ∈ s.save.kept.title.blocks, b.bytes.length = 64) →
    (s.save.kept.title.state ≠ .collecting →
      exec (.saveWrite ⟨tag, level, o0 :: o1 :: o2 :: o3 :: data⟩) s = .next (answered .noTransaction tag [] s))
    ∧ (s.save.kept.title.state = .collecting → s.save.kept.title.level < level.toNat →
      exec (.saveWrite ⟨tag, level, o0 :: o1 :: o2 :: o3 :: data⟩) s = .next (answered .denied tag [] s))
    ∧ (s.save.kept.title.state = .collecting → level.toNat ≤ s.save.kept.title.level →
      s.save.kept.title.length < leNat [o0, o1, o2, o3] + data.length →
      exec (.saveWrite ⟨tag, level, o0 :: o1 :: o2 :: o3 :: data⟩) s = .next (answered .outOfBounds tag [] s))
    ∧ (s.save.kept.title.state = .collecting → level.toNat ≤ s.save.kept.title.level →
      leNat [o0, o1, o2, o3] + data.length ≤ s.save.kept.title.length →
      31 < s.save.kept.title.blocks.length + (newBlocks s.save.kept.title.blocks
        (s.save.kept.title.offset + leNat [o0, o1, o2, o3]) data.length).length →
      exec (.saveWrite ⟨tag, level, o0 :: o1 :: o2 :: o3 :: data⟩) s = .next (answered .stagingFull tag [] s))
    ∧ (s.save.kept.title.state = .collecting → level.toNat ≤ s.save.kept.title.level →
      leNat [o0, o1, o2, o3] + data.length ≤ s.save.kept.title.length →
      s.save.kept.title.blocks.length + (newBlocks s.save.kept.title.blocks
        (s.save.kept.title.offset + leNat [o0, o1, o2, o3]) data.length).length ≤ 31 →
      ∃ (blocks : List StagedBlock) (first last : Nat), blocks.length ≤ 31
        ∧ first = (s.save.kept.title.offset + leNat [o0, o1, o2, o3]) / 64
        ∧ last = (s.save.kept.title.offset + leNat [o0, o1, o2, o3] + data.length - 1) / 64
        ∧ blocks.map StagedBlock.index = s.save.kept.title.blocks.map StagedBlock.index
            ++ ((if last = first then [first] else [first, last]).filter
              (fun i => decide (i ∉ s.save.kept.title.blocks.map StagedBlock.index)))
        ∧ exec (.saveWrite ⟨tag, level, o0 :: o1 :: o2 :: o3 :: data⟩) s
          = .next (answered .ok tag [BitVec.ofNat 8 blocks.length]
              { s with save := { s.save with kept := { s.save.kept with title :=
                { s.save.kept.title with blocks := blocks } } } })
        ∧ (∀ k, k < data.length →
            stagedAt blocks (s.save.kept.title.offset + leNat [o0, o1, o2, o3] + k) = data[k]?)
        ∧ (∀ y, (y < s.save.kept.title.offset + leNat [o0, o1, o2, o3]
              ∨ s.save.kept.title.offset + leNat [o0, o1, o2, o3] + data.length ≤ y) →
            stagedAt blocks y = stagedAt s.save.kept.title.blocks y))

/-- R39, R40: SAVE_COMMIT: its refusals in order; an empty first commit ends the transaction at once, COMMITTED; a first
commit with staged blocks, and a retry of a held slot, are answered STARTED: the slot keeps its blocks and fault count,
takes the commit's tag and its full-pass flag, and is taken for copying at once if the engine was free, or waits in the
queue behind the copy in progress. -/
def Obligations.SaveCommitQueuesTheTransaction : Prop :=
  ∀ (tag level : Byte) (s : State), Takes .saveCommit ⟨tag, level, []⟩ s →
    (committable s.save.kept.title = false →
      exec (.saveCommit ⟨tag, level, []⟩) s = .next (answered .noTransaction tag [] s))
    ∧ (committable s.save.kept.title = true → s.save.kept.title.level < level.toNat →
      exec (.saveCommit ⟨tag, level, []⟩) s = .next (answered .denied tag [] s))
    ∧ (committable s.save.kept.title = true → level.toNat ≤ s.save.kept.title.level → s.supply.state = .warn →
      exec (.saveCommit ⟨tag, level, []⟩) s = .next (answered .power tag [] s))
    ∧ (∀ st, committable s.save.kept.title = true → level.toNat ≤ s.save.kept.title.level → s.supply.state ≠ .warn →
      reresolve s s.save.kept.title = .refused st →
      exec (.saveCommit ⟨tag, level, []⟩) s = .next (answered st tag [] s))
    ∧ (∀ w, committable s.save.kept.title = true → level.toNat ≤ s.save.kept.title.level → s.supply.state ≠ .warn →
      reresolve s s.save.kept.title = .window w →
      ∃ t, exec (.saveCommit ⟨tag, level, []⟩) s = .next t
        ∧ (s.save.kept.title.state = .collecting → s.save.kept.title.blocks = [] →
            t.link.selection = .replying ⟨.ok, tag, []⟩ false
            ∧ t.save.kept.title.state = .free ∧ t.save.kept.records = s.save.kept.records
            ∧ (∃ x, t.save.kept.outcome = some ⟨s.save.kept.title.target, x, .commit, .committed, none⟩)
            ∧ t = { s with link := t.link, save := t.save } ∧ t.link.queue = s.link.queue)
        ∧ (s.save.kept.title.state = .collecting → s.save.kept.title.blocks ≠ [] →
            t.link.selection = .replying ⟨.started, tag, []⟩ false
            ∧ t.save.kept.title.tag = tag ∧ t.save.kept.title.blocks = s.save.kept.title.blocks
            ∧ (t.save.kept.title.fullPass = true ↔
                (recordAt s s.save.kept.title.target).state = .blank
                  ∨ (recordAt s s.save.kept.title.target).state = .damaged))
        ∧ (s.save.kept.title.state = .pending →
            t.link.selection = .replying ⟨.started, tag, []⟩ false
            ∧ t.save.kept.title.tag = tag ∧ t.save.kept.title.blocks = s.save.kept.title.blocks
            ∧ t.save.kept.title.faults = s.save.kept.title.faults
            ∧ t.save.kept.title.held = false ∧ t.save.kept.title.fullPass = true)
        ∧ ((s.save.kept.title.state = .pending ∨ s.save.kept.title.blocks ≠ []) →
            (s.save.copy = none → s.save.kept.queue = [] →
              t.save.kept.title.state = .copying ∧ ∃ c, t.save.copy = some c ∧ c.slot = .title)
            ∧ (s.save.copy ≠ none →
              t.save.kept.title.state = .pending ∧ SlotId.title ∈ t.save.kept.queue ∧ t.save.copy = s.save.copy)))


/-- R42: SAVE_READ: a refused resolution; a count of 0 or above 60; a BLANK region answers zeros at once; otherwise the
reply waits, and a read of the region's bytes is posted at the port, or granted. When its burst completes and the
selection still stands, the reply carries the bytes read, with OK_DAMAGED if the record is DAMAGED. No read changes
SRAM. -/
def Obligations.SaveReadReturnsTheBytes : Prop :=
  (∀ (tag level sel o0 o1 o2 o3 count : Byte) (s : State) (q : Request),
    q = ⟨tag, level, [sel, o0, o1, o2, o3, count]⟩ → Takes .saveRead q s →
    (∀ st, resolveSave s sel.toNat level.toNat false
        (fun w => decide (leNat [o0, o1, o2, o3] + count.toNat ≤ w.length)) = .refused st →
      exec (.saveRead q) s = .next (answered st tag [] s))
    ∧ (∀ w, resolveSave s sel.toNat level.toNat false
        (fun w => decide (leNat [o0, o1, o2, o3] + count.toNat ≤ w.length)) = .window w →
      ((count.toNat = 0 ∨ 60 < count.toNat) → exec (.saveRead q) s = .next (answered .badValue tag [] s))
      ∧ (1 ≤ count.toNat → count.toNat ≤ 60 → (recordAt s w.target).state = .blank →
        exec (.saveRead q) s = .next (answered .ok tag (List.replicate count.toNat 0x00#8) s))
      ∧ (1 ≤ count.toNat → count.toNat ≤ 60 → (recordAt s w.target).state ≠ .blank →
        ∃ t, exec (.saveRead q) s = .next t
          ∧ t.link = { s.link with selection := .awaiting tag, latch := none }
          ∧ readUnderWay ⟨w.base + leNat [o0, o1, o2, o3], count.toNat, w.target⟩ t
          ∧ t.sram = s.sram ∧ t.save = s.save)))
  ∧ (∀ (r : LinkRead) (tag : Byte) (bus : List Byte) (s : State),
    s.port.burst = some (.linkRead r false) → s.link.selection = .awaiting tag →
    ∃ t, exec (.linkReadCompletion bus) s = .next t
      ∧ t.link = { s.link with selection := (.replying
          ⟨(if (recordAt s r.region).state = .damaged then .okDamaged else .ok), tag,
            burstBytes s.sram r.addr r.count bus⟩ false) }
      ∧ t.sram = s.sram)
  ∧ (∀ (r : LinkRead) (bus : List Byte) (s : State), s.port.burst = some (.linkRead r true) →
    ∃ t, exec (.linkReadCompletion bus) s = .next t ∧ t.link = s.link ∧ t.sram = s.sram)

/-! ## The commit engine -/

/-- R45, R46: the steps of a copy. After a staged block's read, the new block takes the staged byte at each written
position and the old byte elsewhere, and its write follows; after a write, the block's 64 bytes stand in SRAM, no other
byte has changed, and its read-back follows. After a read-back that matches, or a read of the pass part, the next
position begins while there is one: the next staged block; after the last, with the full-pass flag set, block 0 of the
region, and each further block to the region's end. A staged block begins with its read, or over a zero base with its
write; a pass block with its write as zeros if the slot is an erase, or the base is zero and the block is not staged,
and else with its read. The running check follows a staged block without a full pass, and the fresh sum takes in the
bytes of a pass block. -/
def Obligations.CommitStepsWriteTheBlock : Prop :=
  ∀ (bus : List Byte) (cs : CommitStep) (c : Copy) (s : State),
    s.port.burst = some (.commit cs) → s.save.copy = some c →
    (∀ k, c.dir = .read → cs.dir = .read → c.part = .staged k →
      ∃ t c', exec (.commitStepCompletion bus) s = .next t
        ∧ t.save.copy = some c' ∧ c'.dir = .write ∧ c'.part = .staged k ∧ c'.slot = c.slot
        ∧ c'.oldBlock = burstBytes s.sram cs.addr 64 bus
        ∧ (∀ p, p < 64 → (stagedBytes (slotAt s c.slot) k).length = 64 →
            c'.newBlock[p]? = match (stagedBytes (slotAt s c.slot) k)[p]? with
              | some (some b) => some b
              | _ => (burstBytes s.sram cs.addr 64 bus)[p]?)
        ∧ stepUnderWay ⟨.write, regionBase s (slotAt s c.slot) + 64 * partBlock (slotAt s c.slot) c.part, c'.newBlock⟩ t
        ∧ t.sram = s.sram ∧ t.save.kept.title.blocks = s.save.kept.title.blocks)
    ∧ (c.dir = .write → cs.dir = .write → cs.data.length = 64 → Memory.wf s.sram = true →
      ∃ t, exec (.commitStepCompletion bus) s = .next t
        ∧ t.save.copy = some { c with dir := .readBack }
        ∧ stepUnderWay
            ⟨.readBack, regionBase s (slotAt s c.slot) + 64 * partBlock (slotAt s c.slot) c.part, c.newBlock⟩ t
        ∧ (∀ i, i < 64 → readByte t.sram (cs.addr + i) = cs.data.getD i 0)
        ∧ (∀ x, (x < cs.addr ∨ cs.addr + 64 ≤ x) → readByte t.sram x = readByte s.sram x))
    ∧ (∀ (bytes : List Byte) (sl : Slot) (part : CopyPart), bytes = burstBytes s.sram cs.addr 64 bus →
      sl = slotAt s c.slot → cs.dir = c.dir →
      ((c.dir = .readBack ∧ c.newBlock = bytes) ∨ (c.dir = .read ∧ ∃ b, c.part = .pass b)) →
      ((∃ k, c.part = .staged k ∧ k + 1 < sl.blocks.length ∧ part = .staged (k + 1))
        ∨ (∃ k, c.part = .staged k ∧ sl.blocks.length ≤ k + 1 ∧ sl.fullPass = true ∧ 0 < regionLength s sl
            ∧ part = .pass 0)
        ∨ (∃ b, c.part = .pass b ∧ 64 * (b + 1) < regionLength s sl ∧ part = .pass (b + 1))) →
      ∃ t c', exec (.commitStepCompletion bus) s = .next t
        ∧ t.save.copy = some c' ∧ c'.slot = c.slot ∧ c'.part = part
        ∧ c'.running = (match c.part with
            | .staged _ => if sl.fullPass = true then c.running
                else addBlock (removeBlock c.running c.oldBlock) c.newBlock
            | .pass _ => c.running)
        ∧ c'.fresh = (match c.part with | .staged _ => c.fresh | .pass _ => addBlock c.fresh bytes)
        ∧ (∀ k, part = .staged k → c'.dir = (if sl.zeroBase = true then .write else .read)
            ∧ (sl.zeroBase = true → (stagedBytes sl k).length = 64 → ∀ p, p < 64 →
              c'.newBlock[p]? = some (((stagedBytes sl k)[p]?.join).getD 0x00#8)))
        ∧ (∀ b, part = .pass b →
            (sl.kind = .erase ∨ (sl.zeroBase = true ∧ ∀ x ∈ sl.blocks, x.index ≠ b) →
              c'.dir = .write ∧ c'.newBlock = List.replicate 64 0x00#8)
            ∧ (¬ (sl.kind = .erase ∨ (sl.zeroBase = true ∧ ∀ x ∈ sl.blocks, x.index ≠ b)) → c'.dir = .read))
        ∧ stepUnderWay ⟨c'.dir, regionBase s sl + 64 * partBlock sl part, c'.newBlock⟩ t
        ∧ t.sram = s.sram ∧ t.save.kept.records = s.save.kept.records ∧ t.link = s.link)

/-- R47, R51, R52, R53, R61, R80: a copy whose last step has passed completes. Of a WRITE slot the record is VALID, its
generation is one higher, and its check is the fresh sum after a full pass and the running check otherwise; of an ERASE
slot it is the record of a new region with the fresh sum. The slot is FREE; for the title slot the outcome record says
COMMITTED, or ROLLED_FORWARD in phase 4, and SAVE_DONE carries the same. In phase 4 roll-forward goes on: a slot it
takes is COPYING, not held, with its full-pass flag set, from its first block; the slots are taken in pending order; and
when none is left the phase completes: the records in use are closed, VALID and DAMAGED becoming UNCHECKED and OPEN
locks LOCKED (R63), and the passage to phase 5 is made, or waits in WARN (R182). That the record of the slot's target is
written also where no directory entry has it in use, as in a phase 4 after a refused directory, is the model's reading
(log 16). -/
def Obligations.LastReadBackCompletesTheCopy : Prop :=
  (∀ (bus bytes : List Byte) (cs : CommitStep) (c : Copy) (sl : Slot) (s : State),
    JournalOk s → s.port.burst = some (.commit cs) → s.save.copy = some c → cs.dir = c.dir →
    sl = slotAt s c.slot → sl.target < 24 → bytes = burstBytes s.sram cs.addr 64 bus →
    ((c.dir = .readBack ∧ c.newBlock = bytes) ∨ (c.dir = .read ∧ ∃ b, c.part = .pass b)) →
    ((∃ k, c.part = .staged k ∧ sl.blocks.length ≤ k + 1 ∧ (sl.fullPass = false ∨ regionLength s sl = 0))
      ∨ (∃ b, c.part = .pass b ∧ regionLength s sl ≤ 64 * (b + 1))) →
    ∃ (d : State) (running fresh : Nat) (o : OutcomeRecord),
      exec (.commitStepCompletion bus) s = .next (settle (if s.supply.phase = 4 then rollOn d else d))
      ∧ running = (match c.part with
          | .staged _ => if sl.fullPass = true then c.running
              else addBlock (removeBlock c.running c.oldBlock) c.newBlock
          | .pass _ => c.running)
      ∧ fresh = (match c.part with | .staged _ => c.fresh | .pass _ => addBlock c.fresh bytes)
      ∧ recordAt d sl.target = (match sl.kind with
          | .write => { recordAt s sl.target with
              state := .valid, generation := min 4294967295 ((recordAt s sl.target).generation + 1)
              check := if sl.fullPass = true then fresh else running }
          | .erase => ⟨.valid, 0, fresh, .none, .high, none⟩)
      ∧ (∀ i, i ≠ sl.target → recordAt d i = recordAt s i)
      ∧ (slotAt d c.slot).state = .free ∧ (slotAt d c.slot).blocks = [] ∧ (slotAt d c.slot).order = 0
      ∧ slotAt d (otherSlot c.slot) = { slotAt s (otherSlot c.slot) with
          order := if (slotAt s (otherSlot c.slot)).order = 0 then 0 else 1 }
      ∧ d.save.copy = none ∧ d.save.kept.queue = s.save.kept.queue
      ∧ d.supply = s.supply ∧ d.sram = s.sram ∧ d.days = s.days ∧ d.dir = s.dir
      ∧ o = ⟨sl.target, sl.tag,
          if s.supply.phase = 4 then .rollForward else match sl.kind with | .write => .commit | .erase => .erase,
          if s.supply.phase = 4 then .rolledForward else .committed, none⟩
      ∧ (c.slot = .title → d.save.kept.outcome = some o ∧ d.link = (notify (.saveDone o) s).link)
      ∧ (c.slot = .clock → d.save.kept.outcome = s.save.kept.outcome ∧ d.link = s.link)
      ∧ (s.supply.phase ≠ 4 → (settle d).link = d.link ∧ (settle d).save.kept.records = d.save.kept.records
          ∧ (settle d).save.kept.outcome = d.save.kept.outcome ∧ (settle d).sram = s.sram
          ∧ (c.slot = .title → (settle d).save.kept.title.state = .free ∧ (settle d).save.kept.title.blocks = [])))
  ∧ (∀ (id : SlotId) (d : State), ∃ c,
      (startCopy id true d).save.copy = some c ∧ c.slot = id ∧ c.fresh = 0
      ∧ c.running = (recordAt d (slotAt d id).target).check
      ∧ c.part = (if (slotAt d id).blocks = [] then .pass 0 else .staged 0)
      ∧ slotAt (startCopy id true d) id = { slotAt d id with
          state := .copying, held := false, fullPass := true
          zeroBase := decide ((recordAt d (slotAt d id).target).state = .blank ∧ (slotAt d id).kind = .write) }
      ∧ slotAt (startCopy id true d) (otherSlot id) = slotAt d (otherSlot id)
      ∧ (startCopy id true d).save.kept.queue = d.save.kept.queue.filter (· ≠ id)
      ∧ (startCopy id true d).save.kept.records = d.save.kept.records
      ∧ (startCopy id true d).port = { d.port with commit := some ⟨c.dir,
          regionBase d (slotAt d id) + 64 * partBlock (slotAt d id) c.part, c.newBlock⟩ }
      ∧ (startCopy id true d).link = d.link ∧ (startCopy id true d).supply = d.supply)
  ∧ (∀ (id : SlotId) (d : State), ToRoll (slotAt d id) →
      (ToRoll (slotAt d (otherSlot id)) → (slotAt d id).order < (slotAt d (otherSlot id)).order) →
      rollOn d = startCopy id true d)
  ∧ (∀ d : State, ¬ ToRoll d.save.kept.title → ¬ ToRoll d.save.kept.clock →
      (∀ i, i < 24 → recordAt (rollOn d) i = (if inUse d i = true then { recordAt d i with
          state := if (recordAt d i).state = .valid ∨ (recordAt d i).state = .damaged then .unchecked
            else (recordAt d i).state
          lock := if (recordAt d i).lock = .opened then .locked else (recordAt d i).lock }
        else recordAt d i))
      ∧ (rollOn d).supply = (if d.supply.state = .warn then { d.supply with waiting := true }
          else { d.supply with phase := 5, waiting := false })
      ∧ (rollOn d).link = d.link ∧ (rollOn d).save.copy = d.save.copy ∧ (rollOn d).port = d.port)

/-- R48, R49, R52, R54, R116: a read-back that first differs at position `p`. With fault count 0 the record is DAMAGED
with its generation and check kept, and the slot is PENDING and held with count 1 and its blocks; the title slot's
outcome is FAULT at that byte's offset in the region. With fault count 1 the record is DAMAGED and the slot discarded:
the title slot's outcome is FAULT_DISCARDED. REGION_STATE is queued, and for the title slot SAVE_DONE. The clock slot
writes no outcome; discarded with the calendar in service, it leaves the day block dirty and rebuilt, with REGION_STATE
of reason REBUILT. In roll-forward the operation is ROLL_FORWARD; a slot on its first fault is taken again at once, and
after a discard roll-forward goes on. That the record of the slot's target becomes DAMAGED also where no directory entry
has it in use, as in a phase 4 after a refused directory, is the model's reading (log 16). -/
def Obligations.ReadBackMismatchStopsTheCopy : Prop :=
  (∀ (bus : List Byte) (cs : CommitStep) (c : Copy) (p : Nat) (s : State),
    s.port.burst = some (.commit cs) → s.save.copy = some c → cs.dir = .readBack → c.dir = .readBack →
    c.slot = .title → s.save.kept.title.target < 24 → s.supply.phase ≠ 4 → s.save.kept.queue = [] →
    (∀ i, i < p → c.newBlock[i]? = (burstBytes s.sram cs.addr 64 bus)[i]?) → c.newBlock.length = 64 → p < 64 →
    c.newBlock[p]? ≠ (burstBytes s.sram cs.addr 64 bus)[p]? →
    ∃ t, exec (.commitStepCompletion bus) s = .next t
      ∧ recordAt t s.save.kept.title.target = { recordAt s s.save.kept.title.target with state := .damaged }
      ∧ (s.save.kept.title.faults = 0 →
          t.save.kept.title.state = .pending ∧ t.save.kept.title.held = true ∧ t.save.kept.title.faults = 1
          ∧ t.save.kept.title.blocks = s.save.kept.title.blocks
          ∧ ∃ o, t.save.kept.outcome = some ⟨s.save.kept.title.target, s.save.kept.title.tag, o, .fault,
              some (partBlock s.save.kept.title c.part * 64 + p)⟩)
      ∧ (s.save.kept.title.faults ≠ 0 →
          t.save.kept.title.state = .free ∧ t.save.kept.title.blocks = []
          ∧ ∃ o, t.save.kept.outcome
              = some ⟨s.save.kept.title.target, s.save.kept.title.tag, o, .faultDiscarded, none⟩)
      ∧ t.sram = s.sram)
  ∧ (∀ (bus bytes : List Byte) (cs : CommitStep) (c : Copy) (p : Nat) (sl : Slot) (o : OutcomeRecord) (s u : State),
    s.port.burst = some (.commit cs) → s.save.copy = some c → cs.dir = .readBack → c.dir = .readBack →
    sl = slotAt s c.slot → sl.target < 24 → bytes = burstBytes s.sram cs.addr 64 bus →
    (∀ i, i < p → c.newBlock[i]? = bytes[i]?) → c.newBlock.length = 64 → p < 64 → c.newBlock[p]? ≠ bytes[p]? →
    o = ⟨sl.target, sl.tag,
      if s.supply.phase = 4 then .rollForward else match sl.kind with | .write => .commit | .erase => .erase,
      if sl.faults = 0 then .fault else .faultDiscarded,
      if sl.faults = 0 then some (partBlock sl c.part * 64 + p) else none⟩ →
    u = notify (.regionState sl.target .damaged .verifyFault) s →
    ∃ d, exec (.commitStepCompletion bus) s = .next (settle (if s.supply.phase = 4 then
          (if sl.faults = 0 then startCopy c.slot true d else rollOn d) else d))
      ∧ recordAt d sl.target = { recordAt s sl.target with state := .damaged }
      ∧ (∀ i, i ≠ sl.target → recordAt d i = recordAt s i)
      ∧ d.save.copy = none ∧ d.save.kept.queue = s.save.kept.queue ∧ d.supply = s.supply ∧ d.sram = s.sram
      ∧ (sl.faults = 0 → slotAt d c.slot = { sl with state := .pending, held := true, faults := 1 }
          ∧ slotAt d (otherSlot c.slot) = slotAt s (otherSlot c.slot))
      ∧ (sl.faults ≠ 0 → (slotAt d c.slot).state = .free ∧ (slotAt d c.slot).blocks = []
          ∧ (slotAt d c.slot).faults = 0 ∧ (slotAt d c.slot).order = 0
          ∧ slotAt d (otherSlot c.slot) = { slotAt s (otherSlot c.slot) with
              order := if (slotAt s (otherSlot c.slot)).order = 0 then 0 else 1 })
      ∧ (c.slot = .title → d.save.kept.outcome = some o ∧ d.link = (notify (.saveDone o) u).link ∧ d.days = s.days)
      ∧ (c.slot = .clock → d.save.kept.outcome = s.save.kept.outcome
          ∧ (sl.faults = 0 ∨ s.days.inService = false → d.link = u.link ∧ d.days = s.days)
          ∧ (sl.faults ≠ 0 → s.days.inService = true →
              d.link = (notify (.regionState sl.target .damaged .rebuilt) u).link
              ∧ d.days = { s.days with dirty := true, rebuilt := true })))

/-- R60, R61: taking a block's words out of a check that holds them, and adding another block's, gives the check with
the other block in its place, as one's-complement sums compare. -/
def Obligations.RunningCheckFollowsTheBlock : Prop :=
  ∀ (a : Nat) (old new : List Byte), a ≤ 0xFFFF →
    addBlock (removeBlock (addBlock a old) old) new % 0xFFFF = addBlock a new % 0xFFFF
    ∧ addBlock (removeBlock (addBlock a old) old) new ≤ 0xFFFF

/-- R21, R30, R45: the save SRAM changes in two ways alone: the completion of a block write stores the block; and a loss
of slot power during one leaves each of the block's bytes new or old. The write is the one in progress: of a loss of
power that puts the level below the warning threshold on its way, the one in progress when it then falls. -/
def Obligations.OnlyBlockWritesChangeSram : Prop :=
  ∀ (c : Instr) (s t : State), exec c s = .next t →
    t.sram = s.sram
    ∨ (∃ bus cs, c = .commitStepCompletion bus ∧ s.port.burst = some (.commit cs) ∧ cs.dir = .write
        ∧ t.sram = writeBytes s.sram cs.addr cs.data)
    ∨ (∃ (mv : Nat) (cs : CommitStep) (bs : List Byte),
        (c = .vslotThresholdChange mv ∨ c = .warnEntry mv ∨ c = .supplyOff mv)
        ∧ t.supply.state = .off ∧ s.supply.state ≠ .off
        ∧ (warnIfBelow (setVslot mv s)).port.burst = some (.commit cs)
        ∧ (s.port.burst ≠ none → s.port.burst = some (.commit cs))
        ∧ cs.dir = .write ∧ bs.length = cs.data.length
        ∧ (∀ i, i < bs.length → bs.getD i 0 = cs.data.getD i 0 ∨ bs.getD i 0 = readByte s.sram (cs.addr + i))
        ∧ t.sram = writeBytes s.sram cs.addr bs)


/-- R32, R34, R38, R44, log 5: every step keeps the two memories in canonical form, and keeps the journal: the queue
lists exactly the slots that are PENDING and not held, each once; the pool's bounds hold; a copy in progress is of a
COPYING slot. -/
def Obligations.MemoryAndJournalInvariant : Prop :=
  ∀ (s t : State), step s = .next t → (MemoryOk s → MemoryOk t) ∧ (JournalOk s → JournalOk t)


/-! ## Locks and erase -/

/-- R70, R75, R76: LOCK_SET: a refused resolution, FROZEN, LOCKED, BUSY and BAD_VALUE in order; else the region's record
takes the password and lock level and is OPEN, and nothing else changes. MASTER_SET stores the master password unless
the locks are frozen; LOCK_FREEZE freezes them. -/
def Obligations.PasswordsAreStored : Prop :=
  (∀ (tag level sel lv : Byte) (pw : List Byte) (s : State) (q : Request), pw.length = 8 →
    q = ⟨tag, level, sel :: (pw ++ [lv])⟩ → Takes .lockSet q s →
    (∀ st, resolveLock s sel.toNat level.toNat true = .refused st →
      exec (.lockSet q) s = .next (answered st tag [] s))
    ∧ (∀ w, resolveLock s sel.toNat level.toNat true = .window w →
      exec (.lockSet q) s = .next
        (if s.save.frozen then answered .frozen tag [] s
        else if (recordAt s w.target).lock = .locked then answered .locked tag [] s
        else if s.save.kept.title.state ≠ .free ∧ s.save.kept.title.target = w.target then answered .busy tag [] s
        else if 1 < lv.toNat then answered .badValue tag [] s
        else answered .ok tag [] (setRecord w.target { recordAt s w.target with
          password := some pw, lockLevel := if lv = 0#8 then .high else .maximum, lock := .opened } s))))
  ∧ (∀ (tag level : Byte) (pw : List Byte) (s : State), pw.length = 8 →
    (Takes .masterSet ⟨tag, level, pw⟩ s →
      exec (.masterSet ⟨tag, level, pw⟩) s = .next
        (if s.save.frozen then answered .frozen tag [] s
        else answered .ok tag [] { s with save := { s.save with kept := { s.save.kept with master := some pw } } }))
    ∧ (Takes .lockFreeze ⟨tag, level, []⟩ s →
      exec (.lockFreeze ⟨tag, level, []⟩) s
        = .next (answered .ok tag [] { s with save := { s.save with frozen := true } })))

/-- R72, R73, R74, R69: LOCK_OPEN, in TITLE mode (0) against the region's password and in MASTER mode (1) against the
master password, and LOCK_CLEAR, with their refusals in order. The right password opens the lock, or removes it with its
password and level; a wrong or absent one takes one try and is answered PASSWORD with the tries left; with no tries left
the password is not compared. That the replies show a lock state OPEN as 2 and NONE as 0 is the model's choice
(log 13). -/
def Obligations.LockRequestsCheckThePassword : Prop :=
  (∀ (tag level sel mode : Byte) (pw : List Byte) (s : State) (q : Request), pw.length = 8 →
    q = ⟨tag, level, sel :: mode :: pw⟩ → Takes .lockOpen q s →
    (∀ st, resolveLock s sel.toNat level.toNat false = .refused st →
      exec (.lockOpen q) s = .next (answered st tag [] s))
    ∧ (∀ w, resolveLock s sel.toNat level.toNat false = .window w →
      exec (.lockOpen q) s = .next
        (if s.save.frozen then answered .frozen tag [] s
        else if (recordAt s w.target).lock ≠ .locked then
          answered .ok tag [if (recordAt s w.target).lock = .opened then 2#8 else 0#8] s
        else if mode = 1#8 ∧ (recordAt s w.target).lockLevel = .maximum then answered .denied tag [] s
        else if triesAt s w.target = 0 then answered .triesExhausted tag [] s
        else if 1 < mode.toNat then answered .badValue tag [] s
        else if (if mode = 0#8 then (recordAt s w.target).password else s.save.kept.master) = some pw then
          answered .ok tag [2#8, BitVec.ofNat 8 (triesAt s w.target)]
            (setRecord w.target { recordAt s w.target with lock := .opened } s)
        else answered .password tag [BitVec.ofNat 8 (triesAt s w.target - 1)]
          (setTries w.target (triesAt s w.target - 1) s))))
  ∧ (∀ (tag level sel : Byte) (pw : List Byte) (s : State) (q : Request), pw.length = 8 →
    q = ⟨tag, level, sel :: pw⟩ → Takes .lockClear q s →
    (∀ st, resolveLock s sel.toNat level.toNat true = .refused st →
      exec (.lockClear q) s = .next (answered st tag [] s))
    ∧ (∀ w, resolveLock s sel.toNat level.toNat true = .window w →
      exec (.lockClear q) s = .next
        (if s.save.frozen then answered .frozen tag [] s
        else if (recordAt s w.target).lock = .locked then answered .locked tag [] s
        else if (recordAt s w.target).lock = .none then answered .ok tag [] s
        else if triesAt s w.target = 0 then answered .triesExhausted tag [] s
        else if (recordAt s w.target).password = some pw then
          answered .ok tag [] (setRecord w.target
            { recordAt s w.target with lock := .none, password := none, lockLevel := .high } s)
        else answered .password tag [BitVec.ofNat 8 (triesAt s w.target - 1)]
          (setTries w.target (triesAt s w.target - 1) s))))

/-- R77, R78, R79: an accepted ERASE_ARM fills the latch with its selector and level. ERASE: FROZEN, NOT_ARMED without
exactly that arm, BUSY, POWER, TRIES_EXHAUSTED, BAD_VALUE and, of a LOCKED region, PASSWORD with a try taken, in order;
else the title slot is queued as an erase slot on the resolved window, with a full pass, and the answer is STARTED. Both
refuse a selector whose resolution fails with its status. -/
def Obligations.EraseNeedsItsArm : Prop :=
  (∀ (tag level sel : Byte) (s : State), Takes .eraseArm ⟨tag, level, [sel]⟩ s →
    (∀ st, resolveLock s sel.toNat level.toNat true = .refused st →
      exec (.eraseArm ⟨tag, level, [sel]⟩) s = .next (answered st tag [] s))
    ∧ (∀ w, resolveLock s sel.toNat level.toNat true = .window w →
      exec (.eraseArm ⟨tag, level, [sel]⟩) s = .next
        (if s.save.frozen then answered .frozen tag [] s
        else { s with link := { s.link with
          selection := .replying ⟨.ok, tag, []⟩ false, latch := some ⟨sel.toNat, level.toNat⟩ } })))
  ∧ (∀ (tag level sel mode : Byte) (pw : List Byte) (s : State) (q : Request), pw.length = 8 →
    q = ⟨tag, level, sel :: mode :: pw⟩ → Takes .erase q s →
    (∀ st, resolveLock s sel.toNat level.toNat true = .refused st → exec (.erase q) s = .next (answered st tag [] s))
    ∧ (∀ w, resolveLock s sel.toNat level.toNat true = .window w →
      (s.save.frozen = true → exec (.erase q) s = .next (answered .frozen tag [] s))
      ∧ (s.save.frozen = false → s.link.latch ≠ some ⟨sel.toNat, level.toNat⟩ →
        exec (.erase q) s = .next (answered .notArmed tag [] s))
      ∧ (s.save.frozen = false → s.link.latch = some ⟨sel.toNat, level.toNat⟩ →
        (s.save.kept.title.state ≠ .free → exec (.erase q) s = .next (answered .busy tag [] s))
        ∧ (s.save.kept.title.state = .free → s.supply.state = .warn →
          exec (.erase q) s = .next (answered .power tag [] s))
        ∧ (s.save.kept.title.state = .free → s.supply.state ≠ .warn →
          (recordAt s w.target).lock = .locked → triesAt s w.target = 0 →
          exec (.erase q) s = .next (answered .triesExhausted tag [] s))
        ∧ (s.save.kept.title.state = .free → s.supply.state ≠ .warn →
          ((recordAt s w.target).lock ≠ .locked ∨ triesAt s w.target ≠ 0) →
          (1 < mode.toNat → exec (.erase q) s = .next (answered .badValue tag [] s))
          ∧ (mode.toNat ≤ 1 → (recordAt s w.target).lock = .locked →
            (if mode = 0#8 then (recordAt s w.target).password else s.save.kept.master) ≠ some pw →
            exec (.erase q) s = .next (answered .password tag [BitVec.ofNat 8 (triesAt s w.target - 1)]
              (setTries w.target (triesAt s w.target - 1) s)))
          ∧ (mode.toNat ≤ 1 → ((recordAt s w.target).lock ≠ .locked
              ∨ (if mode = 0#8 then (recordAt s w.target).password else s.save.kept.master) = some pw) →
            ∃ t, exec (.erase q) s = .next t
              ∧ t.link.selection = .replying ⟨.started, tag, []⟩ false ∧ t.link.latch = none
              ∧ t.save.kept.title.kind = .erase ∧ t.save.kept.title.target = w.target
              ∧ t.save.kept.title.tag = tag
              ∧ t.save.kept.title.base = w.base ∧ t.save.kept.title.length = w.length
              ∧ t.save.kept.title.offset = w.offset
              ∧ t.save.kept.title.selector = sel.toNat ∧ t.save.kept.title.level = level.toNat
              ∧ t.save.kept.title.fullPass = true ∧ t.save.kept.title.blocks = []
              ∧ (t.save.kept.title.state = .pending ∨ t.save.kept.title.state = .copying)
              ∧ t.sram = s.sram ∧ t.save.kept.records = s.save.kept.records
              ∧ t.save.tries = s.save.tries)))))

/-! ## The calendar -/

/-- R93, R94, R95: DAY_TO_DATE and DATE_TO_DAY are inverse over the whole range: every day number from 0 to 36524 has
one valid date, and every valid date one day number in that range; and the two requests answer with the conversion, the
day of year, the weekday (D + 6) mod 7 and the leap-year flag. CLOCK_READ reports a VALID clock's weekday by the same
rule, in its byte 16. The layout of the replies, and the leap-year flag as 1 or 0, are the model's choice (log 13). -/
def Obligations.DatesConvertBothWays : Prop :=
  (∀ d : Nat, d ≤ 36524 →
    validDate (dateOf d).year (dateOf d).month (dateOf d).day = true
    ∧ dayNumberOf (dateOf d).year (dateOf d).month (dateOf d).day = d
    ∧ (dateOf d).dayOfYear = dayInYear (dateOf d).year (dateOf d).month (dateOf d).day + 1
    ∧ ((dateOf d).leap = true ↔ (dateOf d).year % 4 = 0))
  ∧ (∀ y m dd : Nat, validDate y m dd = true →
    dayNumberOf y m dd ≤ 36524
    ∧ (dateOf (dayNumberOf y m dd)).year = y ∧ (dateOf (dayNumberOf y m dd)).month = m
    ∧ (dateOf (dayNumberOf y m dd)).day = dd)
  ∧ (∀ (tag level lo hi : Byte) (s : State), Takes .dayToDate ⟨tag, level, [lo, hi]⟩ s →
    exec (.dayToDate ⟨tag, level, [lo, hi]⟩) s = .next
      (if 36524 < lo.toNat + 256 * hi.toNat then answered .badValue tag [] s
      else answered .ok tag
        (leBytes 2 (dateOf (lo.toNat + 256 * hi.toNat)).year
          ++ [BitVec.ofNat 8 (dateOf (lo.toNat + 256 * hi.toNat)).month,
              BitVec.ofNat 8 (dateOf (lo.toNat + 256 * hi.toNat)).day]
          ++ leBytes 2 (dateOf (lo.toNat + 256 * hi.toNat)).dayOfYear
          ++ [BitVec.ofNat 8 ((lo.toNat + 256 * hi.toNat + 6) % 7),
              if (dateOf (lo.toNat + 256 * hi.toNat)).leap then 1#8 else 0#8]) s))
  ∧ (∀ (tag level y0 y1 m dd : Byte) (s : State), Takes .dateToDay ⟨tag, level, [y0, y1, m, dd]⟩ s →
    exec (.dateToDay ⟨tag, level, [y0, y1, m, dd]⟩) s = .next
      (if validDate (y0.toNat + 256 * y1.toNat) m.toNat dd.toNat then
        answered .ok tag
          (leBytes 2 (dayNumberOf (y0.toNat + 256 * y1.toNat) m.toNat dd.toNat)
            ++ leBytes 2 (dayInYear (y0.toNat + 256 * y1.toNat) m.toNat dd.toNat + 1)
            ++ [BitVec.ofNat 8 ((dayNumberOf (y0.toNat + 256 * y1.toNat) m.toNat dd.toNat + 6) % 7)]) s
      else answered .badValue tag [] s))
  ∧ (∀ (tag level : Byte) (s : State), Takes .clockRead ⟨tag, level, []⟩ s → s.clock.state = .valid →
    ∃ p : List Byte, p[16]? = some (BitVec.ofNat 8 ((s.clock.day + 6) % 7))
      ∧ exec (.clockRead ⟨tag, level, []⟩) s = .next (answered .ok tag p s))

/-- R89, R90, R91: CLOCK_SET refuses a form or field outside its range and nothing changes; an accepted set makes the
clock VALID at the given day and second with subsecond 0, no adjustment and a restarted divider, keeps the trim, queues
SET and runs its catch-up; a tick that was due does not occur, and its frame is the first that the restarted divider
counts (R90, read as log 28 says); after the catch-up a dirty day block fills the clock slot (R115). CLOCK_TRIM stores
the trim clamped to −127 … +127, reports it before and after, and changes nothing else. -/
def Obligations.ClockSetAndTrim : Prop :=
  (∀ (tag level d0 d1 s0 s1 s2 s3 x : Byte) (s : State) (q : Request),
    q = ⟨tag, level, [0x00#8, d0, d1, s0, s1, s2, s3, x]⟩ → Takes .clockSet q s →
    ((36524 < leNat [d0, d1] ∨ 86399 < leNat [s0, s1, s2, s3]) →
      exec (.clockSet q) s = .next (answered .badValue tag [] s))
    ∧ (leNat [d0, d1] ≤ 36524 → leNat [s0, s1, s2, s3] ≤ 86399 →
      ∃ t, exec (.clockSet q) s = .next t
        ∧ t.clock = { s.clock with
            state := .valid, subsecond := 0, second := leNat [s0, s1, s2, s3], day := leNat [d0, d1], adjust := 0
            divider :=
              if (if s.clock.adjust = 0 then 32 else if s.clock.early = true then 31 else 33) ≤ s.clock.divider then 1
              else 0 }
        ∧ t.link = (answered .ok tag [] (catchUp (notify (.clockState .set) { s with clock := t.clock }))).link
        ∧ t.days = (fillClock (catchUp { s with clock := t.clock })).days ∧ t.days.turnSecond = s.days.turnSecond
        ∧ t.sram = s.sram ∧ t.save.kept.records = s.save.kept.records ∧ t.save.kept.title.blocks = s.save.kept.title.blocks
        ∧ t.mixer = s.mixer ∧ t.supply = s.supply ∧ t.dir = s.dir))
  ∧ (∀ (tag level y0 y1 m dd hh mi ss : Byte) (s : State) (q : Request),
    q = ⟨tag, level, [0x01#8, y0, y1, m, dd, hh, mi, ss]⟩ → Takes .clockSet q s →
    ((validDate (leNat [y0, y1]) m.toNat dd.toNat = false ∨ 23 < hh.toNat ∨ 59 < mi.toNat ∨ 59 < ss.toNat) →
      exec (.clockSet q) s = .next (answered .badValue tag [] s))
    ∧ (validDate (leNat [y0, y1]) m.toNat dd.toNat = true → hh.toNat ≤ 23 → mi.toNat ≤ 59 → ss.toNat ≤ 59 →
      ∃ t, exec (.clockSet q) s = .next t
        ∧ t.clock = { s.clock with
            state := .valid, subsecond := 0, second := hh.toNat * 3600 + mi.toNat * 60 + ss.toNat
            day := dayNumberOf (leNat [y0, y1]) m.toNat dd.toNat, adjust := 0
            divider :=
              if (if s.clock.adjust = 0 then 32 else if s.clock.early = true then 31 else 33) ≤ s.clock.divider then 1
              else 0 }
        ∧ t.link = (answered .ok tag [] (catchUp (notify (.clockState .set) { s with clock := t.clock }))).link
        ∧ t.days = (fillClock (catchUp { s with clock := t.clock })).days ∧ t.days.turnSecond = s.days.turnSecond
        ∧ t.sram = s.sram ∧ t.save.kept.records = s.save.kept.records ∧ t.save.kept.title.blocks = s.save.kept.title.blocks
        ∧ t.mixer = s.mixer ∧ t.supply = s.supply ∧ t.dir = s.dir))
  ∧ (∀ (tag level form : Byte) (p : List Byte) (s : State), p.length = 7 → 1 < form.toNat →
    Takes .clockSet ⟨tag, level, form :: p⟩ s →
    exec (.clockSet ⟨tag, level, form :: p⟩) s = .next (answered .badValue tag [] s))
  ∧ (∀ (tag level lo hi : Byte) (s : State), Takes .clockTrim ⟨tag, level, [lo, hi]⟩ s →
    ∃ v : Int, -127 ≤ v ∧ v ≤ 127
      ∧ (-127 ≤ (hi ++ lo : BitVec 16).toInt → (hi ++ lo : BitVec 16).toInt ≤ 127 → v = (hi ++ lo : BitVec 16).toInt)
      ∧ (127 < (hi ++ lo : BitVec 16).toInt → v = 127) ∧ ((hi ++ lo : BitVec 16).toInt < -127 → v = -127)
      ∧ exec (.clockTrim ⟨tag, level, [lo, hi]⟩) s
          = .next (answered .ok tag (leInt 2 s.clock.trim ++ leInt 2 v) { s with clock := { s.clock with trim := v } }))

/-- R82 to R88, R90: a tick of the divider comes when the divider has counted 32 frames since the last, or 31 or 33
while the adjustment count is above 0; before that there is none. An UNSET clock does not move. Below subsecond 1023 the
subsecond alone advances, and the adjustment count falls. At a carry the second of day, and past 86399 the day number,
advance at the same tick, and a minute boundary loads the adjustment count from the trim; a carry that is no live day
turn is handed to nobody. At the end of range the clock becomes UNSET with its counters and adjustment count 0 and its
trim kept; LIMIT is queued while the slot domain runs, else it becomes the pending report; and that tick is no day turn.
That MINUTE_BOUNDARY, END_OF_RANGE and DAY_TURN name the tick that CLOCK_TICK takes, and that DAY_TURN names any carry
while the turn second is out of the slot domain's reach, is the model's reading (log 7); that each changes nothing where
its event cannot be is the model's choice (log 2). -/
def Obligations.TicksAdvanceTheClock : Prop :=
  (∀ s : State,
    s.clock.divider < (if s.clock.adjust = 0 then 32 else if s.clock.early = true then 31 else 33) →
    exec .clockTick s = .next s ∧ exec .minuteBoundary s = .next s ∧ exec .endOfRange s = .next s
    ∧ exec .dayTurn s = .next s)
  ∧ (∀ s : State,
    (if s.clock.adjust = 0 then 32 else if s.clock.early = true then 31 else 33) ≤ s.clock.divider →
    (s.clock.state = .unset →
      exec .clockTick s = .next { s with clock := { s.clock with divider := 0 } })
    ∧ (s.clock.state = .valid → s.clock.subsecond < 1023 →
      exec .clockTick s = .next { s with clock := { s.clock with
        subsecond := s.clock.subsecond + 1, adjust := s.clock.adjust - 1, divider := 0 } })
    ∧ ((s.clock.state = .unset ∨ s.clock.subsecond < 1023) →
      exec .minuteBoundary s = .next s ∧ exec .endOfRange s = .next s ∧ exec .dayTurn s = .next s)
    ∧ (∀ (sec day : Nat), s.clock.state = .valid → s.clock.subsecond = 1023 →
      sec = (if s.clock.second < 86399 then s.clock.second + 1 else 0) →
      day = (if s.clock.second < 86399 then s.clock.day else s.clock.day + 1) → day ≤ 36524 →
      exec .endOfRange s = .next s
      ∧ exec .minuteBoundary s = (if sec % 60 = 0 then exec .clockTick s else .next s)
      ∧ exec .dayTurn s = (if sec = turnSecond s
            ∨ (s.days.inService = false ∧ (s.dir.result = .notYet ∨ hasDays s = true)) then exec .clockTick s
          else .next s)
      ∧ ((sec ≠ turnSecond s ∨ s.supply.phase ≠ 8 ∨ s.supply.state = .off) →
        exec .clockTick s = .next { s with clock :=
          if sec % 60 = 0 then { s.clock with
            subsecond := 0, second := sec, day := day, adjust := s.clock.trim.natAbs, early := decide (0 < s.clock.trim)
            divider := 0 }
          else { s.clock with
            subsecond := 0, second := sec, day := day, adjust := s.clock.adjust - 1, divider := 0 } }))
    ∧ (s.clock.state = .valid → s.clock.subsecond = 1023 → s.clock.second = 86399 → s.clock.day = 36524 →
      exec .clockTick s = exec .endOfRange s
      ∧ exec .dayTurn s = .next s ∧ exec .minuteBoundary s = .next s
      ∧ (s.supply.state = .off → exec .endOfRange s = .next { s with clock := { s.clock with
          state := .unset, subsecond := 0, second := 0, day := 0, adjust := 0, divider := 0, pendingLimit := true } })
      ∧ (s.supply.state ≠ .off →
        exec .endOfRange s = .next (notify (.clockState .limit) { s with clock := { s.clock with
          state := .unset, subsecond := 0, second := 0, day := 0, adjust := 0, divider := 0 } }))))


/-- R87, R88: a day turn taken in phase 8 while the slot domain runs: the clock's carry, then the catch-up of the
game-day logic, the retry of a held clock slot with a full pass, a cell measurement begun, and the fill of a dirty day
block (R115). The order of these is the model's choice (log 12), and that DAY_TURN names the tick that CLOCK_TICK takes
is its reading (log 7). -/
def Obligations.DayTurnIsHandedOn : Prop :=
  ∀ (s : State), s.clock.state = .valid → s.clock.subsecond = 1023 → s.supply.phase = 8 → s.supply.state ≠ .off →
    (s.clock.second < 86399 ∨ s.clock.day < 36524) →
    (if s.clock.second < 86399 then s.clock.second + 1 else 0) = turnSecond s →
    (if s.clock.adjust = 0 then 32 else if s.clock.early = true then 31 else 33) ≤ s.clock.divider →
    exec .dayTurn s = exec .clockTick s
    ∧ ∃ t, exec .dayTurn s = .next t
      ∧ t.clock.state = .valid ∧ t.clock.subsecond = 0 ∧ t.clock.second = turnSecond s
      ∧ t.clock.day = (if s.clock.second < 86399 then s.clock.day else s.clock.day + 1)
      ∧ t.clock.trim = s.clock.trim
      ∧ t.days = (fillClock (catchUp { s with clock := t.clock })).days
      ∧ t.link = (catchUp { s with clock := t.clock }).link
      ∧ t.supply = { s.supply with measuring := true }
      ∧ (s.save.kept.clock.state = .pending → s.save.kept.clock.held = true →
          t.save.kept.clock.held = false ∧ t.save.kept.clock.fullPass = true)
      ∧ t.sram = s.sram ∧ t.save.kept.records = s.save.kept.records ∧ t.mixer = s.mixer

/-- R102, R103, R104, R106: a catch-up. It runs while the clock is VALID and the working copy in service. With no high
day it fixes the starting point and counts nothing; below the high day it sets the behind flag alone; at the high day it
clears it; above it, every ARMED counter advances by the increase of the high day. The notices are BEHIND or AHEAD when
the flag changes, then DAY_DUE when a counter came due: with the counters that were ARMED with no more days remaining
than the increase, and the sum of the passes of all eight after it. -/
def Obligations.CatchUpFollowsTheHighDay : Prop :=
  ∀ (s : State),
    ((s.clock.state = .unset ∨ s.days.inService = false) → catchUp s = s)
    ∧ (∀ g : Int, s.clock.state = .valid → s.days.inService = true →
      g = (if s.days.turnSecond ≤ s.clock.second then (s.clock.day : Int) else (s.clock.day : Int) - 1) →
      catchUp s = { s with days := (catchUp s).days, link := (catchUp s).link }
      ∧ (s.days.highDay = none →
        (catchUp s).days = { s.days with highDay := some g, behind := false, dirty := true }
        ∧ (catchUp s).link.queue = (if s.days.behind then notify (.clockState .ahead) s else s).link.queue)
      ∧ (∀ h, s.days.highDay = some h → g < h →
        (catchUp s).days = { s.days with behind := true }
        ∧ (catchUp s).link.queue = (if s.days.behind then s else notify (.clockState .behind) s).link.queue)
      ∧ (∀ h, s.days.highDay = some h → g = h →
        (catchUp s).days = { s.days with behind := false }
        ∧ (catchUp s).link.queue = (if s.days.behind then notify (.clockState .ahead) s else s).link.queue)
      ∧ (∀ (h : Int) (k : Nat), s.days.highDay = some h → g = h + k → 0 < k →
        (catchUp s).days = { s.days with
          highDay := some g, behind := false, dirty := true, counters := (catchUp s).days.counters }
        ∧ (∀ i, i < 8 → counterOf (catchUp s).days.counters i = advanceCounter k (counterOf s.days.counters i))
        ∧ ((∀ i, i < 8 → (counterOf s.days.counters i).state = .armed → k < (counterOf s.days.counters i).remaining) →
          (catchUp s).link.queue = (if s.days.behind then notify (.clockState .ahead) s else s).link.queue)
        ∧ ((∃ i, i < 8 ∧ (counterOf s.days.counters i).state = .armed ∧ (counterOf s.days.counters i).remaining ≤ k) →
          ∃ (due : BitVec 8) (total : Nat),
            (∀ i, i < 8 → (due.getLsbD i = true ↔
              (counterOf s.days.counters i).state = .armed ∧ (counterOf s.days.counters i).remaining ≤ k))
            ∧ total = ((List.range 8).map (fun i => (counterOf (catchUp s).days.counters i).passes)).sum
            ∧ (catchUp s).link.queue
                = (notify (.dayDue due total)
                    (if s.days.behind then notify (.clockState .ahead) s else s)).link.queue)))

/-- R105, for the counters that R100 admits: an ARMED counter's advance, one-shot and repeating; the new remaining of a
repeating one; and "Advancing by a and then by b gives the same counter as advancing once by a + b, saturation of passes
included". -/
def Obligations.CountersAdvanceAsDaysPass : Prop :=
  ∀ (c : Counter), counterLoads c = true → ∀ a b : Nat, 1 ≤ a → 1 ≤ b →
    advanceCounter b (advanceCounter a c) = advanceCounter (a + b) c
    ∧ counterLoads (advanceCounter a c) = true
    ∧ (c.state = .armed → c.period ≠ 0 → (advanceCounter a c).state = .armed
        ∧ 1 ≤ (advanceCounter a c).remaining ∧ (advanceCounter a c).remaining ≤ c.period)
    ∧ (c.state = .armed → c.period = 0 →
        ((advanceCounter a c).state = .due ↔ (advanceCounter a c).remaining = 0))
    ∧ (c.state ≠ .armed → advanceCounter a c = c)
    ∧ (c.state = .armed → a < c.remaining → advanceCounter a c = { c with remaining := c.remaining - a })
    ∧ (c.state = .armed → c.remaining ≤ a → c.period = 0 →
      advanceCounter a c = { c with state := .due, remaining := 0, passes := min 255 (c.passes + 1) })
    ∧ (c.state = .armed → c.remaining ≤ a → c.period ≠ 0 →
      advanceCounter a c = { c with
        remaining := c.period - (a - c.remaining) % c.period
        passes := min 255 (c.passes + 1 + (a - c.remaining) / c.period) })

/-- R108, R109, R110: the counter requests. Without a DAYS region NO_ENTRY, then an index above 7 BAD_VALUE. COUNTER_ARM
arms the counter with its values clamped; COUNTER_DISARM disarms it; COUNTER_ACK clears its passes and disarms a DUE
one. No other counter changes. COUNTER_ARM sets the dirty flag, and the other two where they change the counter; the
fill of R115 follows. The layout of the replies is the model's choice (log 13). -/
def Obligations.CounterRequestsChangeTheirCounter : Prop :=
  (∀ (tag level i r0 r1 p0 p1 : Byte) (s : State) (q : Request), q = ⟨tag, level, [i, r0, r1, p0, p1]⟩ →
    Takes .counterArm q s →
    (hasDays s = false → exec (.counterArm q) s = .next (answered .noEntry tag [] s))
    ∧ (hasDays s = true → 7 < i.toNat → exec (.counterArm q) s = .next (answered .badValue tag [] s))
    ∧ (hasDays s = true → i.toNat ≤ 7 →
      ∃ (t : State) (r : Nat), exec (.counterArm q) s = .next t
        ∧ r = (if leNat [p0, p1] = 0 then max 1 (leNat [r0, r1]) else min (max 1 (leNat [r0, r1])) (leNat [p0, p1]))
        ∧ t.days.counters = s.days.counters.setIfInBounds i.toNat ⟨.armed, r, leNat [p0, p1], 0⟩
        ∧ t.link = (answered .ok tag ([0x01#8] ++ leBytes 2 r ++ [p0, p1, 0x00#8]) s).link
        ∧ t.days = (fillClock { s with days := { s.days with counters := t.days.counters, dirty := true } }).days
        ∧ t.days.highDay = s.days.highDay ∧ t.days.turnSecond = s.days.turnSecond ∧ t.clock = s.clock
        ∧ t.sram = s.sram))
  ∧ (∀ (tag level i : Byte) (s : State), (hasDays s = false ∨ 7 < i.toNat) →
    (Takes .counterDisarm ⟨tag, level, [i]⟩ s →
      exec (.counterDisarm ⟨tag, level, [i]⟩) s
        = .next (answered (if hasDays s = true then .badValue else .noEntry) tag [] s))
    ∧ (Takes .counterAck ⟨tag, level, [i]⟩ s →
      exec (.counterAck ⟨tag, level, [i]⟩) s
        = .next (answered (if hasDays s = true then .badValue else .noEntry) tag [] s)))
  ∧ (∀ (tag level i : Byte) (s : State), i.toNat ≤ 7 → hasDays s = true →
    Takes .counterDisarm ⟨tag, level, [i]⟩ s →
    ∃ t, exec (.counterDisarm ⟨tag, level, [i]⟩) s = .next t
      ∧ t.days.counters = s.days.counters.setIfInBounds i.toNat
          { counterOf s.days.counters i.toNat with state := .disarmed }
      ∧ (∃ c : Counter, c = counterOf s.days.counters i.toNat ∧ t.link = (answered .ok tag
          ([BitVec.ofNat 8 (counterStateCode c.state)] ++ leBytes 2 c.remaining ++ leBytes 2 c.period
            ++ [BitVec.ofNat 8 c.passes]) s).link
          ∧ t.days = (fillClock { s with days := { s.days with
              counters := t.days.counters, dirty := s.days.dirty || decide (c.state ≠ .disarmed) } }).days)
      ∧ t.days.highDay = s.days.highDay ∧ t.clock = s.clock ∧ t.sram = s.sram)
  ∧ (∀ (tag level i : Byte) (s : State) (c : Counter), i.toNat ≤ 7 → hasDays s = true →
    c = counterOf s.days.counters i.toNat →
    Takes .counterAck ⟨tag, level, [i]⟩ s →
    ∃ t, exec (.counterAck ⟨tag, level, [i]⟩) s = .next t
      ∧ t.days.counters = s.days.counters.setIfInBounds i.toNat
          { c with passes := 0, state := if c.state = .due then .disarmed else c.state }
      ∧ t.link = (answered .ok tag [BitVec.ofNat 8 c.passes] s).link
      ∧ t.days = (fillClock { s with days := { s.days with
          counters := t.days.counters, dirty := s.days.dirty || decide (c.passes ≠ 0 ∨ c.state = .due) } }).days
      ∧ t.days.highDay = s.days.highDay ∧ t.clock = s.clock ∧ t.sram = s.sram)

/-- R112, R113, R114: DAYS_CONFIG stores the turn second, sets the dirty flag, answers with the turn second before, and
runs a catch-up on the new one; that the fill of R115 follows the catch-up is the model's choice (log 12). DAY_TEST of a
day number or a valid date compares it with the game day: LT, EQ, GT, or UN while the clock is UNSET, and answers
whether the accept set holds the relation; a malformed form, operand, set or choice is BAD_VALUE; a strict test that
finds UN is answered CLOCK_UNSET, sets the sticky flag and queues DAY_UNORDERED. The bytes of the replies are laid out
as log 13 and log 15 say. -/
def Obligations.DaysConfigAndDayTest : Prop :=
  (∀ (tag level t0 t1 t2 t3 : Byte) (s : State) (q : Request), q = ⟨tag, level, [t0, t1, t2, t3]⟩ →
    Takes .daysConfig q s →
    (hasDays s = false → exec (.daysConfig q) s = .next (answered .noEntry tag [] s))
    ∧ (hasDays s = true → 86399 < leNat [t0, t1, t2, t3] →
      exec (.daysConfig q) s = .next (answered .badValue tag [] s))
    ∧ (hasDays s = true → leNat [t0, t1, t2, t3] ≤ 86399 →
      ∃ (t : State) (d : State), exec (.daysConfig q) s = .next t
        ∧ d = catchUp { s with days := { s.days with turnSecond := leNat [t0, t1, t2, t3], dirty := true } }
        ∧ t.days.turnSecond = leNat [t0, t1, t2, t3]
        ∧ t.days = (fillClock d).days
        ∧ t.link = (answered .ok tag (leBytes 4 s.days.turnSecond) d).link
        ∧ t.clock = s.clock ∧ t.sram = s.sram))
  ∧ (∀ (tag level form x0 x1 a b set strict : Byte) (s : State) (q : Request) (operand : Option Nat) (g : Option Int),
    q = ⟨tag, level, [form, x0, x1, a, b, set, strict]⟩ → Takes .dayTest q s →
    operand = (if form = 0#8 then (if leNat [x0, x1] ≤ 36524 then some (leNat [x0, x1]) else none)
      else if form = 1#8 then
        (if validDate (leNat [x0, x1]) a.toNat b.toNat then some (dayNumberOf (leNat [x0, x1]) a.toNat b.toNat)
        else none)
      else none) →
    g = (if s.clock.state = .unset then none
      else some (if turnSecond s ≤ s.clock.second then (s.clock.day : Int) else (s.clock.day : Int) - 1)) →
    ((operand = none ∨ 15 < set.toNat ∨ 1 < strict.toNat) →
      exec (.dayTest q) s = .next (answered .badValue tag [] s))
    ∧ (∀ x : Nat, operand = some x → set.toNat ≤ 15 → strict.toNat ≤ 1 →
      (∀ v : Int, g = some v → ∀ r : Nat, r = (if (x : Int) < v then 0 else if (x : Int) = v then 1 else 2) →
        exec (.dayTest q) s = .next (answered .ok tag
          ([if set.getLsbD r then 1#8 else 0#8, BitVec.ofNat 8 r] ++ leInt 3 v
            ++ [if s.days.sticky then 1#8 else 0#8]) s))
      ∧ (g = none → strict = 0#8 →
        exec (.dayTest q) s = .next (answered .ok tag
          [if set.getLsbD 3 then 1#8 else 0#8, 3#8, 0xFF#8, 0xFF#8, 0x7F#8, if s.days.sticky then 1#8 else 0#8] s))
      ∧ (g = none → strict = 1#8 →
        ∃ t, exec (.dayTest q) s = .next t
          ∧ t = { s with days := { s.days with sticky := true }, link := t.link }
          ∧ t.link = (answered .clockUnset tag [1#8] (notify (.dayUnordered x) s)).link)))

/-- R202, R118, R99: a working copy within its ranges, laid out as the 64 bytes of the durable block, passes the load
checks and loads back as it was. R50, R115: the fill hands those bytes to the clock slot, as one staged block of index 0
with all 64 positions written: it acts while the working copy is in service, the dirty flag set, the clock slot FREE,
the slot domain running and the supply not WARN, and only then; the slot is PENDING at the queue's tail for the DAYS
region, with a full pass where its record is BLANK or DAMAGED or the block is rebuilt; and both flags are cleared. -/
def Obligations.DayBlockRoundTrips : Prop :=
  (∀ (d : Days), DaysOk d →
    (dayBlockBytes d).length = 64
    ∧ loadDayBlock (dayBlockBytes d) = some (d.turnSecond, d.highDay, d.counters))
  ∧ (∀ s : State, (s.days.inService = false ∨ s.days.dirty = false ∨ s.save.kept.clock.state ≠ .free
      ∨ s.supply.state = .warn ∨ s.supply.state = .off ∨ daysRegion s = none) → fillClock s = s)
  ∧ (∀ (s : State) (sel : Nat), s.days.inService = true → s.days.dirty = true → s.save.kept.clock.state = .free →
    s.supply.state ≠ .warn → s.supply.state ≠ .off → daysRegion s = some sel →
    fillClock s = { s with
      days := { s.days with dirty := false, rebuilt := false }
      save := { s.save with kept := { s.save.kept with
        queue := s.save.kept.queue ++ [.clock]
        title := { s.save.kept.title with order := if s.save.kept.title.order = 0 then 0 else 1 }
        clock := { state := .pending, held := false, kind := .write, target := sel, base := (entryAt s sel).base
                   length := (entryAt s sel).length, offset := 0, selector := 0, level := 0, tag := 0
                   order := if s.save.kept.title.order = 0 then 1 else 2
                   faults := 0, zeroBase := false
                   fullPass := decide ((recordAt s sel).state = .blank ∨ (recordAt s sel).state = .damaged
                     ∨ s.days.rebuilt = true)
                   blocks := [⟨0, (dayBlockBytes s.days).map some⟩] } } } })

/-- R82, R83, R99, R100: every step keeps the clock and the working copy within their ranges. -/
def Obligations.CalendarInvariant : Prop :=
  ∀ (s t : State), ClockOk s.clock → DaysOk s.days → step s = .next t → ClockOk t.clock ∧ DaysOk t.days

/-! ## Voices -/

/-- R124, R125, R126: VOICE_PITCH, VOICE_LEVEL and VOICE_RAMP store their clamped values in any state of the voice and
answer with them; a voice number above 7 is BAD_VALUE; nothing else changes. -/
def Obligations.VoiceSettingsAreClamped : Prop :=
  ∀ (tag level n a0 a1 b0 b1 : Byte) (s : State),
    (Takes .voicePitch ⟨tag, level, [n, a0, a1]⟩ s →
      exec (.voicePitch ⟨tag, level, [n, a0, a1]⟩) s = .next
        (if 7 < n.toNat then answered .badValue tag [] s
        else answered .ok tag (leBytes 2 (max 1 (leNat [a0, a1])))
          (setVoice n.toNat { voiceAt s n.toNat with rate := max 1 (leNat [a0, a1]) } s)))
    ∧ (Takes .voiceLevel ⟨tag, level, [n, a0, a1]⟩ s →
      exec (.voiceLevel ⟨tag, level, [n, a0, a1]⟩) s = .next
        (if 7 < n.toNat then answered .badValue tag [] s
        else answered .ok tag [BitVec.ofNat 8 (min 127 a0.toNat), BitVec.ofNat 8 (min 128 a1.toNat)]
          (setVoice n.toNat
            { voiceAt s n.toNat with volume := min 127 a0.toNat, pan := min 128 a1.toNat } s)))
    ∧ (Takes .voiceRamp ⟨tag, level, [n, a0, a1, b0, b1]⟩ s →
      exec (.voiceRamp ⟨tag, level, [n, a0, a1, b0, b1]⟩) s = .next
        (if 7 < n.toNat then answered .badValue tag [] s
        else answered .ok tag
          (leBytes 2 (min 1023 (leNat [a0, a1])) ++ leBytes 2 (max 1 (min 1023 (leNat [b0, b1]))))
          (setVoice n.toNat { voiceAt s n.toNat with
            target := min 1023 (leNat [a0, a1]), step := max 1 (min 1023 (leNat [b0, b1])) } s)))

/-- R122, R123: VOICE_SETUP. A PCM format's resolution is checked first (with R14's bounds); then BUSY, then the order
of a generated format, then the values. An accepted set-up writes the record, with the resolved window for a PCM format
and none for the others, empties the buffer, and answers with the window; the voice stays IDLE. A burst in flight for
the voice is to be discarded. Another voice's run may be trimmed by a grant (R136), and nothing else of it changes. -/
def Obligations.VoiceSetupChecksInOrder : Prop :=
  ∀ (tag level n f sel p0 p1 p2 l0 l1 l2 e0 e1 e2 loop duty : Byte) (s : State) (q : Request) (st lp en : Nat)
    (win : Option (Nat × Nat)),
    q = ⟨tag, level, [n, f, sel, p0, p1, p2, l0, l1, l2, e0, e1, e2, loop, duty]⟩ → Takes .voiceSetup q s →
    st = leNat [p0, p1, p2] → lp = leNat [l0, l1, l2] → en = leNat [e0, e1, e2] →
    (∀ r, f.toNat ≤ 1 →
      resolve s sel.toNat level.toNat kindSample false .none
        (fun w => decide (st < en ∧ lp < en ∧ en * (if f = 0#8 then 1 else 2) ≤ w.length)) = .refused r →
      exec (.voiceSetup q) s = .next (answered r tag [] s))
    ∧ ((f.toNat ≤ 1 → ∃ w, win = some (w.base, w.length) ∧
        resolve s sel.toNat level.toNat kindSample false .none
          (fun w => decide (st < en ∧ lp < en ∧ en * (if f = 0#8 then 1 else 2) ≤ w.length)) = .window w) →
      (1 < f.toNat → win = none) →
      (n.toNat ≤ 7 → (voiceAt s n.toNat).state ≠ .idle →
        exec (.voiceSetup q) s = .next (answered .busy tag [] s))
      ∧ ((7 < n.toNat ∨ (voiceAt s n.toNat).state = .idle) → (f.toNat = 2 ∨ f.toNat = 3) → (en ≤ st ∨ en ≤ lp) →
        exec (.voiceSetup q) s = .next (answered .outOfBounds tag [] s))
      ∧ ((7 < n.toNat ∨ (voiceAt s n.toNat).state = .idle) →
        ((f.toNat = 2 ∨ f.toNat = 3) → st < en ∧ lp < en) →
        (7 < n.toNat ∨ 3 < f.toNat ∨ 1 < loop.toNat) →
        exec (.voiceSetup q) s = .next (answered .badValue tag [] s))
      ∧ (n.toNat ≤ 7 → (voiceAt s n.toNat).state = .idle → f.toNat ≤ 3 → loop.toNat ≤ 1 →
        ((f.toNat = 2 ∨ f.toNat = 3) → st < en ∧ lp < en) →
        ∃ t, exec (.voiceSetup q) s = .next t
          ∧ voiceAt t n.toNat = { voiceAt s n.toNat with
              format := if f = 0#8 then .pcm8 else if f = 1#8 then .pcm16 else if f = 2#8 then .pulse else .noise
              window := win, startPos := st, loopStart := lp, endPos := en, looping := decide (loop = 1#8)
              duty := max 1 (min 7 duty.toNat), index := st, fraction := 0, run := [], runOffset := 0 }
          ∧ (∀ m, m < 8 → m ≠ n.toNat → AsGranted (voiceAt t m) (voiceAt s m))
          ∧ (∀ a c x, s.port.burst = some (.refill n.toNat a c x) → t.port.burst = some (.refill n.toNat a c true))
          ∧ t.link = (answered .ok tag
              (match win with
              | some (b, l) => leBytes 4 b ++ leBytes 4 l
              | none => List.replicate 8 0xFF#8) s).link
          ∧ t.mixer = s.mixer ∧ t.sram = s.sram))

/-- R127, R128, R130, R121: the key requests. VOICE_KEY_ON starts the voice afresh in any state, priming a PCM voice,
and a burst in flight for it is to be discarded;
VOICE_KEY_OFF releases a voice that is not IDLE with the clamped step; VOICE_STOP makes it IDLE at once, without a
notice, withdraws its refill, and answers with the state before. A voice number above 7 is BAD_VALUE. -/
def Obligations.KeysStartAndStopVoices : Prop :=
  ∀ (tag level n a0 a1 : Byte) (s : State) (v : Voice), v = voiceAt s n.toNat →
    (Takes .voiceKeyOn ⟨tag, level, [n]⟩ s →
      (7 < n.toNat → exec (.voiceKeyOn ⟨tag, level, [n]⟩) s = .next (answered .badValue tag [] s))
      ∧ (n.toNat ≤ 7 →
        ∃ t, exec (.voiceKeyOn ⟨tag, level, [n]⟩) s = .next t
          ∧ voiceAt t n.toNat = { v with
              state := .playing, index := v.startPos, fraction := 0, e := 0, noise := 0x7FFF#15, last := 0
              priming := decide (v.format = .pcm8 ∨ v.format = .pcm16), run := [], runOffset := 0 }
          ∧ (∀ m, m < 8 → m ≠ n.toNat → AsGranted (voiceAt t m) (voiceAt s m))
          ∧ (∀ a c x, s.port.burst = some (.refill n.toNat a c x) → t.port.burst = some (.refill n.toNat a c true))
          ∧ t.link = (answered .ok tag [] s).link ∧ t.mixer = s.mixer ∧ t.sram = s.sram))
    ∧ (Takes .voiceKeyOff ⟨tag, level, [n, a0, a1]⟩ s →
      exec (.voiceKeyOff ⟨tag, level, [n, a0, a1]⟩) s = .next
        (if 7 < n.toNat then answered .badValue tag [] s
        else if v.state = .idle then answered .ok tag [] s
        else answered .ok tag [] (setVoice n.toNat
          { v with state := .releasing, releaseStep := max 1 (min 1023 (leNat [a0, a1])) } s)))
    ∧ (Takes .voiceStop ⟨tag, level, [n]⟩ s →
      (7 < n.toNat → exec (.voiceStop ⟨tag, level, [n]⟩) s = .next (answered .badValue tag [] s))
      ∧ (n.toNat ≤ 7 → v.state = .idle → exec (.voiceStop ⟨tag, level, [n]⟩) s = .next (answered .ok tag [0#8] s))
      ∧ (n.toNat ≤ 7 → v.state ≠ .idle →
        ∃ t, exec (.voiceStop ⟨tag, level, [n]⟩) s = .next t
          ∧ t.voices = s.voices.setIfInBounds n.toNat
              { v with state := .idle, e := 0, priming := false, run := [], runOffset := 0 }
          ∧ n.toNat ∉ t.port.refills
          ∧ (∀ a c st, s.port.burst = some (.refill n.toNat a c st) →
              t.port.burst = some (.refill n.toNat a c true))
          ∧ t.link = (answered .ok tag [if v.state = .playing then 1#8 else 2#8] s).link ∧ t.mixer = s.mixer))

/-- R134, R137, R138, R140: the envelope tick moves every sounding voice once, toward its target by its step, or down by
its release step to IDLE at 0, with one VOICE_END for the voices that end, whose bursts in flight are to be discarded;
in WARN and OFF nothing moves. A refill that completes appends its bytes to the voice's run, each with its ROM address,
and ends the priming when the start sample is now present; bytes to be discarded reach no voice. A grant may trim a
voice's run (R136). With no refill in progress its completion changes nothing, which is the model's choice (log 2). -/
def Obligations.EnvelopesMoveAndRefillsArrive : Prop :=
  (∀ s : State, (s.supply.state = .off ∨ s.supply.state = .warn) → exec .envelopeTick s = .next s)
  ∧ (∀ s : State, s.supply.state ≠ .off → s.supply.state ≠ .warn →
    ∃ t, exec .envelopeTick s = .next t
      ∧ (∀ n, n < 8 → (voiceAt s n).state = .idle → voiceAt t n = voiceAt s n)
      ∧ (∀ n, n < 8 → (voiceAt s n).state = .playing → ∃ e,
          AsGranted (voiceAt t n) { voiceAt s n with e := e }
          ∧ ((voiceAt s n).e < (voiceAt s n).target → e = min ((voiceAt s n).e + (voiceAt s n).step) (voiceAt s n).target)
          ∧ ((voiceAt s n).target < (voiceAt s n).e → e = max ((voiceAt s n).e - (voiceAt s n).step) (voiceAt s n).target)
          ∧ ((voiceAt s n).e = (voiceAt s n).target → e = (voiceAt s n).target))
      ∧ (∀ n, n < 8 → (voiceAt s n).state = .releasing → (voiceAt s n).releaseStep < (voiceAt s n).e →
          AsGranted (voiceAt t n) { voiceAt s n with e := (voiceAt s n).e - (voiceAt s n).releaseStep })
      ∧ (∀ n, n < 8 → (voiceAt s n).state = .releasing → (voiceAt s n).e ≤ (voiceAt s n).releaseStep →
          voiceAt t n = { voiceAt s n with state := .idle, e := 0, priming := false, run := [], runOffset := 0 }
          ∧ ∀ a c x, s.port.burst = some (.refill n a c x) → t.port.burst = some (.refill n a c true))
      ∧ ((∀ n, n < 8 → (voiceAt s n).state = .releasing → (voiceAt s n).releaseStep < (voiceAt s n).e) → t.link = s.link)
      ∧ (∀ n, n < 8 → (voiceAt s n).state = .releasing → (voiceAt s n).e ≤ (voiceAt s n).releaseStep →
          ∃ set : BitVec 8, t.link = (notify (.voiceEnd set .released) s).link
            ∧ ∀ m, m < 8 → (set.getLsbD m = true ↔
                (voiceAt s m).state = .releasing ∧ (voiceAt s m).e ≤ (voiceAt s m).releaseStep))
      ∧ t.mixer = s.mixer ∧ t.clock = s.clock)
  ∧ (∀ (bus : List Byte) (n a c : Nat) (s : State), s.port.burst = some (.refill n a c false) → n < 8 →
    ∃ (t : State) (x : Voice), exec (.refillCompletion bus) s = .next t
      ∧ x = { voiceAt s n with
          run := (voiceAt s n).run ++ (List.range c).map (fun k => (a + k, (burstBytes s.rom a c bus).getD k 0#8))
          priming := (voiceAt s n).priming && decide ((voiceAt s n).run.length + c
            < (voiceAt s n).runOffset + sampleBytes (voiceAt s n).format) }
      ∧ AsGranted (voiceAt t n) x
      ∧ (∀ m, m < 8 → m ≠ n → AsGranted (voiceAt t m) (voiceAt s m))
      ∧ t.link = s.link ∧ t.mixer = s.mixer)
  ∧ (∀ (bus : List Byte) (n a c : Nat) (s : State), s.port.burst = some (.refill n a c true) →
    ∃ t, exec (.refillCompletion bus) s = .next t
      ∧ (∀ m, m < 8 → AsGranted (voiceAt t m) (voiceAt s m))
      ∧ (∀ m, m < 8 → (voiceAt s m).state = .idle → voiceAt t m = voiceAt s m)
      ∧ t.link = s.link ∧ t.mixer = s.mixer ∧ t.rom = s.rom)
  ∧ (∀ (bus : List Byte) (s : State), (∀ n a c x, s.port.burst ≠ some (.refill n a c x)) →
    exec (.refillCompletion bus) s = .next s)

/-- R121, R135, R136, R26: every step keeps the voices: an IDLE voice has e 0, no priming and an empty buffer, no run
exceeds 16 bytes, the waiting refills are those of R135's conditions, a refill in progress finds room for its bytes, and
the anti-starvation count stays at most 4. And every step keeps what a fetch rests on: a PCM voice's positions and
buffered bytes lie inside its cached window (R122), before the end boundary, and so do the bytes of a refill in progress
(R136). -/
def Obligations.VoicesInvariant : Prop :=
  ∀ (s t : State), VoicesOk s → step s = .next t →
    (s.port.starvation ≤ 4 → VoicesOk t ∧ t.port.starvation ≤ 4) ∧ (WindowsOk s → VoicesOk t ∧ WindowsOk t)

/-- R21 to R28, R136: which request a grant goes to: in WARN a commit step alone; when the anti-starvation count stands
at 4 with a commit step waiting, that step; else an urgent refill that has not been passed over a waiting link read, the
link read, an urgent refill that has, a commit step, a scan step, an ordinary refill, a directory burst. And what the
grant changes: the request's burst is in progress and it waits no longer; the anti-starvation count rises when a refill
is granted while a commit step waits, and is 0 after every other grant; an urgent refill granted over a waiting link
read joins the passed set, which goes with the link read's own grant; the mark becomes the voice of an ordinary refill.
A granted refill trims its voice's run and reads up to 8 bytes from the fetch point up to the end boundary, inside the
voice's cached window where the voices are as VoicesInvariant keeps them. No grant is made while a burst is in progress. -/
def Obligations.GrantsFollowTheClasses : Prop :=
  ∀ (s : State),
    (inWarn s = true → chooseGrant s = s.port.commit.map .commit)
    ∧ (inWarn s = false → 4 ≤ s.port.starvation → ∀ c, s.port.commit = some c → chooseGrant s = some (.commit c))
    ∧ (inWarn s = false → (s.port.starvation < 4 ∨ s.port.commit = none) →
      (∀ n, n < 8 → n ∈ s.port.refills → bytesAhead (voiceAt s n) < 2 →
        (s.port.linkRead = none ∨ n ∉ s.port.passed) →
        (∀ m, m < n → m ∈ s.port.refills → bytesAhead (voiceAt s m) < 2 →
          s.port.linkRead ≠ none ∧ m ∈ s.port.passed) →
        chooseGrant s = some (.refill n))
      ∧ (∀ r, s.port.linkRead = some r →
        (∀ n, n < 8 → n ∈ s.port.refills → bytesAhead (voiceAt s n) < 2 → n ∈ s.port.passed) →
        chooseGrant s = some (.linkRead r))
      ∧ (s.port.linkRead = none → (∀ n, n < 8 → n ∈ s.port.refills → 2 ≤ bytesAhead (voiceAt s n)) →
        (∀ c, s.port.commit = some c → chooseGrant s = some (.commit c))
        ∧ (s.port.commit = none → ∀ a, s.port.scan = some a → chooseGrant s = some (.scan a))
        ∧ (s.port.commit = none → s.port.scan = none →
          (∀ n k, n < 8 → k < 8 → n = (s.port.mark + 1 + k) % 8 → n ∈ s.port.refills →
            (∀ j, j < k → (s.port.mark + 1 + j) % 8 ∉ s.port.refills) → chooseGrant s = some (.refill n))
          ∧ ((∀ n, n < 8 → n ∉ s.port.refills) → chooseGrant s = s.port.directory.map .directory))))
    ∧ ((s.port.burst ≠ none ∨ chooseGrant s = none) → grant s = s)
    ∧ (s.port.burst = none →
      (∀ r, chooseGrant s = some (.linkRead r) → grant s = { s with port := { s.port with
        burst := some (.linkRead r false), linkRead := none, passed := [], starvation := 0 } })
      ∧ (∀ c, chooseGrant s = some (.commit c) →
        grant s = { s with port := { s.port with burst := some (.commit c), commit := none, starvation := 0 } })
      ∧ (∀ a, chooseGrant s = some (.scan a) →
        grant s = { s with port := { s.port with burst := some (.scan a), scan := none, starvation := 0 } })
      ∧ (∀ a, chooseGrant s = some (.directory a) →
        grant s = { s with port := { s.port with burst := some (.directory a), directory := none, starvation := 0 } })
      ∧ (∀ (n bytes base boundary f : Nat) (v x : Voice), chooseGrant s = some (.refill n) → x = voiceAt s n →
        v = (if x.runOffset < x.run.length then { x with run := x.run.drop x.runOffset, runOffset := 0 }
          else { x with run := [], runOffset := 0 }) →
        bytes = (if v.format = .pcm16 then 2 else 1) → base = (v.window.map Prod.fst).getD 0 →
        boundary = v.endPos * bytes →
        f = (match v.run.getLast? with
          | none => v.index * bytes
          | some (a, _) => if a + 1 - base = boundary then v.loopStart * bytes else a + 1 - base) →
        n < 8 ∧ n ∈ s.port.refills
        ∧ grant s = { s with
            voices := s.voices.setIfInBounds n v
            port := { s.port with
              burst := some (.refill n (base + f) (min 8 (boundary - f)) false)
              refills := (List.range 8).filter (fun m => wantsRefill (voiceAt (setVoice n v s) m))
              passed := if x.run.length - x.runOffset < 2 ∧ s.port.linkRead ≠ none then n :: s.port.passed
                else s.port.passed
              mark := if x.run.length - x.runOffset < 2 then s.port.mark else n
              starvation := if s.port.commit = none then 0 else s.port.starvation + 1 } }
        ∧ (VoicesOk s → WindowsOk s →
            ∃ b len, v.window = some (b, len) ∧ b ≤ base + f ∧ 1 ≤ min 8 (boundary - f)
              ∧ base + f + min 8 (boundary - f) ≤ b + len)))

/-! ## The mixer -/

/-- R148, R149: MIX_CONFIG stores the clamped master volume, rounding mode and output enable, and the rumble ceiling and
strength follow the output reservation. MIX_FLAGS clears the given flags, replaces or keeps the enable set, and answers
with the flags before and after. A malformed choice is BAD_VALUE, and nothing changes. -/
def Obligations.MixRequestsChangeTheSettings : Prop :=
  ∀ (tag level m0 m1 mode out clear choice : Byte) (s : State),
    (Takes .mixConfig ⟨tag, level, [m0, m1, mode, out]⟩ s →
      ((3 < mode.toNat ∨ 1 < out.toNat) →
        exec (.mixConfig ⟨tag, level, [m0, m1, mode, out]⟩) s = .next (answered .badValue tag [] s))
      ∧ (mode.toNat ≤ 3 → out.toNat ≤ 1 →
        ∃ t, exec (.mixConfig ⟨tag, level, [m0, m1, mode, out]⟩) s = .next t
          ∧ t.mixer = { s.mixer with
              master := min 256 (leNat [m0, m1]), output := decide (out = 1#8)
              mode := if mode = 0#8 then .nearest else if mode = 1#8 then .zero else if mode = 2#8 then .floor
                else .ceiling }
          ∧ t.rumble = { s.rumble with
              ceiling := ceilingOf t
              applied := appliedFrom s.rumble.lastDemand (ceilingOf t) s.rumble.limiter }
          ∧ t = { answered .ok tag (leBytes 2 (min 256 (leNat [m0, m1])) ++ [mode, out]) s with
              mixer := t.mixer, rumble := t.rumble }))
    ∧ (Takes .mixFlags ⟨tag, level, [clear, choice]⟩ s →
      (15 < choice.toNat → choice ≠ 0xFF#8 →
        exec (.mixFlags ⟨tag, level, [clear, choice]⟩) s = .next (answered .badValue tag [] s))
      ∧ (∀ en : BitVec 4, (choice = 0xFF#8 ∧ en = s.mixer.enables) ∨ choice.toNat = en.toNat →
        exec (.mixFlags ⟨tag, level, [clear, choice]⟩) s = .next
          (answered .ok tag
            ([s.mixer.flags, s.mixer.flags &&& ~~~clear, BitVec.ofNat 8 en.toNat] ++ leBytes 2 s.mixer.master
              ++ [BitVec.ofNat 8 (roundingCode s.mixer.mode), if s.mixer.output then 1#8 else 0#8])
            { s with mixer := { s.mixer with flags := s.mixer.flags &&& ~~~clear, enables := en } })))

/-- R143, R144: stage 5 rounds M / 2³² by the mode, and stage 6 saturates: FLOOR gives the greatest integer not above
the quotient, CEILING the least not below it, ZERO drops the fraction, NEAREST takes the nearest, the even one at a
half. Up to the bound of R142 the result lies between −259842 and 259842. Both channels of a mix take the same mode. -/
def Obligations.RoundingAndSaturation : Prop :=
  (∀ s : State, (mixed s).left = saturate (roundQuotient s.mixer.mode (leftMaster s))
    ∧ (mixed s).right = saturate (roundQuotient s.mixer.mode (rightMaster s)))
  ∧ ∀ m : Int,
    (roundQuotient .floor m * 4294967296 ≤ m ∧ m < (roundQuotient .floor m + 1) * 4294967296)
    ∧ (m ≤ roundQuotient .ceiling m * 4294967296 ∧ (roundQuotient .ceiling m - 1) * 4294967296 < m)
    ∧ (0 ≤ m → roundQuotient .zero m = roundQuotient .floor m)
    ∧ (m ≤ 0 → roundQuotient .zero m = roundQuotient .ceiling m)
    ∧ (-4294967296 ≤ 2 * (m - roundQuotient .nearest m * 4294967296)
      ∧ 2 * (m - roundQuotient .nearest m * 4294967296) ≤ 4294967296)
    ∧ ((2 * (m - roundQuotient .nearest m * 4294967296) = 4294967296
        ∨ 2 * (m - roundQuotient .nearest m * 4294967296) = -4294967296) → roundQuotient .nearest m % 2 = 0)
    ∧ (∀ mode : Rounding, -1116012892127232 ≤ m → m ≤ 1116012892127232 →
      -259842 ≤ roundQuotient mode m ∧ roundQuotient mode m ≤ 259842)
    ∧ (-32768 ≤ saturate m ∧ saturate m ≤ 32767)
    ∧ (-32768 ≤ m → m ≤ 32767 → saturate m = m)
    ∧ (32767 < m → saturate m = 32767) ∧ (m < -32768 → saturate m = -32768)

/-- R131, R132, R140, R141 to R146, R83: a frame. In WARN and OFF the divider alone counts it. Otherwise each voice that
sounds and is not priming forms its sample, advances its index, its run offset and its noise register, and ends or
loops; the output sample is the saturated, rounded quotient of the exact sums; and each flag is set when its condition
holds, else kept. A grant may trim a voice's run (R136). That a voice which ends keeps the exact sum as its index,
beyond the range of R120 too, is the model's choice (log 27); the order of VOICE_END and MIX_FLAGS, where a frame queues
both, is a free value (log 11), and the notices of such a frame are not stated. -/
def Obligations.FramesStepVoicesAndMix : Prop :=
  (∀ s : State, (s.supply.state = .off ∨ s.supply.state = .warn) →
    exec .frame s = .next { s with clock := { s.clock with divider := s.clock.divider + 1 } })
  ∧ (∀ (s : State) (l r : Int), s.supply.state ≠ .off → s.supply.state ≠ .warn →
    l = ((List.range 8).map (fun n => (if (voiceAt s n).state = .idle ∨ (voiceAt s n).priming = true then 0
      else sampleOf (voiceAt s n) * (voiceAt s n).e * (voiceAt s n).volume) * (128 - ((voiceAt s n).pan : Int)))).sum
      * s.mixer.master →
    r = ((List.range 8).map (fun n => (if (voiceAt s n).state = .idle ∨ (voiceAt s n).priming = true then 0
      else sampleOf (voiceAt s n) * (voiceAt s n).e * (voiceAt s n).volume) * ((voiceAt s n).pan : Int))).sum
      * s.mixer.master →
    ∃ t, exec .frame s = .next t
      ∧ t.clock = { s.clock with divider := s.clock.divider + 1 }
      ∧ t.mixer.left = saturate (roundQuotient s.mixer.mode l) ∧ t.mixer.right = saturate (roundQuotient s.mixer.mode r)
      ∧ t.mixer = { s.mixer with left := t.mixer.left, right := t.mixer.right, flags := t.mixer.flags }
      ∧ t.mixer.flags.getLsbD 0 = (s.mixer.flags.getLsbD 0 || decide (t.mixer.left ≠ roundQuotient s.mixer.mode l))
      ∧ t.mixer.flags.getLsbD 1 = (s.mixer.flags.getLsbD 1 || decide (t.mixer.right ≠ roundQuotient s.mixer.mode r))
      ∧ (t.mixer.flags.getLsbD 2 = true ↔ s.mixer.flags.getLsbD 2 = true
          ∨ ∃ n, n < 8 ∧ starves (voiceAt s n) = true ∧ (voiceAt s n).pan < 128)
      ∧ (t.mixer.flags.getLsbD 3 = true ↔ s.mixer.flags.getLsbD 3 = true
          ∨ ∃ n, n < 8 ∧ starves (voiceAt s n) = true ∧ 0 < (voiceAt s n).pan)
      ∧ t.mixer.flags.getLsbD 4 = (s.mixer.flags.getLsbD 4 || decide (l ≠ 0 ∧ roundQuotient s.mixer.mode l = 0))
      ∧ t.mixer.flags.getLsbD 5 = (s.mixer.flags.getLsbD 5 || decide (r ≠ 0 ∧ roundQuotient s.mixer.mode r = 0))
      ∧ t.mixer.flags.getLsbD 6 = (s.mixer.flags.getLsbD 6 || decide (l % 4294967296 ≠ 0))
      ∧ t.mixer.flags.getLsbD 7 = (s.mixer.flags.getLsbD 7 || decide (r % 4294967296 ≠ 0))
      ∧ (∀ n, n < 8 → (voiceAt s n).state = .idle → voiceAt t n = voiceAt s n)
      ∧ (∀ n, n < 8 → (voiceAt s n).priming = true → AsGranted (voiceAt t n) (voiceAt s n))
      ∧ (∀ (n k : Nat) (v x : Voice), n < 8 → v = voiceAt s n → v.state ≠ .idle → v.priming = false →
          k = (v.fraction + v.rate) / 4096 →
          x = { v with
            last := sampleOf v, index := v.index + k, fraction := (v.fraction + v.rate) % 4096
            runOffset := if v.format = .pcm8 then v.runOffset + k else if v.format = .pcm16 then v.runOffset + k * 2
              else v.runOffset
            noise := if v.format = .noise then shiftNoiseBy k v.noise else v.noise } →
          (x.index < v.endPos → AsGranted (voiceAt t n) x)
          ∧ (v.endPos ≤ x.index → v.looping = true →
            AsGranted (voiceAt t n) { x with
              index := v.loopStart + (x.index - v.loopStart) % (v.endPos - v.loopStart) })
          ∧ (v.endPos ≤ x.index → v.looping = false →
            voiceAt t n = { x with state := .idle, e := 0, priming := false, run := [], runOffset := 0 }
            ∧ ∀ a c z, s.port.burst = some (.refill n a c z) → t.port.burst = some (.refill n a c true)))
      ∧ ((∀ n, n < 8 → frameEnds (voiceAt s n) = false) →
          t.link = (reportFlags (t.mixer.flags &&& ~~~s.mixer.flags &&& enabledFlags s.mixer.enables) s).link)
      ∧ (t.mixer.flags &&& ~~~s.mixer.flags &&& enabledFlags s.mixer.enables = 0 →
          ∃ set : BitVec 8, (∀ n, n < 8 → set.getLsbD n = frameEnds (voiceAt s n))
            ∧ t.link = (if set = 0 then s else notify (.voiceEnd set .ended) s).link)
      ∧ t.supply = s.supply ∧ t.sram = s.sram ∧ t.dir = s.dir)
  ∧ (∀ v : Voice,
    (starves v = true ↔ v.state ≠ .idle ∧ v.priming = false ∧ (v.format = .pcm8 ∨ v.format = .pcm16)
      ∧ v.run.length < v.runOffset + (if v.format = .pcm16 then 2 else 1))
    ∧ (frameEnds v = true ↔ v.state ≠ .idle ∧ v.priming = false ∧ v.looping = false
      ∧ v.endPos ≤ v.index + (v.fraction + v.rate) / 4096)
    ∧ (v.format = .pulse → sampleOf v = if v.index % 8 < v.duty then 16384 else -16384)
    ∧ (v.format = .noise → sampleOf v = if v.noise.getLsbD 0 then -16384 else 16384)
    ∧ (∀ a b, v.format = .pcm8 → v.run[v.runOffset]? = some (a, b) → sampleOf v = b.toInt * 256)
    ∧ (∀ a b c d, v.format = .pcm16 → v.run[v.runOffset]? = some (a, b) → v.run[v.runOffset + 1]? = some (c, d) →
      sampleOf v = (d ++ b : BitVec 16).toInt)
    ∧ (starves v = true → sampleOf v = v.last))
  ∧ (∀ (r : BitVec 15) (k : Nat), shiftNoiseBy 0 r = r ∧ shiftNoiseBy (k + 1) r = shiftNoiseBy k (shiftNoise r)
    ∧ (shiftNoise r).getLsbD 14 = (r.getLsbD 0 ^^ r.getLsbD 1)
    ∧ ∀ i, i < 14 → (shiftNoise r).getLsbD i = r.getLsbD (i + 1))

/-! ## The rumble driver -/

/-- R156, R161, R162, R168: RUMBLE_DEFINE replaces a pattern that the player does not hold with its steps, their
durations clamped to 1 … 4095; RUMBLE_CANCEL removes the current entry, or all, and the head of the waiting list starts;
RUMBLE_FOLLOW sets or clears the follow setting and restarts the hold timer; RUMBLE_HOLD stores the clamped seconds and
restarts it. Their refusals change nothing. The layout of the replies is the model's choice, FFh for the voice and gain
where follow is off among it (log 13). -/
def Obligations.RumbleRequestsSetTheDriver : Prop :=
  (∀ (tag level p : Byte) (xs : List (Byte × Byte × Byte)) (s : State) (q : Request) (held : Prop),
    q = ⟨tag, level, p :: (xs.map (fun x => [x.1, x.2.1, x.2.2])).flatten⟩ → Takes .rumbleDefine q s →
    (held ↔ ∃ x, (s.rumble.current = some x ∨ x ∈ s.rumble.waiting) ∧ x.pattern = p.toNat) →
    (held → exec (.rumbleDefine q) s = .next (answered .busy tag [] s))
    ∧ (¬ held → (15 < p.toNat ∨ 16 < xs.length) → exec (.rumbleDefine q) s = .next (answered .badValue tag [] s))
    ∧ (¬ held → p.toNat ≤ 15 → xs.length ≤ 16 →
      exec (.rumbleDefine q) s = .next (answered .ok tag
        ([BitVec.ofNat 8 xs.length]
          ++ leBytes 2 ((xs.map (fun x => max 1 (min 4095 (x.2.1.toNat + 256 * x.2.2.toNat)))).sum))
        { s with rumble := { s.rumble with patterns := (s.rumble.patterns.setIfInBounds p.toNat
          (xs.map (fun x => PatternStep.mk x.1.toNat (max 1 (min 4095 (x.2.1.toNat + 256 * x.2.2.toNat)))))) } })))
  ∧ (∀ (tag level scope : Byte) (s : State), Takes .rumbleCancel ⟨tag, level, [scope]⟩ s →
    (1 < scope.toNat → exec (.rumbleCancel ⟨tag, level, [scope]⟩) s = .next (answered .badValue tag [] s))
    ∧ (scope = 0#8 → s.rumble.current = none →
      exec (.rumbleCancel ⟨tag, level, [scope]⟩) s = .next (answered .ok tag [0#8] s))
    ∧ (scope = 0#8 → ∀ x, s.rumble.current = some x → s.rumble.waiting = [] →
      exec (.rumbleCancel ⟨tag, level, [scope]⟩) s
        = .next (answered .ok tag [1#8] { s with rumble := { s.rumble with current := none } }))
    ∧ (scope = 0#8 → ∀ x y rest, s.rumble.current = some x → s.rumble.waiting = y :: rest →
      exec (.rumbleCancel ⟨tag, level, [scope]⟩) s
        = .next (answered .ok tag [1#8] { s with rumble := { s.rumble with
            current := some { y with stepIndex := 0, ticksLeft := durationAt s.rumble y.pattern 0 }, waiting := rest } }))
    ∧ (scope = 1#8 →
      exec (.rumbleCancel ⟨tag, level, [scope]⟩) s
        = .next (answered .ok tag
            [BitVec.ofNat 8 ((if s.rumble.current.isSome then 1 else 0) + s.rumble.waiting.length)]
            { s with rumble := { s.rumble with current := none, waiting := [] } })))
  ∧ (∀ (tag level on n g : Byte) (s : State) (old : List Byte) (timer : Option Nat),
    Takes .rumbleFollow ⟨tag, level, [on, n, g]⟩ s →
    timer = (if s.rumble.hold = 0 then none else some (s.rumble.hold * 1024)) →
    old = (match s.rumble.follow with
      | some (v, w) => [1#8, BitVec.ofNat 8 v, BitVec.ofNat 8 w]
      | none => [0#8, 0xFF#8, 0xFF#8]) →
    exec (.rumbleFollow ⟨tag, level, [on, n, g]⟩) s = .next
      (if on = 0#8 then answered .ok tag old { s with rumble := { s.rumble with timer := timer, follow := none } }
      else if on = 1#8 then
        (if s.supply.state = .warn then answered .power tag [] s
        else if 7 < n.toNat then answered .badValue tag [] s
        else answered .ok tag old
          { s with rumble := { s.rumble with timer := timer, follow := some (n.toNat, g.toNat) } })
      else answered .badValue tag [] s))
  ∧ (∀ (tag level lo hi : Byte) (s : State) (h : Nat), Takes .rumbleHold ⟨tag, level, [lo, hi]⟩ s →
    h = min 255 (lo.toNat + 256 * hi.toNat) →
    exec (.rumbleHold ⟨tag, level, [lo, hi]⟩) s = .next (answered .ok tag (leBytes 2 h)
      { s with rumble := { s.rumble with hold := h, timer := if h = 0 then none else some (h * 1024) } }))

/-- R158: RUMBLE_PLAY: POWER, BAD_VALUE and QUEUE_FULL in order; else the entry takes the arrival number, the hold timer
restarts, and the entry starts, preempts a current entry of lower priority, or joins the waiting list after every entry
of equal or higher priority, displacing from a full list the last entry, the latest of the lowest priority. The code of
the placement in the reply, and FFh where there is no position, are the model's choice (log 13). -/
def Obligations.RumblePlayPlacesTheEntry : Prop :=
  ∀ (tag level p pr n : Byte) (s : State) (q : Request) (x st : PlayerEntry) (r : Rumble),
    q = ⟨tag, level, [p, pr, n]⟩ → Takes .rumblePlay q s →
    x = { pattern := p.toNat, priority := pr.toNat, playsLeft := n.toNat, arrival := s.rumble.arrival } →
    st = { x with stepIndex := 0, ticksLeft := durationAt s.rumble p.toNat 0 } →
    r = { s.rumble with
      arrival := s.rumble.arrival + 1, timer := if s.rumble.hold = 0 then none else some (s.rumble.hold * 1024) } →
    (s.supply.state = .warn → exec (.rumblePlay q) s = .next (answered .power tag [] s))
    ∧ (s.supply.state ≠ .warn → (15 < p.toNat ∨ 3 < pr.toNat ∨ patternAt s.rumble p.toNat = []) →
      exec (.rumblePlay q) s = .next (answered .badValue tag [] s))
    ∧ (s.supply.state ≠ .warn → p.toNat ≤ 15 → pr.toNat ≤ 3 → patternAt s.rumble p.toNat ≠ [] →
      (s.rumble.current = none →
        exec (.rumblePlay q) s
          = .next (answered .ok tag [0#8, 0xFF#8] { s with rumble := { r with current := some st } }))
      ∧ (∀ c, s.rumble.current = some c → c.priority < pr.toNat →
        exec (.rumblePlay q) s
          = .next (answered .ok tag [1#8, 0xFF#8]
              (notify (.rumbleState .preempted) { s with rumble := { r with current := some st } })))
      ∧ (∀ c before after, s.rumble.current = some c → pr.toNat ≤ c.priority → s.rumble.waiting.length < 4 →
        s.rumble.waiting = before ++ after → (∀ y ∈ before, pr.toNat ≤ y.priority) →
        (∀ y, after.head? = some y → y.priority < pr.toNat) →
        exec (.rumblePlay q) s
          = .next (answered .ok tag [2#8, BitVec.ofNat 8 (before.length + 1)]
              { s with rumble := { r with waiting := before ++ x :: after } }))
      ∧ (∀ c xs y, s.rumble.current = some c → pr.toNat ≤ c.priority → s.rumble.waiting = xs ++ [y] → xs.length = 3 →
        (pr.toNat ≤ y.priority → exec (.rumblePlay q) s = .next (answered .queueFull tag [] s))
        ∧ (∀ before after, y.priority < pr.toNat → xs = before ++ after → (∀ z ∈ before, pr.toNat ≤ z.priority) →
          (∀ z, after.head? = some z → z.priority < pr.toNat) →
          exec (.rumblePlay q) s
            = .next (answered .ok tag [2#8, BitVec.ofNat 8 (before.length + 1)]
                (notify (.rumbleState .displaced) { s with rumble := { r with waiting := before ++ x :: after } })))))

/-- R159 to R169: a tick of the driver: heat and the limiter, the hold timer and its expiry, the demand, the ceiling and
the applied strength, and the player's advance, in this order, with the notices of each. That HEAT_TICK,
HOLD_TIMER_EXPIRY and STEP_END name the tick that RUMBLE_TICK takes is the model's reading (log 7). While the slot
domain does not run, nothing happens, and the motor is not driven. The ceiling is that of R164: of the budget, 100 in
NORMAL, 45 in LOW and 0 otherwise, less 10 while the output reservation stands and 15 while a copy is in progress, what
is left times 255 / 75, rounded down, and at most 255. MDRV drives the motor at the applied strength. -/
def Obligations.TicksDriveTheMotor : Prop :=
  (∀ s : State, s.supply.state = .off →
    exec .rumbleTick s = .next s ∧ exec .heatTick s = .next s ∧ exec .holdTimerExpiry s = .next s
    ∧ exec .stepEnd s = .next s ∧ mdrv s = none)
  ∧ (∀ s : State, s.supply.state ≠ .off →
    (s.rumble.heatCount = 15 → exec .heatTick s = exec .rumbleTick s)
    ∧ (∀ n, s.rumble.timer = some n → n ≤ 1 → exec .holdTimerExpiry s = exec .rumbleTick s)
    ∧ (∀ x, s.rumble.current = some x → x.ticksLeft ≤ 1 → (∀ n, s.rumble.timer = some n → 1 < n) →
      exec .stepEnd s = exec .rumbleTick s)
    ∧ ∃ t, exec .rumbleTick s = .next t
      ∧ t = { s with rumble := t.rumble, link := t.link }
      ∧ (s.rumble.heatCount ≠ 15 → t.rumble.heatCount = s.rumble.heatCount + 1 ∧ t.rumble.heat = s.rumble.heat
          ∧ t.rumble.limiter = s.rumble.limiter)
      ∧ (s.rumble.heatCount = 15 → t.rumble.heatCount = 0
          ∧ t.rumble.heat = min 65535 (s.rumble.heat + s.rumble.applied - 96)
          ∧ (s.rumble.limiter = false → t.rumble.limiter = decide (49152 ≤ t.rumble.heat))
          ∧ (s.rumble.limiter = true → t.rumble.limiter = decide (32768 < t.rumble.heat)))
      ∧ t.rumble.ceiling = ceilingOf s
      ∧ (∀ budget reserved : Nat,
          budget = (match s.supply.state with | .normal => 100 | .low => 45 | .warn => 0 | .start => 0 | .off => 0) →
          reserved = (if s.mixer.output = true ∧ s.supply.state ≠ .off ∧ s.supply.state ≠ .warn then 10 else 0)
            + (if s.save.copy = none then 0 else 15) →
          t.rumble.ceiling = min 255 ((budget - reserved) * 255 / 75))
      ∧ mdrv t = some t.rumble.applied
      ∧ t.rumble.applied = (if t.rumble.limiter then min 96 (min t.rumble.lastDemand (ceilingOf s))
          else min t.rumble.lastDemand (ceilingOf s))
      ∧ (∀ n, s.rumble.timer = some n → n ≤ 1 →
          t.rumble.timer = none ∧ t.rumble.current = none ∧ t.rumble.follow = none ∧ t.rumble.lastDemand = 0
          ∧ (s.rumble.current ≠ none ∨ s.rumble.follow ≠ none → t.rumble.waiting = [])
          ∧ (s.rumble.heatCount ≠ 15 → (s.rumble.current ≠ none ∨ s.rumble.follow ≠ none) →
              t.link = (notify (.rumbleState .holdExpired) s).link))
      ∧ ((∀ n, s.rumble.timer = some n → 1 < n) →
          t.rumble.timer = s.rumble.timer.map (· - 1) ∧ t.rumble.follow = s.rumble.follow
          ∧ t.rumble.lastFollow = (match s.rumble.follow with
              | some (n, g) => (voiceAt s n).e * g / 1023
              | none => 0)
          ∧ t.rumble.lastDemand = max t.rumble.lastFollow (match s.rumble.current with
              | some x => strengthAt s.rumble x.pattern x.stepIndex
              | none => 0)
          ∧ (s.rumble.current = none → t.rumble.current = none ∧ t.rumble.waiting = s.rumble.waiting)
          ∧ (∀ x, s.rumble.current = some x → 1 < x.ticksLeft →
              t.rumble.current = some { x with ticksLeft := x.ticksLeft - 1 } ∧ t.rumble.waiting = s.rumble.waiting)
          ∧ (∀ x, s.rumble.current = some x → x.ticksLeft = 1 →
              x.stepIndex + 1 < (patternAt s.rumble x.pattern).length →
              t.rumble.current = some { x with
                stepIndex := x.stepIndex + 1, ticksLeft := durationAt s.rumble x.pattern (x.stepIndex + 1) })
          ∧ (∀ x, s.rumble.current = some x → x.ticksLeft = 1 →
              (patternAt s.rumble x.pattern).length ≤ x.stepIndex + 1 →
              (x.playsLeft ≠ 1 → t.rumble.current = some { x with
                playsLeft := x.playsLeft - 1, stepIndex := 0, ticksLeft := durationAt s.rumble x.pattern 0 })
              ∧ (x.playsLeft = 1 →
                (s.rumble.waiting = [] → t.rumble.current = none ∧ t.rumble.waiting = [])
                ∧ (∀ y rest, s.rumble.waiting = y :: rest → t.rumble.waiting = rest
                    ∧ t.rumble.current
                        = some { y with stepIndex := 0, ticksLeft := durationAt s.rumble y.pattern 0 })
                ∧ (s.rumble.heatCount ≠ 15 → t.link = (notify (.rumbleState .finished) s).link)))
          ∧ ((∀ x, s.rumble.current = some x → 1 < x.ticksLeft) →
              t.link = (if t.rumble.limiter = s.rumble.limiter then s
                else notify (.rumbleState (if t.rumble.limiter then .limitOn else .limitOff)) s).link)))

/-- R157, R165: every step keeps the ceiling and the applied strength as the supply state, the reservations, the last
demand and the limiter give them (so that the strength never exceeds the ceiling, nor 96 while the limiter is engaged,
and is 0 in WARN, START and OFF), and the player in order, with at most four waiting entries, none of a priority above
the current entry's, and none at all without one. -/
def Obligations.RumbleInvariant : Prop :=
  ∀ (s t : State), RumbleCurrent s → PlayerOk s.rumble → step s = .next t → RumbleCurrent t ∧ PlayerOk t.rumble
    ∧ t.rumble.applied ≤ t.rumble.ceiling ∧ (t.rumble.limiter = true → t.rumble.applied ≤ 96)
    ∧ (t.supply.state = .warn ∨ t.supply.state = .start ∨ t.supply.state = .off → t.rumble.applied = 0)

/-! ## The supply, the cell and start-up -/

/-- R173, R174, R185, R170, R151, R28, R30: VSLOT comes to stand at a level. Where no transition without a hold time is
due, the level and the qualification timers alone change. Below 2.8 V the supply enters WARN from START, NORMAL or LOW:
the player and follow are cleared, the motor stops, the pins present 0, the waiting refills are withdrawn, and
SUPPLY_CHANGE and SHED are queued. Below 2.5 V in WARN it falls to OFF: kept RAM and the clock stay, and the slot domain
is lost; SRAM changes only under a block write. The model's choices here: the order of the two notices (log 12); that
WARN_ENTRY and SUPPLY_OFF name the change of level that VSLOT_THRESHOLD_CHANGE makes, and that a fall from above 2.8 V
to below 2.5 V passes WARN (log 9); the output sample put to 0 (log 23); and the waiting flag set in phases 5 and 7 (log
8). -/
def Obligations.SupplyFollowsVslot : Prop :=
  ∀ (mv : Nat) (s : State),
    (((s.supply.state = .off) ∨ (s.supply.state = .warn ∧ 2500 ≤ mv)
        ∨ ((s.supply.state = .start ∨ s.supply.state = .normal ∨ s.supply.state = .low) ∧ 2800 ≤ mv)) →
      exec (.vslotThresholdChange mv) s = .next { s with supply := { s.supply with
        vslot := mv
        timers :=
          { offToStart := decide (s.supply.state = .off ∧ 3000 ≤ mv)
            normalToLow := decide (s.supply.state = .normal ∧ mv < 3000)
            lowToNormal := decide (s.supply.state = .low ∧ 3100 ≤ mv)
            warnToLow := decide (s.supply.state = .warn ∧ 2900 ≤ mv ∧ s.supply.phase = 8)
            warnToStart := decide (s.supply.state = .warn ∧ 2900 ≤ mv ∧ s.supply.phase ≠ 8) } } })
    ∧ ((s.supply.state = .start ∨ s.supply.state = .normal ∨ s.supply.state = .low) → 2500 ≤ mv → mv < 2800 →
      exec (.warnEntry mv) s = exec (.vslotThresholdChange mv) s
      ∧ ∃ t, exec (.warnEntry mv) s = .next t
        ∧ t.supply = { s.supply with
            state := .warn, vslot := mv, timers := {}
            waiting := s.supply.waiting || decide (s.supply.phase = 5) || decide (s.supply.phase = 7) }
        ∧ t.rumble = { s.rumble with
            current := none, waiting := [], follow := none, ceiling := 0, applied := 0 }
        ∧ t.link = (notify (.rumbleState .shed) (notify (.supplyChange .warn) s)).link
        ∧ t.port.refills = [] ∧ t.voices = s.voices ∧ aol t = 0 ∧ aor t = 0
        ∧ t.mixer = { s.mixer with left := 0, right := 0 }
        ∧ t.clock = s.clock ∧ t.days = s.days ∧ t.dir = s.dir ∧ t.sram = s.sram)
    ∧ (s.supply.state = .warn → mv < 2500 →
      exec (.supplyOff mv) s = exec (.vslotThresholdChange mv) s
      ∧ ∃ t, exec (.supplyOff mv) s = .next t
        ∧ t = { pending := s.pending, free := s.free + 1, srst := s.srst, rom := s.rom, sram := t.sram
                supply := { state := .off, vslot := mv }, save := { kept := s.save.kept }, clock := s.clock }
        ∧ ((∀ c, s.port.burst = some (.commit c) → c.dir ≠ .write) → t.sram = s.sram))
    ∧ ((s.supply.state = .start ∨ s.supply.state = .normal ∨ s.supply.state = .low) → mv < 2500 →
      exec (.warnEntry mv) s = exec (.vslotThresholdChange mv) s
      ∧ ∃ t, exec (.warnEntry mv) s = .next t
        ∧ t.supply = { state := .off, vslot := mv } ∧ t.clock = s.clock
        ∧ t.save = { kept := t.save.kept } ∧ t.save.kept.records = s.save.kept.records
        ∧ t.link = {} ∧ t.port = {} ∧ t.dir = {} ∧ t.days = {} ∧ t.mixer = {} ∧ t.rumble = {}
        ∧ t.voices = Vector.replicate 8 {}
        ∧ ((∀ c, s.port.burst = some (.commit c) → c.dir ≠ .write) → s.port.commit = none → s.save.kept.queue = []
            → t.sram = s.sram))

/-- R173, R175, R176, R182: the transitions with a hold time, taken when their timer has run: NORMAL to LOW and LOW to
NORMAL; WARN to LOW in phase 8, and to START before it, where a passage from phase 4 to 5 or from 6 to 7 that waited is
made and nothing waits any longer; OFF to START, at which the slot domain comes up at its start-up values in phase 1
with the first measurement begun. Each but the last queues SUPPLY_CHANGE and recomputes ceiling and strength. The
model's choices here: without its timer running none is taken, and nothing changes (log 2); the waiting flag and the
phases it holds (log 8); and that OFF_TO_START says by a truth value whether the battery domain was retained (log 17).
-/
def Obligations.TimedSupplyTransitions : Prop :=
  ∀ (s : State),
    (s.supply.state = .normal → s.supply.timers.normalToLow = true →
      ∃ t, exec .normalToLow s = .next t
        ∧ t.supply = { s.supply with state := .low, timers := timersFor .low s.supply.vslot s.supply.phase }
        ∧ t.link = (notify (.supplyChange .low) s).link
        ∧ t.rumble = { s.rumble with
            ceiling := ceilingOf t, applied := appliedFrom s.rumble.lastDemand (ceilingOf t) s.rumble.limiter }
        ∧ t.mixer = s.mixer ∧ t.clock = s.clock ∧ t.dir = s.dir ∧ t.sram = s.sram)
    ∧ (s.supply.state = .low → s.supply.timers.lowToNormal = true →
      ∃ t, exec .lowToNormal s = .next t
        ∧ t.supply = { s.supply with state := .normal, timers := timersFor .normal s.supply.vslot s.supply.phase }
        ∧ t.link = (notify (.supplyChange .normal) s).link
        ∧ t.rumble = { s.rumble with
            ceiling := ceilingOf t, applied := appliedFrom s.rumble.lastDemand (ceilingOf t) s.rumble.limiter }
        ∧ t.mixer = s.mixer ∧ t.clock = s.clock ∧ t.dir = s.dir ∧ t.sram = s.sram)
    ∧ (s.supply.state = .warn → (s.supply.timers.warnToLow = true ∨ s.supply.timers.warnToStart = true) →
      ∃ (t : State) (st : SupplyState), exec .warnRecovery s = .next t
        ∧ st = (if s.supply.phase = 8 then .low else .start)
        ∧ t.supply = { s.supply with
            state := st, timers := timersFor st s.supply.vslot s.supply.phase
            phase := if s.supply.waiting = true ∧ (s.supply.phase = 4 ∨ s.supply.phase = 6) then s.supply.phase + 1
              else s.supply.phase
            waiting := false }
        ∧ t.link = (notify (.supplyChange st) s).link
        ∧ t.rumble = { s.rumble with
            ceiling := ceilingOf t, applied := appliedFrom s.rumble.lastDemand (ceilingOf t) s.rumble.limiter }
        ∧ t.mixer = s.mixer ∧ t.clock = s.clock ∧ t.dir = s.dir ∧ t.sram = s.sram)
    ∧ (∀ retained : Bool, s.supply.state = .off → s.supply.timers.offToStart = true →
      exec (.offToStart retained) s = .next
        { pending := s.pending, free := s.free, srst := s.srst, rom := s.rom, sram := s.sram
          supply := { state := .start, vslot := s.supply.vslot, measuring := true }
          save := { kept := { s.save.kept with mark := s.save.kept.mark && retained } }, clock := s.clock })
    ∧ (s.supply.timers.normalToLow = false → exec .normalToLow s = .next s)
    ∧ (s.supply.timers.lowToNormal = false → exec .lowToNormal s = .next s)
    ∧ (s.supply.timers.warnToLow = false → s.supply.timers.warnToStart = false → exec .warnRecovery s = .next s)
    ∧ (∀ retained : Bool, s.supply.timers.offToStart = false → exec (.offToStart retained) s = .next s)

/-- R178 to R182, R68, R86, R96: CELL_CHECK begins a measurement or joins the one in progress, and is answered STARTED.
After phase 1, the completion sets the cell state and the reading, rounded down to 10 mV and at most 3990, ends the
measurement, and queues CELL_STATE when the state changed or a CELL_CHECK waits. In phase 1, phase 2 then reads the
retention mark and phase 3 posts the directory header's burst: an intact mark keeps kept RAM (whole, while the day block
is not in service, which in phase 1 it never is) and the clock, and a pending LIMIT is cleared; a lost one rebuilds kept
RAM, sets the clock UNSET with its counters and trim 0, queues CLOCK_STATE UNSET and writes the mark. Phase 1's
CELL_STATE comes before the notices of phase 2. That a completion with no measurement in progress changes nothing is the
model's choice (log 2), as is the retention mark kept as a truth value (log 17). -/
def Obligations.MeasurementsComplete : Prop :=
  (∀ (tag level : Byte) (s : State), Takes .cellCheck ⟨tag, level, []⟩ s →
    exec (.cellCheck ⟨tag, level, []⟩) s = .next (answered .started tag []
      { s with supply := { s.supply with measuring := true, checkWaiting := true } }))
  ∧ (∀ (mv r : Nat) (c : CellState) (s : State), s.supply.state ≠ .off → s.supply.measuring = true →
    s.supply.phase ≠ 1 → r = min 3990 (mv / 10 * 10) →
    c = (if 2700 ≤ r then .good else if 2400 ≤ r then .weak else .flat) →
    exec (.cellMeasurementCompletion mv) s = .next
      (if c ≠ s.supply.cell ∨ s.supply.checkWaiting = true then
        notify (.cellState c r)
          { s with supply := { s.supply with cell := c, reading := r, measuring := false, checkWaiting := false } }
      else { s with supply := { s.supply with cell := c, reading := r, measuring := false, checkWaiting := false } }))
  ∧ (∀ (mv : Nat) (s : State), s.supply.measuring = false → exec (.cellMeasurementCompletion mv) s = .next s)
  ∧ (∀ (mv r : Nat) (c : CellState) (s u : State),
    s.supply.state ≠ .off → s.supply.measuring = true → s.supply.phase = 1 → r = min 3990 (mv / 10 * 10) →
    c = (if 2700 ≤ r then .good else if 2400 ≤ r then .weak else .flat) →
    u = (if c ≠ s.supply.cell ∨ s.supply.checkWaiting = true then notify (.cellState c r) s else s) →
    ∃ t, exec (.cellMeasurementCompletion mv) s = .next t
      ∧ t.supply = { s.supply with
          phase := 3, measuring := false, checkWaiting := false, reading := r, cell := c
          retention := if s.save.kept.mark = true then .intact else .lost }
      ∧ t.link = (if s.save.kept.mark = true then
          (if s.clock.pendingLimit = true then notify (.clockState .limit) u else u)
        else notify (.clockState .unset) u).link
      ∧ t.dir.loading = some .header
      ∧ loadUnderWay 0 t
      ∧ (s.save.kept.mark = true → t.save.kept.mark = true
          ∧ t.save.kept.records = s.save.kept.records ∧ t.save.kept.master = s.save.kept.master
          ∧ (s.days.inService = false → t.save.kept = s.save.kept)
          ∧ t.clock = { s.clock with pendingLimit := false })
      ∧ (s.save.kept.mark = false → t.save.kept.mark = true ∧ t.save.kept.records = Vector.replicate 24 {} ∧ t.save.kept.title = {}
          ∧ t.save.kept.outcome = none ∧ t.save.kept.master = none
          ∧ (s.days.inService = false → t.save.kept = { mark := true })
          ∧ t.clock = { s.clock with
              state := .unset, subsecond := 0, second := 0, day := 0, trim := 0, adjust := 0, pendingLimit := false })
      ∧ t.sram = s.sram)


/-- R64, R65, R118, R182, R184: the opening of the link starts the scan at the lowest UNCHECKED region; a scan step adds
its block to the region's sum and the next block's step follows; the last block makes the record VALID or DAMAGED by the
stored check and the scan goes on with the next UNCHECKED region; the bytes of the DAYS region are handed to the
calendar for phase 7 (R118); after the last one phase 7 is reached, or waits in WARN. That the opening of the link is an
event of its own in phase 5 is the model's choice (log 8), as is that elsewhere it changes nothing (log 2). -/
def Obligations.ScanJudgesTheRegions : Prop :=
  (∀ s : State, s.supply.state ≠ .off → s.supply.state ≠ .warn → s.supply.phase = 5 →
    (∀ r, nextUnchecked s 0 = some r →
      ∃ t, exec .linkOpen s = .next t ∧ t.supply = { s.supply with phase := 6, waiting := false }
        ∧ t.save.scan = some ⟨r, 0, 0⟩ ∧ scanUnderWay (entryAt s r).base t ∧ t.link = s.link ∧ t.sram = s.sram)
    ∧ (nextUnchecked s 0 = none →
      ∃ t, exec .linkOpen s = .next t ∧ t.supply = { s.supply with phase := 7, waiting := false }
        ∧ t.save.scan = none ∧ t.link = s.link ∧ t.sram = s.sram))
  ∧ (∀ s : State, (s.supply.state = .warn ∨ s.supply.state = .off ∨ s.supply.phase ≠ 5) → exec .linkOpen s = .next s)
  ∧ (∀ (bus : List Byte) (a sum : Nat) (sc : Scan) (s : State), s.port.burst = some (.scan a) →
    s.save.scan = some sc → sc.region < 24 → sum = addBlock sc.sum (burstBytes s.sram a 64 bus) →
    (∃ t, exec (.scanStepCompletion bus) s = .next t
      ∧ t.days.handed
          = (if daysRegion s = some sc.region then some (burstBytes s.sram a 64 bus) else s.days.handed)
      ∧ (s.days.inService = false → t.days = { s.days with handed := t.days.handed }))
    ∧ (64 * (sc.block + 1) < (entryAt s sc.region).length →
      ∃ t, exec (.scanStepCompletion bus) s = .next t
        ∧ t.save.scan = some ⟨sc.region, sc.block + 1, sum⟩
        ∧ scanUnderWay ((entryAt s sc.region).base + 64 * (sc.block + 1)) t
        ∧ t.save.kept.records = s.save.kept.records ∧ t.supply = s.supply ∧ t.link = s.link ∧ t.sram = s.sram)
    ∧ ((entryAt s sc.region).length ≤ 64 * (sc.block + 1) →
      ∃ (t : State) (r : Record), exec (.scanStepCompletion bus) s = .next t
        ∧ r = { recordAt s sc.region with
            state := if checksEqual sum (recordAt s sc.region).check then .valid else .damaged }
        ∧ recordAt t sc.region = r
        ∧ (∀ j, j < 24 → j ≠ sc.region → recordAt t j = recordAt s j)
        ∧ t.link = (if r.state = .valid then s
            else notify (.regionState sc.region .damaged .scanMismatch) s).link
        ∧ (∀ j, nextUnchecked s (sc.region + 1) = some j →
            t.save.scan = some ⟨j, 0, 0⟩ ∧ scanUnderWay (entryAt s j).base t ∧ t.supply = s.supply)
        ∧ (nextUnchecked s (sc.region + 1) = none → t.save.scan = none
            ∧ (s.supply.state = .warn → t.supply = { s.supply with waiting := true })
            ∧ (s.supply.state ≠ .warn → t.supply = { s.supply with phase := 7, waiting := false }))
        ∧ t.sram = s.sram))

/-- R118, R119, R173, R182: phase 7 in START. Without a DAYS region the part becomes ready at once. With one, the
working copy comes into service: from the bytes the scan handed over when the record is VALID and they pass the load
checks, else rebuilt, with REGION_STATE REBUILT; then the start-up catch-up runs, and a dirty working copy fills the
clock slot (R115). The supply leaves START for NORMAL at 3.0 V or more, else for LOW, and phase 8 is reached. That the
notices of the day block come before SUPPLY_CHANGE is the model's choice (log 12). -/
def Obligations.DayBlockLoadMakesReady : Prop :=
  ∀ (s : State) (st : SupplyState), s.supply.phase = 7 → s.supply.state = .start →
    st = (if 3000 ≤ s.supply.vslot then .normal else .low) →
    ∃ t, exec .dayBlockLoad s = .next t
      ∧ t.supply = { s.supply with
          phase := 8, waiting := false, state := st, timers := timersFor st s.supply.vslot 8 }
      ∧ t.clock = s.clock ∧ t.sram = s.sram ∧ t.dir = s.dir ∧ t.save.kept.records = s.save.kept.records
      ∧ (daysRegion s = none → t.days = (catchUp s).days
          ∧ t.link = (notify (.supplyChange st) (catchUp s)).link)
      ∧ (∀ (i turn : Nat) (high : Option Int) (cs : Vector Counter 8) (bs : List Byte) (d : State),
          daysRegion s = some i → (recordAt s i).state = .valid → s.days.handed = some bs →
          loadDayBlock bs = some (turn, high, cs) →
          d = catchUp { s with days := { s.days with
            inService := true, turnSecond := turn, highDay := high, counters := cs, dirty := false, rebuilt := false
            behind := false, handed := none } } →
          t.days = (fillClock d).days ∧ t.days.inService = true ∧ t.days.turnSecond = turn
          ∧ (d.days.dirty = true → s.save.kept.clock.state = .free →
            t.save.kept.clock.blocks = [⟨0, (dayBlockBytes d.days).map some⟩])
          ∧ t.link = (notify (.supplyChange st) d).link)
      ∧ (∀ (i : Nat) (d : State), daysRegion s = some i →
          ((recordAt s i).state ≠ .valid ∨ s.days.handed.bind loadDayBlock = none) →
          d = catchUp (notify (.regionState i (recordAt s i).state .rebuilt) { s with days := { s.days with
            inService := true, turnSecond := 0, highDay := none, counters := Vector.replicate 8 {}, dirty := true
            rebuilt := true, behind := false, handed := none } }) →
          t.days = (fillClock d).days ∧ t.days.inService = true ∧ t.days.turnSecond = 0
          ∧ t.days.counters = Vector.replicate 8 {} ∧ t.days.behind = false
          ∧ (s.save.kept.clock.state = .free → t.save.kept.clock.blocks = [⟨0, (dayBlockBytes d.days).map some⟩])
          ∧ t.link = (notify (.supplyChange st) d).link)

/-! ## Reset -/

/-- 00_scope.md section 3, R30, R120, R152, R154, R182: the machine right after its first OFF to START transition: the
slot domain at the values start-up gives it, phase 1 with the measurement begun, the mark lost, and every invariant
above holding. The battery domain's values and empty memories are the model's (log 1, log 5). -/
def Obligations.ResetIsTheStartOfStartUp : Prop :=
  State.reset.supply.state = .start ∧ State.reset.supply.phase = 1 ∧ State.reset.supply.measuring = true
  ∧ State.reset.supply.retention = .unknown ∧ State.reset.supply.cell = .unknown
  ∧ State.reset.save.kept.mark = false
  ∧ State.reset.link.queue = [] ∧ State.reset.link.mask = 0x3FF#10 ∧ State.reset.link.latch = none
  ∧ State.reset.port.burst = none ∧ State.reset.port.mark = 7 ∧ State.reset.port.starvation = 0
  ∧ (∀ n, n < 8 → (voiceAt State.reset n).state = .idle ∧ (voiceAt State.reset n).rate = 4096
      ∧ (voiceAt State.reset n).noise = 0x7FFF#15)
  ∧ State.reset.mixer.master = 256 ∧ State.reset.mixer.output = false ∧ State.reset.mixer.flags = 0
  ∧ State.reset.rumble.heat = 0 ∧ State.reset.rumble.applied = 0
  ∧ (∀ i, i < 24 → triesAt State.reset i = 5) ∧ State.reset.save.frozen = false
  ∧ State.reset.pending = []
  ∧ QueueOk State.reset.link.queue ∧ ClockOk State.reset.clock ∧ DaysOk State.reset.days ∧ VoicesOk State.reset ∧ WindowsOk State.reset
  ∧ RumbleCurrent State.reset ∧ PlayerOk State.reset.rumble ∧ JournalOk State.reset ∧ MemoryOk State.reset
  ∧ TriesOk State.reset

end
end

