-- ==== Sys2Proof/Laws/State.lean ====
section
/-! SUPPORT. The fields that each named update of `State` leaves as they were, one lemma for each, and what it stores in
the field it writes. -/

namespace Sys2Proof.Machine

/-! ## setKept -/

@[simp] theorem setKept_pending (k : Kept) (s : State) : (setKept k s).pending = s.pending := rfl
@[simp] theorem setKept_free (k : Kept) (s : State) : (setKept k s).free = s.free := rfl
@[simp] theorem setKept_srst (k : Kept) (s : State) : (setKept k s).srst = s.srst := rfl
@[simp] theorem setKept_rom (k : Kept) (s : State) : (setKept k s).rom = s.rom := rfl
@[simp] theorem setKept_sram (k : Kept) (s : State) : (setKept k s).sram = s.sram := rfl
@[simp] theorem setKept_supply (k : Kept) (s : State) : (setKept k s).supply = s.supply := rfl
@[simp] theorem setKept_link (k : Kept) (s : State) : (setKept k s).link = s.link := rfl
@[simp] theorem setKept_dir (k : Kept) (s : State) : (setKept k s).dir = s.dir := rfl
@[simp] theorem setKept_port (k : Kept) (s : State) : (setKept k s).port = s.port := rfl
@[simp] theorem setKept_clock (k : Kept) (s : State) : (setKept k s).clock = s.clock := rfl
@[simp] theorem setKept_days (k : Kept) (s : State) : (setKept k s).days = s.days := rfl
@[simp] theorem setKept_voices (k : Kept) (s : State) : (setKept k s).voices = s.voices := rfl
@[simp] theorem setKept_mixer (k : Kept) (s : State) : (setKept k s).mixer = s.mixer := rfl
@[simp] theorem setKept_rumble (k : Kept) (s : State) : (setKept k s).rumble = s.rumble := rfl

/-! ## setSlot -/

@[simp] theorem setSlot_pending (id : SlotId) (sl : Slot) (s : State) : (setSlot id sl s).pending = s.pending := by cases id <;> rfl
@[simp] theorem setSlot_free (id : SlotId) (sl : Slot) (s : State) : (setSlot id sl s).free = s.free := by cases id <;> rfl
@[simp] theorem setSlot_srst (id : SlotId) (sl : Slot) (s : State) : (setSlot id sl s).srst = s.srst := by cases id <;> rfl
@[simp] theorem setSlot_rom (id : SlotId) (sl : Slot) (s : State) : (setSlot id sl s).rom = s.rom := by cases id <;> rfl
@[simp] theorem setSlot_sram (id : SlotId) (sl : Slot) (s : State) : (setSlot id sl s).sram = s.sram := by cases id <;> rfl
@[simp] theorem setSlot_supply (id : SlotId) (sl : Slot) (s : State) : (setSlot id sl s).supply = s.supply := by cases id <;> rfl
@[simp] theorem setSlot_link (id : SlotId) (sl : Slot) (s : State) : (setSlot id sl s).link = s.link := by cases id <;> rfl
@[simp] theorem setSlot_dir (id : SlotId) (sl : Slot) (s : State) : (setSlot id sl s).dir = s.dir := by cases id <;> rfl
@[simp] theorem setSlot_port (id : SlotId) (sl : Slot) (s : State) : (setSlot id sl s).port = s.port := by cases id <;> rfl
@[simp] theorem setSlot_clock (id : SlotId) (sl : Slot) (s : State) : (setSlot id sl s).clock = s.clock := by cases id <;> rfl
@[simp] theorem setSlot_days (id : SlotId) (sl : Slot) (s : State) : (setSlot id sl s).days = s.days := by cases id <;> rfl
@[simp] theorem setSlot_voices (id : SlotId) (sl : Slot) (s : State) : (setSlot id sl s).voices = s.voices := by cases id <;> rfl
@[simp] theorem setSlot_mixer (id : SlotId) (sl : Slot) (s : State) : (setSlot id sl s).mixer = s.mixer := by cases id <;> rfl
@[simp] theorem setSlot_rumble (id : SlotId) (sl : Slot) (s : State) : (setSlot id sl s).rumble = s.rumble := by cases id <;> rfl

/-! ## setQueue -/

@[simp] theorem setQueue_pending (q : List SlotId) (s : State) : (setQueue q s).pending = s.pending := rfl
@[simp] theorem setQueue_free (q : List SlotId) (s : State) : (setQueue q s).free = s.free := rfl
@[simp] theorem setQueue_srst (q : List SlotId) (s : State) : (setQueue q s).srst = s.srst := rfl
@[simp] theorem setQueue_rom (q : List SlotId) (s : State) : (setQueue q s).rom = s.rom := rfl
@[simp] theorem setQueue_sram (q : List SlotId) (s : State) : (setQueue q s).sram = s.sram := rfl
@[simp] theorem setQueue_supply (q : List SlotId) (s : State) : (setQueue q s).supply = s.supply := rfl
@[simp] theorem setQueue_link (q : List SlotId) (s : State) : (setQueue q s).link = s.link := rfl
@[simp] theorem setQueue_dir (q : List SlotId) (s : State) : (setQueue q s).dir = s.dir := rfl
@[simp] theorem setQueue_port (q : List SlotId) (s : State) : (setQueue q s).port = s.port := rfl
@[simp] theorem setQueue_clock (q : List SlotId) (s : State) : (setQueue q s).clock = s.clock := rfl
@[simp] theorem setQueue_days (q : List SlotId) (s : State) : (setQueue q s).days = s.days := rfl
@[simp] theorem setQueue_voices (q : List SlotId) (s : State) : (setQueue q s).voices = s.voices := rfl
@[simp] theorem setQueue_mixer (q : List SlotId) (s : State) : (setQueue q s).mixer = s.mixer := rfl
@[simp] theorem setQueue_rumble (q : List SlotId) (s : State) : (setQueue q s).rumble = s.rumble := rfl

/-! ## setOutcome -/

@[simp] theorem setOutcome_pending (r : OutcomeRecord) (s : State) : (setOutcome r s).pending = s.pending := rfl
@[simp] theorem setOutcome_free (r : OutcomeRecord) (s : State) : (setOutcome r s).free = s.free := rfl
@[simp] theorem setOutcome_srst (r : OutcomeRecord) (s : State) : (setOutcome r s).srst = s.srst := rfl
@[simp] theorem setOutcome_rom (r : OutcomeRecord) (s : State) : (setOutcome r s).rom = s.rom := rfl
@[simp] theorem setOutcome_sram (r : OutcomeRecord) (s : State) : (setOutcome r s).sram = s.sram := rfl
@[simp] theorem setOutcome_supply (r : OutcomeRecord) (s : State) : (setOutcome r s).supply = s.supply := rfl
@[simp] theorem setOutcome_link (r : OutcomeRecord) (s : State) : (setOutcome r s).link = s.link := rfl
@[simp] theorem setOutcome_dir (r : OutcomeRecord) (s : State) : (setOutcome r s).dir = s.dir := rfl
@[simp] theorem setOutcome_port (r : OutcomeRecord) (s : State) : (setOutcome r s).port = s.port := rfl
@[simp] theorem setOutcome_clock (r : OutcomeRecord) (s : State) : (setOutcome r s).clock = s.clock := rfl
@[simp] theorem setOutcome_days (r : OutcomeRecord) (s : State) : (setOutcome r s).days = s.days := rfl
@[simp] theorem setOutcome_voices (r : OutcomeRecord) (s : State) : (setOutcome r s).voices = s.voices := rfl
@[simp] theorem setOutcome_mixer (r : OutcomeRecord) (s : State) : (setOutcome r s).mixer = s.mixer := rfl
@[simp] theorem setOutcome_rumble (r : OutcomeRecord) (s : State) : (setOutcome r s).rumble = s.rumble := rfl

/-! ## setRecord -/

@[simp] theorem setRecord_pending (i : Nat) (r : Record) (s : State) : (setRecord i r s).pending = s.pending := rfl
@[simp] theorem setRecord_free (i : Nat) (r : Record) (s : State) : (setRecord i r s).free = s.free := rfl
@[simp] theorem setRecord_srst (i : Nat) (r : Record) (s : State) : (setRecord i r s).srst = s.srst := rfl
@[simp] theorem setRecord_rom (i : Nat) (r : Record) (s : State) : (setRecord i r s).rom = s.rom := rfl
@[simp] theorem setRecord_sram (i : Nat) (r : Record) (s : State) : (setRecord i r s).sram = s.sram := rfl
@[simp] theorem setRecord_supply (i : Nat) (r : Record) (s : State) : (setRecord i r s).supply = s.supply := rfl
@[simp] theorem setRecord_link (i : Nat) (r : Record) (s : State) : (setRecord i r s).link = s.link := rfl
@[simp] theorem setRecord_dir (i : Nat) (r : Record) (s : State) : (setRecord i r s).dir = s.dir := rfl
@[simp] theorem setRecord_port (i : Nat) (r : Record) (s : State) : (setRecord i r s).port = s.port := rfl
@[simp] theorem setRecord_clock (i : Nat) (r : Record) (s : State) : (setRecord i r s).clock = s.clock := rfl
@[simp] theorem setRecord_days (i : Nat) (r : Record) (s : State) : (setRecord i r s).days = s.days := rfl
@[simp] theorem setRecord_voices (i : Nat) (r : Record) (s : State) : (setRecord i r s).voices = s.voices := rfl
@[simp] theorem setRecord_mixer (i : Nat) (r : Record) (s : State) : (setRecord i r s).mixer = s.mixer := rfl
@[simp] theorem setRecord_rumble (i : Nat) (r : Record) (s : State) : (setRecord i r s).rumble = s.rumble := rfl

/-! ## setTries -/

@[simp] theorem setTries_pending (i n : Nat) (s : State) : (setTries i n s).pending = s.pending := rfl
@[simp] theorem setTries_free (i n : Nat) (s : State) : (setTries i n s).free = s.free := rfl
@[simp] theorem setTries_srst (i n : Nat) (s : State) : (setTries i n s).srst = s.srst := rfl
@[simp] theorem setTries_rom (i n : Nat) (s : State) : (setTries i n s).rom = s.rom := rfl
@[simp] theorem setTries_sram (i n : Nat) (s : State) : (setTries i n s).sram = s.sram := rfl
@[simp] theorem setTries_supply (i n : Nat) (s : State) : (setTries i n s).supply = s.supply := rfl
@[simp] theorem setTries_link (i n : Nat) (s : State) : (setTries i n s).link = s.link := rfl
@[simp] theorem setTries_dir (i n : Nat) (s : State) : (setTries i n s).dir = s.dir := rfl
@[simp] theorem setTries_port (i n : Nat) (s : State) : (setTries i n s).port = s.port := rfl
@[simp] theorem setTries_clock (i n : Nat) (s : State) : (setTries i n s).clock = s.clock := rfl
@[simp] theorem setTries_days (i n : Nat) (s : State) : (setTries i n s).days = s.days := rfl
@[simp] theorem setTries_voices (i n : Nat) (s : State) : (setTries i n s).voices = s.voices := rfl
@[simp] theorem setTries_mixer (i n : Nat) (s : State) : (setTries i n s).mixer = s.mixer := rfl
@[simp] theorem setTries_rumble (i n : Nat) (s : State) : (setTries i n s).rumble = s.rumble := rfl

/-! ## setVoice -/

@[simp] theorem setVoice_pending (n : Nat) (v : Voice) (s : State) : (setVoice n v s).pending = s.pending := rfl
@[simp] theorem setVoice_free (n : Nat) (v : Voice) (s : State) : (setVoice n v s).free = s.free := rfl
@[simp] theorem setVoice_srst (n : Nat) (v : Voice) (s : State) : (setVoice n v s).srst = s.srst := rfl
@[simp] theorem setVoice_rom (n : Nat) (v : Voice) (s : State) : (setVoice n v s).rom = s.rom := rfl
@[simp] theorem setVoice_sram (n : Nat) (v : Voice) (s : State) : (setVoice n v s).sram = s.sram := rfl
@[simp] theorem setVoice_supply (n : Nat) (v : Voice) (s : State) : (setVoice n v s).supply = s.supply := rfl
@[simp] theorem setVoice_link (n : Nat) (v : Voice) (s : State) : (setVoice n v s).link = s.link := rfl
@[simp] theorem setVoice_dir (n : Nat) (v : Voice) (s : State) : (setVoice n v s).dir = s.dir := rfl
@[simp] theorem setVoice_port (n : Nat) (v : Voice) (s : State) : (setVoice n v s).port = s.port := rfl
@[simp] theorem setVoice_save (n : Nat) (v : Voice) (s : State) : (setVoice n v s).save = s.save := rfl
@[simp] theorem setVoice_clock (n : Nat) (v : Voice) (s : State) : (setVoice n v s).clock = s.clock := rfl
@[simp] theorem setVoice_days (n : Nat) (v : Voice) (s : State) : (setVoice n v s).days = s.days := rfl
@[simp] theorem setVoice_mixer (n : Nat) (v : Voice) (s : State) : (setVoice n v s).mixer = s.mixer := rfl
@[simp] theorem setVoice_rumble (n : Nat) (v : Voice) (s : State) : (setVoice n v s).rumble = s.rumble := rfl

/-! ## setDays -/

@[simp] theorem setDays_pending (d : Days) (s : State) : (setDays d s).pending = s.pending := rfl
@[simp] theorem setDays_free (d : Days) (s : State) : (setDays d s).free = s.free := rfl
@[simp] theorem setDays_srst (d : Days) (s : State) : (setDays d s).srst = s.srst := rfl
@[simp] theorem setDays_rom (d : Days) (s : State) : (setDays d s).rom = s.rom := rfl
@[simp] theorem setDays_sram (d : Days) (s : State) : (setDays d s).sram = s.sram := rfl
@[simp] theorem setDays_supply (d : Days) (s : State) : (setDays d s).supply = s.supply := rfl
@[simp] theorem setDays_link (d : Days) (s : State) : (setDays d s).link = s.link := rfl
@[simp] theorem setDays_dir (d : Days) (s : State) : (setDays d s).dir = s.dir := rfl
@[simp] theorem setDays_port (d : Days) (s : State) : (setDays d s).port = s.port := rfl
@[simp] theorem setDays_save (d : Days) (s : State) : (setDays d s).save = s.save := rfl
@[simp] theorem setDays_clock (d : Days) (s : State) : (setDays d s).clock = s.clock := rfl
@[simp] theorem setDays_voices (d : Days) (s : State) : (setDays d s).voices = s.voices := rfl
@[simp] theorem setDays_mixer (d : Days) (s : State) : (setDays d s).mixer = s.mixer := rfl
@[simp] theorem setDays_rumble (d : Days) (s : State) : (setDays d s).rumble = s.rumble := rfl

/-! ## setRumble -/

@[simp] theorem setRumble_pending (r : Rumble) (s : State) : (setRumble r s).pending = s.pending := rfl
@[simp] theorem setRumble_free (r : Rumble) (s : State) : (setRumble r s).free = s.free := rfl
@[simp] theorem setRumble_srst (r : Rumble) (s : State) : (setRumble r s).srst = s.srst := rfl
@[simp] theorem setRumble_rom (r : Rumble) (s : State) : (setRumble r s).rom = s.rom := rfl
@[simp] theorem setRumble_sram (r : Rumble) (s : State) : (setRumble r s).sram = s.sram := rfl
@[simp] theorem setRumble_supply (r : Rumble) (s : State) : (setRumble r s).supply = s.supply := rfl
@[simp] theorem setRumble_link (r : Rumble) (s : State) : (setRumble r s).link = s.link := rfl
@[simp] theorem setRumble_dir (r : Rumble) (s : State) : (setRumble r s).dir = s.dir := rfl
@[simp] theorem setRumble_port (r : Rumble) (s : State) : (setRumble r s).port = s.port := rfl
@[simp] theorem setRumble_save (r : Rumble) (s : State) : (setRumble r s).save = s.save := rfl
@[simp] theorem setRumble_clock (r : Rumble) (s : State) : (setRumble r s).clock = s.clock := rfl
@[simp] theorem setRumble_days (r : Rumble) (s : State) : (setRumble r s).days = s.days := rfl
@[simp] theorem setRumble_voices (r : Rumble) (s : State) : (setRumble r s).voices = s.voices := rfl
@[simp] theorem setRumble_mixer (r : Rumble) (s : State) : (setRumble r s).mixer = s.mixer := rfl

/-! ## setPresent -/

@[simp] theorem setPresent_pending (i : Nat) (p : Bool) (s : State) : (setPresent i p s).pending = s.pending := rfl
@[simp] theorem setPresent_free (i : Nat) (p : Bool) (s : State) : (setPresent i p s).free = s.free := rfl
@[simp] theorem setPresent_srst (i : Nat) (p : Bool) (s : State) : (setPresent i p s).srst = s.srst := rfl
@[simp] theorem setPresent_rom (i : Nat) (p : Bool) (s : State) : (setPresent i p s).rom = s.rom := rfl
@[simp] theorem setPresent_sram (i : Nat) (p : Bool) (s : State) : (setPresent i p s).sram = s.sram := rfl
@[simp] theorem setPresent_supply (i : Nat) (p : Bool) (s : State) : (setPresent i p s).supply = s.supply := rfl
@[simp] theorem setPresent_link (i : Nat) (p : Bool) (s : State) : (setPresent i p s).link = s.link := rfl
@[simp] theorem setPresent_port (i : Nat) (p : Bool) (s : State) : (setPresent i p s).port = s.port := rfl
@[simp] theorem setPresent_save (i : Nat) (p : Bool) (s : State) : (setPresent i p s).save = s.save := rfl
@[simp] theorem setPresent_clock (i : Nat) (p : Bool) (s : State) : (setPresent i p s).clock = s.clock := rfl
@[simp] theorem setPresent_days (i : Nat) (p : Bool) (s : State) : (setPresent i p s).days = s.days := rfl
@[simp] theorem setPresent_voices (i : Nat) (p : Bool) (s : State) : (setPresent i p s).voices = s.voices := rfl
@[simp] theorem setPresent_mixer (i : Nat) (p : Bool) (s : State) : (setPresent i p s).mixer = s.mixer := rfl
@[simp] theorem setPresent_rumble (i : Nat) (p : Bool) (s : State) : (setPresent i p s).rumble = s.rumble := rfl

/-! ## freeBus -/

@[simp] theorem freeBus_pending (s : State) : (freeBus s).pending = s.pending := rfl
@[simp] theorem freeBus_free (s : State) : (freeBus s).free = s.free := rfl
@[simp] theorem freeBus_srst (s : State) : (freeBus s).srst = s.srst := rfl
@[simp] theorem freeBus_rom (s : State) : (freeBus s).rom = s.rom := rfl
@[simp] theorem freeBus_sram (s : State) : (freeBus s).sram = s.sram := rfl
@[simp] theorem freeBus_supply (s : State) : (freeBus s).supply = s.supply := rfl
@[simp] theorem freeBus_link (s : State) : (freeBus s).link = s.link := rfl
@[simp] theorem freeBus_dir (s : State) : (freeBus s).dir = s.dir := rfl
@[simp] theorem freeBus_save (s : State) : (freeBus s).save = s.save := rfl
@[simp] theorem freeBus_clock (s : State) : (freeBus s).clock = s.clock := rfl
@[simp] theorem freeBus_days (s : State) : (freeBus s).days = s.days := rfl
@[simp] theorem freeBus_voices (s : State) : (freeBus s).voices = s.voices := rfl
@[simp] theorem freeBus_mixer (s : State) : (freeBus s).mixer = s.mixer := rfl
@[simp] theorem freeBus_rumble (s : State) : (freeBus s).rumble = s.rumble := rfl

/-! ## postRefills -/

@[simp] theorem postRefills_pending (s : State) : (postRefills s).pending = s.pending := rfl
@[simp] theorem postRefills_free (s : State) : (postRefills s).free = s.free := rfl
@[simp] theorem postRefills_srst (s : State) : (postRefills s).srst = s.srst := rfl
@[simp] theorem postRefills_rom (s : State) : (postRefills s).rom = s.rom := rfl
@[simp] theorem postRefills_sram (s : State) : (postRefills s).sram = s.sram := rfl
@[simp] theorem postRefills_supply (s : State) : (postRefills s).supply = s.supply := rfl
@[simp] theorem postRefills_link (s : State) : (postRefills s).link = s.link := rfl
@[simp] theorem postRefills_dir (s : State) : (postRefills s).dir = s.dir := rfl
@[simp] theorem postRefills_save (s : State) : (postRefills s).save = s.save := rfl
@[simp] theorem postRefills_clock (s : State) : (postRefills s).clock = s.clock := rfl
@[simp] theorem postRefills_days (s : State) : (postRefills s).days = s.days := rfl
@[simp] theorem postRefills_voices (s : State) : (postRefills s).voices = s.voices := rfl
@[simp] theorem postRefills_mixer (s : State) : (postRefills s).mixer = s.mixer := rfl
@[simp] theorem postRefills_rumble (s : State) : (postRefills s).rumble = s.rumble := rfl

/-! ## recompute -/

@[simp] theorem recompute_pending (s : State) : (recompute s).pending = s.pending := rfl
@[simp] theorem recompute_free (s : State) : (recompute s).free = s.free := rfl
@[simp] theorem recompute_srst (s : State) : (recompute s).srst = s.srst := rfl
@[simp] theorem recompute_rom (s : State) : (recompute s).rom = s.rom := rfl
@[simp] theorem recompute_sram (s : State) : (recompute s).sram = s.sram := rfl
@[simp] theorem recompute_supply (s : State) : (recompute s).supply = s.supply := rfl
@[simp] theorem recompute_link (s : State) : (recompute s).link = s.link := rfl
@[simp] theorem recompute_dir (s : State) : (recompute s).dir = s.dir := rfl
@[simp] theorem recompute_port (s : State) : (recompute s).port = s.port := rfl
@[simp] theorem recompute_save (s : State) : (recompute s).save = s.save := rfl
@[simp] theorem recompute_clock (s : State) : (recompute s).clock = s.clock := rfl
@[simp] theorem recompute_days (s : State) : (recompute s).days = s.days := rfl
@[simp] theorem recompute_voices (s : State) : (recompute s).voices = s.voices := rfl
@[simp] theorem recompute_mixer (s : State) : (recompute s).mixer = s.mixer := rfl

/-! ## deselect -/

@[simp] theorem deselect_pending (s : State) : (deselect s).pending = s.pending := rfl
@[simp] theorem deselect_free (s : State) : (deselect s).free = s.free := rfl
@[simp] theorem deselect_srst (s : State) : (deselect s).srst = s.srst := rfl
@[simp] theorem deselect_rom (s : State) : (deselect s).rom = s.rom := rfl
@[simp] theorem deselect_sram (s : State) : (deselect s).sram = s.sram := rfl
@[simp] theorem deselect_supply (s : State) : (deselect s).supply = s.supply := rfl
@[simp] theorem deselect_dir (s : State) : (deselect s).dir = s.dir := rfl
@[simp] theorem deselect_port (s : State) : (deselect s).port = s.port := rfl
@[simp] theorem deselect_save (s : State) : (deselect s).save = s.save := rfl
@[simp] theorem deselect_clock (s : State) : (deselect s).clock = s.clock := rfl
@[simp] theorem deselect_days (s : State) : (deselect s).days = s.days := rfl
@[simp] theorem deselect_voices (s : State) : (deselect s).voices = s.voices := rfl
@[simp] theorem deselect_mixer (s : State) : (deselect s).mixer = s.mixer := rfl
@[simp] theorem deselect_rumble (s : State) : (deselect s).rumble = s.rumble := rfl

/-! ## replyWith -/

@[simp] theorem replyWith_pending (st : Status) (tag : Byte) (p : List Byte) (due : Bool) (s : State) : (replyWith st tag p due s).pending = s.pending := rfl
@[simp] theorem replyWith_free (st : Status) (tag : Byte) (p : List Byte) (due : Bool) (s : State) : (replyWith st tag p due s).free = s.free := rfl
@[simp] theorem replyWith_srst (st : Status) (tag : Byte) (p : List Byte) (due : Bool) (s : State) : (replyWith st tag p due s).srst = s.srst := rfl
@[simp] theorem replyWith_rom (st : Status) (tag : Byte) (p : List Byte) (due : Bool) (s : State) : (replyWith st tag p due s).rom = s.rom := rfl
@[simp] theorem replyWith_sram (st : Status) (tag : Byte) (p : List Byte) (due : Bool) (s : State) : (replyWith st tag p due s).sram = s.sram := rfl
@[simp] theorem replyWith_supply (st : Status) (tag : Byte) (p : List Byte) (due : Bool) (s : State) : (replyWith st tag p due s).supply = s.supply := rfl
@[simp] theorem replyWith_dir (st : Status) (tag : Byte) (p : List Byte) (due : Bool) (s : State) : (replyWith st tag p due s).dir = s.dir := rfl
@[simp] theorem replyWith_port (st : Status) (tag : Byte) (p : List Byte) (due : Bool) (s : State) : (replyWith st tag p due s).port = s.port := rfl
@[simp] theorem replyWith_save (st : Status) (tag : Byte) (p : List Byte) (due : Bool) (s : State) : (replyWith st tag p due s).save = s.save := rfl
@[simp] theorem replyWith_clock (st : Status) (tag : Byte) (p : List Byte) (due : Bool) (s : State) : (replyWith st tag p due s).clock = s.clock := rfl
@[simp] theorem replyWith_days (st : Status) (tag : Byte) (p : List Byte) (due : Bool) (s : State) : (replyWith st tag p due s).days = s.days := rfl
@[simp] theorem replyWith_voices (st : Status) (tag : Byte) (p : List Byte) (due : Bool) (s : State) : (replyWith st tag p due s).voices = s.voices := rfl
@[simp] theorem replyWith_mixer (st : Status) (tag : Byte) (p : List Byte) (due : Bool) (s : State) : (replyWith st tag p due s).mixer = s.mixer := rfl
@[simp] theorem replyWith_rumble (st : Status) (tag : Byte) (p : List Byte) (due : Bool) (s : State) : (replyWith st tag p due s).rumble = s.rumble := rfl

/-! ## withdrawLinkRead -/

@[simp] theorem withdrawLinkRead_pending (s : State) : (withdrawLinkRead s).pending = s.pending := rfl
@[simp] theorem withdrawLinkRead_free (s : State) : (withdrawLinkRead s).free = s.free := rfl
@[simp] theorem withdrawLinkRead_srst (s : State) : (withdrawLinkRead s).srst = s.srst := rfl
@[simp] theorem withdrawLinkRead_rom (s : State) : (withdrawLinkRead s).rom = s.rom := rfl
@[simp] theorem withdrawLinkRead_sram (s : State) : (withdrawLinkRead s).sram = s.sram := rfl
@[simp] theorem withdrawLinkRead_supply (s : State) : (withdrawLinkRead s).supply = s.supply := rfl
@[simp] theorem withdrawLinkRead_link (s : State) : (withdrawLinkRead s).link = s.link := rfl
@[simp] theorem withdrawLinkRead_dir (s : State) : (withdrawLinkRead s).dir = s.dir := rfl
@[simp] theorem withdrawLinkRead_save (s : State) : (withdrawLinkRead s).save = s.save := rfl
@[simp] theorem withdrawLinkRead_clock (s : State) : (withdrawLinkRead s).clock = s.clock := rfl
@[simp] theorem withdrawLinkRead_days (s : State) : (withdrawLinkRead s).days = s.days := rfl
@[simp] theorem withdrawLinkRead_voices (s : State) : (withdrawLinkRead s).voices = s.voices := rfl
@[simp] theorem withdrawLinkRead_mixer (s : State) : (withdrawLinkRead s).mixer = s.mixer := rfl
@[simp] theorem withdrawLinkRead_rumble (s : State) : (withdrawLinkRead s).rumble = s.rumble := rfl

/-! ## countFrame -/

@[simp] theorem countFrame_pending (s : State) : (countFrame s).pending = s.pending := rfl
@[simp] theorem countFrame_free (s : State) : (countFrame s).free = s.free := rfl
@[simp] theorem countFrame_srst (s : State) : (countFrame s).srst = s.srst := rfl
@[simp] theorem countFrame_rom (s : State) : (countFrame s).rom = s.rom := rfl
@[simp] theorem countFrame_sram (s : State) : (countFrame s).sram = s.sram := rfl
@[simp] theorem countFrame_supply (s : State) : (countFrame s).supply = s.supply := rfl
@[simp] theorem countFrame_link (s : State) : (countFrame s).link = s.link := rfl
@[simp] theorem countFrame_dir (s : State) : (countFrame s).dir = s.dir := rfl
@[simp] theorem countFrame_port (s : State) : (countFrame s).port = s.port := rfl
@[simp] theorem countFrame_save (s : State) : (countFrame s).save = s.save := rfl
@[simp] theorem countFrame_days (s : State) : (countFrame s).days = s.days := rfl
@[simp] theorem countFrame_voices (s : State) : (countFrame s).voices = s.voices := rfl
@[simp] theorem countFrame_mixer (s : State) : (countFrame s).mixer = s.mixer := rfl
@[simp] theorem countFrame_rumble (s : State) : (countFrame s).rumble = s.rumble := rfl

/-! ## silence -/

@[simp] theorem silence_pending (s : State) : (silence s).pending = s.pending := rfl
@[simp] theorem silence_free (s : State) : (silence s).free = s.free := rfl
@[simp] theorem silence_srst (s : State) : (silence s).srst = s.srst := rfl
@[simp] theorem silence_rom (s : State) : (silence s).rom = s.rom := rfl
@[simp] theorem silence_sram (s : State) : (silence s).sram = s.sram := rfl
@[simp] theorem silence_supply (s : State) : (silence s).supply = s.supply := rfl
@[simp] theorem silence_link (s : State) : (silence s).link = s.link := rfl
@[simp] theorem silence_dir (s : State) : (silence s).dir = s.dir := rfl
@[simp] theorem silence_port (s : State) : (silence s).port = s.port := rfl
@[simp] theorem silence_save (s : State) : (silence s).save = s.save := rfl
@[simp] theorem silence_clock (s : State) : (silence s).clock = s.clock := rfl
@[simp] theorem silence_days (s : State) : (silence s).days = s.days := rfl
@[simp] theorem silence_voices (s : State) : (silence s).voices = s.voices := rfl
@[simp] theorem silence_rumble (s : State) : (silence s).rumble = s.rumble := rfl

/-! ## beginMeasurement -/

@[simp] theorem beginMeasurement_pending (s : State) : (beginMeasurement s).pending = s.pending := rfl
@[simp] theorem beginMeasurement_free (s : State) : (beginMeasurement s).free = s.free := rfl
@[simp] theorem beginMeasurement_srst (s : State) : (beginMeasurement s).srst = s.srst := rfl
@[simp] theorem beginMeasurement_rom (s : State) : (beginMeasurement s).rom = s.rom := rfl
@[simp] theorem beginMeasurement_sram (s : State) : (beginMeasurement s).sram = s.sram := rfl
@[simp] theorem beginMeasurement_link (s : State) : (beginMeasurement s).link = s.link := rfl
@[simp] theorem beginMeasurement_dir (s : State) : (beginMeasurement s).dir = s.dir := rfl
@[simp] theorem beginMeasurement_port (s : State) : (beginMeasurement s).port = s.port := rfl
@[simp] theorem beginMeasurement_save (s : State) : (beginMeasurement s).save = s.save := rfl
@[simp] theorem beginMeasurement_clock (s : State) : (beginMeasurement s).clock = s.clock := rfl
@[simp] theorem beginMeasurement_days (s : State) : (beginMeasurement s).days = s.days := rfl
@[simp] theorem beginMeasurement_voices (s : State) : (beginMeasurement s).voices = s.voices := rfl
@[simp] theorem beginMeasurement_mixer (s : State) : (beginMeasurement s).mixer = s.mixer := rfl
@[simp] theorem beginMeasurement_rumble (s : State) : (beginMeasurement s).rumble = s.rumble := rfl

/-! ## passTo -/

@[simp] theorem passTo_pending (n : Nat) (s : State) : (passTo n s).pending = s.pending := rfl
@[simp] theorem passTo_free (n : Nat) (s : State) : (passTo n s).free = s.free := rfl
@[simp] theorem passTo_srst (n : Nat) (s : State) : (passTo n s).srst = s.srst := rfl
@[simp] theorem passTo_rom (n : Nat) (s : State) : (passTo n s).rom = s.rom := rfl
@[simp] theorem passTo_sram (n : Nat) (s : State) : (passTo n s).sram = s.sram := rfl
@[simp] theorem passTo_link (n : Nat) (s : State) : (passTo n s).link = s.link := rfl
@[simp] theorem passTo_dir (n : Nat) (s : State) : (passTo n s).dir = s.dir := rfl
@[simp] theorem passTo_port (n : Nat) (s : State) : (passTo n s).port = s.port := rfl
@[simp] theorem passTo_save (n : Nat) (s : State) : (passTo n s).save = s.save := rfl
@[simp] theorem passTo_clock (n : Nat) (s : State) : (passTo n s).clock = s.clock := rfl
@[simp] theorem passTo_days (n : Nat) (s : State) : (passTo n s).days = s.days := rfl
@[simp] theorem passTo_voices (n : Nat) (s : State) : (passTo n s).voices = s.voices := rfl
@[simp] theorem passTo_mixer (n : Nat) (s : State) : (passTo n s).mixer = s.mixer := rfl
@[simp] theorem passTo_rumble (n : Nat) (s : State) : (passTo n s).rumble = s.rumble := rfl

/-! ## markWaiting -/

@[simp] theorem markWaiting_pending (s : State) : (markWaiting s).pending = s.pending := rfl
@[simp] theorem markWaiting_free (s : State) : (markWaiting s).free = s.free := rfl
@[simp] theorem markWaiting_srst (s : State) : (markWaiting s).srst = s.srst := rfl
@[simp] theorem markWaiting_rom (s : State) : (markWaiting s).rom = s.rom := rfl
@[simp] theorem markWaiting_sram (s : State) : (markWaiting s).sram = s.sram := rfl
@[simp] theorem markWaiting_link (s : State) : (markWaiting s).link = s.link := rfl
@[simp] theorem markWaiting_dir (s : State) : (markWaiting s).dir = s.dir := rfl
@[simp] theorem markWaiting_port (s : State) : (markWaiting s).port = s.port := rfl
@[simp] theorem markWaiting_save (s : State) : (markWaiting s).save = s.save := rfl
@[simp] theorem markWaiting_clock (s : State) : (markWaiting s).clock = s.clock := rfl
@[simp] theorem markWaiting_days (s : State) : (markWaiting s).days = s.days := rfl
@[simp] theorem markWaiting_voices (s : State) : (markWaiting s).voices = s.voices := rfl
@[simp] theorem markWaiting_mixer (s : State) : (markWaiting s).mixer = s.mixer := rfl
@[simp] theorem markWaiting_rumble (s : State) : (markWaiting s).rumble = s.rumble := rfl

/-! ## passOn -/

@[simp] theorem passOn_pending (s : State) : (passOn s).pending = s.pending := rfl
@[simp] theorem passOn_free (s : State) : (passOn s).free = s.free := rfl
@[simp] theorem passOn_srst (s : State) : (passOn s).srst = s.srst := rfl
@[simp] theorem passOn_rom (s : State) : (passOn s).rom = s.rom := rfl
@[simp] theorem passOn_sram (s : State) : (passOn s).sram = s.sram := rfl
@[simp] theorem passOn_link (s : State) : (passOn s).link = s.link := rfl
@[simp] theorem passOn_dir (s : State) : (passOn s).dir = s.dir := rfl
@[simp] theorem passOn_port (s : State) : (passOn s).port = s.port := rfl
@[simp] theorem passOn_save (s : State) : (passOn s).save = s.save := rfl
@[simp] theorem passOn_clock (s : State) : (passOn s).clock = s.clock := rfl
@[simp] theorem passOn_days (s : State) : (passOn s).days = s.days := rfl
@[simp] theorem passOn_voices (s : State) : (passOn s).voices = s.voices := rfl
@[simp] theorem passOn_mixer (s : State) : (passOn s).mixer = s.mixer := rfl
@[simp] theorem passOn_rumble (s : State) : (passOn s).rumble = s.rumble := rfl

/-! ## setVslot -/

@[simp] theorem setVslot_pending (mv : Nat) (s : State) : (setVslot mv s).pending = s.pending := rfl
@[simp] theorem setVslot_free (mv : Nat) (s : State) : (setVslot mv s).free = s.free := rfl
@[simp] theorem setVslot_srst (mv : Nat) (s : State) : (setVslot mv s).srst = s.srst := rfl
@[simp] theorem setVslot_rom (mv : Nat) (s : State) : (setVslot mv s).rom = s.rom := rfl
@[simp] theorem setVslot_sram (mv : Nat) (s : State) : (setVslot mv s).sram = s.sram := rfl
@[simp] theorem setVslot_link (mv : Nat) (s : State) : (setVslot mv s).link = s.link := rfl
@[simp] theorem setVslot_dir (mv : Nat) (s : State) : (setVslot mv s).dir = s.dir := rfl
@[simp] theorem setVslot_port (mv : Nat) (s : State) : (setVslot mv s).port = s.port := rfl
@[simp] theorem setVslot_save (mv : Nat) (s : State) : (setVslot mv s).save = s.save := rfl
@[simp] theorem setVslot_clock (mv : Nat) (s : State) : (setVslot mv s).clock = s.clock := rfl
@[simp] theorem setVslot_days (mv : Nat) (s : State) : (setVslot mv s).days = s.days := rfl
@[simp] theorem setVslot_voices (mv : Nat) (s : State) : (setVslot mv s).voices = s.voices := rfl
@[simp] theorem setVslot_mixer (mv : Nat) (s : State) : (setVslot mv s).mixer = s.mixer := rfl
@[simp] theorem setVslot_rumble (mv : Nat) (s : State) : (setVslot mv s).rumble = s.rumble := rfl

/-! ## dropCopy -/

@[simp] theorem dropCopy_pending (s : State) : (dropCopy s).pending = s.pending := rfl
@[simp] theorem dropCopy_free (s : State) : (dropCopy s).free = s.free := rfl
@[simp] theorem dropCopy_srst (s : State) : (dropCopy s).srst = s.srst := rfl
@[simp] theorem dropCopy_rom (s : State) : (dropCopy s).rom = s.rom := rfl
@[simp] theorem dropCopy_sram (s : State) : (dropCopy s).sram = s.sram := rfl
@[simp] theorem dropCopy_supply (s : State) : (dropCopy s).supply = s.supply := rfl
@[simp] theorem dropCopy_link (s : State) : (dropCopy s).link = s.link := rfl
@[simp] theorem dropCopy_dir (s : State) : (dropCopy s).dir = s.dir := rfl
@[simp] theorem dropCopy_port (s : State) : (dropCopy s).port = s.port := rfl
@[simp] theorem dropCopy_clock (s : State) : (dropCopy s).clock = s.clock := rfl
@[simp] theorem dropCopy_days (s : State) : (dropCopy s).days = s.days := rfl
@[simp] theorem dropCopy_voices (s : State) : (dropCopy s).voices = s.voices := rfl
@[simp] theorem dropCopy_mixer (s : State) : (dropCopy s).mixer = s.mixer := rfl
@[simp] theorem dropCopy_rumble (s : State) : (dropCopy s).rumble = s.rumble := rfl

/-! ## postLinkRead -/

@[simp] theorem postLinkRead_pending (r : LinkRead) (s : State) : (postLinkRead r s).pending = s.pending := rfl
@[simp] theorem postLinkRead_free (r : LinkRead) (s : State) : (postLinkRead r s).free = s.free := rfl
@[simp] theorem postLinkRead_srst (r : LinkRead) (s : State) : (postLinkRead r s).srst = s.srst := rfl
@[simp] theorem postLinkRead_rom (r : LinkRead) (s : State) : (postLinkRead r s).rom = s.rom := rfl
@[simp] theorem postLinkRead_sram (r : LinkRead) (s : State) : (postLinkRead r s).sram = s.sram := rfl
@[simp] theorem postLinkRead_supply (r : LinkRead) (s : State) : (postLinkRead r s).supply = s.supply := rfl
@[simp] theorem postLinkRead_link (r : LinkRead) (s : State) : (postLinkRead r s).link = s.link := rfl
@[simp] theorem postLinkRead_dir (r : LinkRead) (s : State) : (postLinkRead r s).dir = s.dir := rfl
@[simp] theorem postLinkRead_save (r : LinkRead) (s : State) : (postLinkRead r s).save = s.save := rfl
@[simp] theorem postLinkRead_clock (r : LinkRead) (s : State) : (postLinkRead r s).clock = s.clock := rfl
@[simp] theorem postLinkRead_days (r : LinkRead) (s : State) : (postLinkRead r s).days = s.days := rfl
@[simp] theorem postLinkRead_voices (r : LinkRead) (s : State) : (postLinkRead r s).voices = s.voices := rfl
@[simp] theorem postLinkRead_mixer (r : LinkRead) (s : State) : (postLinkRead r s).mixer = s.mixer := rfl
@[simp] theorem postLinkRead_rumble (r : LinkRead) (s : State) : (postLinkRead r s).rumble = s.rumble := rfl

/-! ## postScan -/

@[simp] theorem postScan_pending (sc : Scan) (s : State) : (postScan sc s).pending = s.pending := rfl
@[simp] theorem postScan_free (sc : Scan) (s : State) : (postScan sc s).free = s.free := rfl
@[simp] theorem postScan_srst (sc : Scan) (s : State) : (postScan sc s).srst = s.srst := rfl
@[simp] theorem postScan_rom (sc : Scan) (s : State) : (postScan sc s).rom = s.rom := rfl
@[simp] theorem postScan_sram (sc : Scan) (s : State) : (postScan sc s).sram = s.sram := rfl
@[simp] theorem postScan_supply (sc : Scan) (s : State) : (postScan sc s).supply = s.supply := rfl
@[simp] theorem postScan_link (sc : Scan) (s : State) : (postScan sc s).link = s.link := rfl
@[simp] theorem postScan_dir (sc : Scan) (s : State) : (postScan sc s).dir = s.dir := rfl
@[simp] theorem postScan_clock (sc : Scan) (s : State) : (postScan sc s).clock = s.clock := rfl
@[simp] theorem postScan_days (sc : Scan) (s : State) : (postScan sc s).days = s.days := rfl
@[simp] theorem postScan_voices (sc : Scan) (s : State) : (postScan sc s).voices = s.voices := rfl
@[simp] theorem postScan_mixer (sc : Scan) (s : State) : (postScan sc s).mixer = s.mixer := rfl
@[simp] theorem postScan_rumble (sc : Scan) (s : State) : (postScan sc s).rumble = s.rumble := rfl

/-! ## postLoad -/

@[simp] theorem postLoad_pending (st : LoadStep) (s : State) : (postLoad st s).pending = s.pending := rfl
@[simp] theorem postLoad_free (st : LoadStep) (s : State) : (postLoad st s).free = s.free := rfl
@[simp] theorem postLoad_srst (st : LoadStep) (s : State) : (postLoad st s).srst = s.srst := rfl
@[simp] theorem postLoad_rom (st : LoadStep) (s : State) : (postLoad st s).rom = s.rom := rfl
@[simp] theorem postLoad_sram (st : LoadStep) (s : State) : (postLoad st s).sram = s.sram := rfl
@[simp] theorem postLoad_supply (st : LoadStep) (s : State) : (postLoad st s).supply = s.supply := rfl
@[simp] theorem postLoad_link (st : LoadStep) (s : State) : (postLoad st s).link = s.link := rfl
@[simp] theorem postLoad_save (st : LoadStep) (s : State) : (postLoad st s).save = s.save := rfl
@[simp] theorem postLoad_clock (st : LoadStep) (s : State) : (postLoad st s).clock = s.clock := rfl
@[simp] theorem postLoad_days (st : LoadStep) (s : State) : (postLoad st s).days = s.days := rfl
@[simp] theorem postLoad_voices (st : LoadStep) (s : State) : (postLoad st s).voices = s.voices := rfl
@[simp] theorem postLoad_mixer (st : LoadStep) (s : State) : (postLoad st s).mixer = s.mixer := rfl
@[simp] theorem postLoad_rumble (st : LoadStep) (s : State) : (postLoad st s).rumble = s.rumble := rfl

/-! ## notify -/

@[simp] theorem notify_pending (n : Notice) (s : State) : (notify n s).pending = s.pending := by unfold notify; split <;> rfl
@[simp] theorem notify_free (n : Notice) (s : State) : (notify n s).free = s.free := by unfold notify; split <;> rfl
@[simp] theorem notify_srst (n : Notice) (s : State) : (notify n s).srst = s.srst := by unfold notify; split <;> rfl
@[simp] theorem notify_rom (n : Notice) (s : State) : (notify n s).rom = s.rom := by unfold notify; split <;> rfl
@[simp] theorem notify_sram (n : Notice) (s : State) : (notify n s).sram = s.sram := by unfold notify; split <;> rfl
@[simp] theorem notify_supply (n : Notice) (s : State) : (notify n s).supply = s.supply := by unfold notify; split <;> rfl
@[simp] theorem notify_dir (n : Notice) (s : State) : (notify n s).dir = s.dir := by unfold notify; split <;> rfl
@[simp] theorem notify_port (n : Notice) (s : State) : (notify n s).port = s.port := by unfold notify; split <;> rfl
@[simp] theorem notify_save (n : Notice) (s : State) : (notify n s).save = s.save := by unfold notify; split <;> rfl
@[simp] theorem notify_clock (n : Notice) (s : State) : (notify n s).clock = s.clock := by unfold notify; split <;> rfl
@[simp] theorem notify_days (n : Notice) (s : State) : (notify n s).days = s.days := by unfold notify; split <;> rfl
@[simp] theorem notify_voices (n : Notice) (s : State) : (notify n s).voices = s.voices := by unfold notify; split <;> rfl
@[simp] theorem notify_mixer (n : Notice) (s : State) : (notify n s).mixer = s.mixer := by unfold notify; split <;> rfl
@[simp] theorem notify_rumble (n : Notice) (s : State) : (notify n s).rumble = s.rumble := by unfold notify; split <;> rfl

/-! ## staleRefill -/

@[simp] theorem staleRefill_pending (n : Nat) (s : State) : (staleRefill n s).pending = s.pending := by
  unfold staleRefill
  split
  · split <;> rfl
  · rfl
@[simp] theorem staleRefill_free (n : Nat) (s : State) : (staleRefill n s).free = s.free := by
  unfold staleRefill
  split
  · split <;> rfl
  · rfl
@[simp] theorem staleRefill_srst (n : Nat) (s : State) : (staleRefill n s).srst = s.srst := by
  unfold staleRefill
  split
  · split <;> rfl
  · rfl
@[simp] theorem staleRefill_rom (n : Nat) (s : State) : (staleRefill n s).rom = s.rom := by
  unfold staleRefill
  split
  · split <;> rfl
  · rfl
@[simp] theorem staleRefill_sram (n : Nat) (s : State) : (staleRefill n s).sram = s.sram := by
  unfold staleRefill
  split
  · split <;> rfl
  · rfl
@[simp] theorem staleRefill_supply (n : Nat) (s : State) : (staleRefill n s).supply = s.supply := by
  unfold staleRefill
  split
  · split <;> rfl
  · rfl
@[simp] theorem staleRefill_link (n : Nat) (s : State) : (staleRefill n s).link = s.link := by
  unfold staleRefill
  split
  · split <;> rfl
  · rfl
@[simp] theorem staleRefill_dir (n : Nat) (s : State) : (staleRefill n s).dir = s.dir := by
  unfold staleRefill
  split
  · split <;> rfl
  · rfl
@[simp] theorem staleRefill_save (n : Nat) (s : State) : (staleRefill n s).save = s.save := by
  unfold staleRefill
  split
  · split <;> rfl
  · rfl
@[simp] theorem staleRefill_clock (n : Nat) (s : State) : (staleRefill n s).clock = s.clock := by
  unfold staleRefill
  split
  · split <;> rfl
  · rfl
@[simp] theorem staleRefill_days (n : Nat) (s : State) : (staleRefill n s).days = s.days := by
  unfold staleRefill
  split
  · split <;> rfl
  · rfl
@[simp] theorem staleRefill_voices (n : Nat) (s : State) : (staleRefill n s).voices = s.voices := by
  unfold staleRefill
  split
  · split <;> rfl
  · rfl
@[simp] theorem staleRefill_mixer (n : Nat) (s : State) : (staleRefill n s).mixer = s.mixer := by
  unfold staleRefill
  split
  · split <;> rfl
  · rfl
@[simp] theorem staleRefill_rumble (n : Nat) (s : State) : (staleRefill n s).rumble = s.rumble := by
  unfold staleRefill
  split
  · split <;> rfl
  · rfl

/-! ## What a loss of slot power and a start-up keep -/

@[simp] theorem switchOff_pending (s : State) : (switchOff s).pending = s.pending := rfl
@[simp] theorem switchOff_srst (s : State) : (switchOff s).srst = s.srst := rfl
@[simp] theorem switchOff_rom (s : State) : (switchOff s).rom = s.rom := rfl
@[simp] theorem switchOff_clock (s : State) : (switchOff s).clock = s.clock := rfl
@[simp] theorem switchOff_save (s : State) : (switchOff s).save = { kept := s.save.kept } := rfl
@[simp] theorem switchOff_link (s : State) : (switchOff s).link = {} := rfl
@[simp] theorem switchOff_days (s : State) : (switchOff s).days = {} := rfl
@[simp] theorem switchOff_voices (s : State) : (switchOff s).voices = Vector.replicate 8 {} := rfl
@[simp] theorem switchOff_mixer (s : State) : (switchOff s).mixer = {} := rfl
@[simp] theorem switchOff_rumble (s : State) : (switchOff s).rumble = {} := rfl
@[simp] theorem switchOff_port (s : State) : (switchOff s).port = {} := rfl
@[simp] theorem switchOff_dir (s : State) : (switchOff s).dir = {} := rfl
@[simp] theorem comeUp_pending (r : Bool) (s : State) : (comeUp r s).pending = s.pending := rfl
@[simp] theorem comeUp_free (r : Bool) (s : State) : (comeUp r s).free = s.free := rfl
@[simp] theorem comeUp_srst (r : Bool) (s : State) : (comeUp r s).srst = s.srst := rfl
@[simp] theorem comeUp_rom (r : Bool) (s : State) : (comeUp r s).rom = s.rom := rfl
@[simp] theorem comeUp_sram (r : Bool) (s : State) : (comeUp r s).sram = s.sram := rfl
@[simp] theorem comeUp_clock (r : Bool) (s : State) : (comeUp r s).clock = s.clock := rfl
@[simp] theorem comeUp_link (r : Bool) (s : State) : (comeUp r s).link = {} := rfl
@[simp] theorem comeUp_days (r : Bool) (s : State) : (comeUp r s).days = {} := rfl
@[simp] theorem comeUp_voices (r : Bool) (s : State) : (comeUp r s).voices = Vector.replicate 8 {} := rfl
@[simp] theorem comeUp_mixer (r : Bool) (s : State) : (comeUp r s).mixer = {} := rfl
@[simp] theorem comeUp_rumble (r : Bool) (s : State) : (comeUp r s).rumble = {} := rfl
@[simp] theorem comeUp_port (r : Bool) (s : State) : (comeUp r s).port = {} := rfl
@[simp] theorem comeUp_dir (r : Bool) (s : State) : (comeUp r s).dir = {} := rfl

/-! ## What the updates store -/

@[simp] theorem setKept_save (k : Kept) (s : State) : (setKept k s).save = { s.save with kept := k } := rfl
@[simp] theorem setQueue_save (q : List SlotId) (s : State) :
    (setQueue q s).save = { s.save with kept := { s.save.kept with queue := q } } := rfl
@[simp] theorem setOutcome_save (r : OutcomeRecord) (s : State) :
    (setOutcome r s).save = { s.save with kept := { s.save.kept with outcome := some r } } := rfl
@[simp] theorem setSlot_title_save (sl : Slot) (s : State) :
    (setSlot .title sl s).save = { s.save with kept := { s.save.kept with title := sl } } := rfl
@[simp] theorem setSlot_clock_save (sl : Slot) (s : State) :
    (setSlot .clock sl s).save = { s.save with kept := { s.save.kept with clock := sl } } := rfl
@[simp] theorem setRecord_save (i : Nat) (r : Record) (s : State) :
    (setRecord i r s).save
      = { s.save with kept := { s.save.kept with records := s.save.kept.records.setIfInBounds i r } } := rfl
@[simp] theorem setTries_save (i n : Nat) (s : State) :
    (setTries i n s).save = { s.save with tries := s.save.tries.setIfInBounds i n } := rfl
@[simp] theorem setVoice_voices (n : Nat) (v : Voice) (s : State) :
    (setVoice n v s).voices = s.voices.setIfInBounds n v := rfl
@[simp] theorem setDays_days (d : Days) (s : State) : (setDays d s).days = d := rfl
@[simp] theorem setRumble_rumble (r : Rumble) (s : State) : (setRumble r s).rumble = r := rfl
@[simp] theorem dropCopy_save (s : State) : (dropCopy s).save = { s.save with copy := none } := rfl
@[simp] theorem freeBus_port (s : State) : (freeBus s).port = { s.port with burst := none } := rfl
@[simp] theorem replyWith_link (st : Status) (tag : Byte) (p : List Byte) (due : Bool) (s : State) :
    (replyWith st tag p due s).link = { s.link with selection := .replying ⟨st, tag, p⟩ due } := rfl
@[simp] theorem deselect_link (s : State) : (deselect s).link = { s.link with selection := .none } := rfl

/-- A slot just replaced is read back. -/
@[simp] theorem slotAt_setSlot_same (id : SlotId) (sl : Slot) (s : State) : slotAt (setSlot id sl s) id = sl := by
  cases id <;> rfl

/-- Replacing one slot leaves the other. -/
@[simp] theorem slotAt_setSlot_other (id : SlotId) (sl : Slot) (s : State) :
    slotAt (setSlot id sl s) (otherSlot id) = slotAt s (otherSlot id) := by
  cases id <;> rfl

/-- A voice just replaced is read back. -/
theorem voiceAt_setVoice_same (n : Nat) (v : Voice) (s : State) (h : n < 8) : voiceAt (setVoice n v s) n = v := by
  simp [voiceAt, setVoice, h]

/-- Replacing one voice leaves every other. -/
theorem voiceAt_setVoice_other (n m : Nat) (v : Voice) (s : State) (h : n ≠ m) :
    voiceAt (setVoice n v s) m = voiceAt s m := by
  simp only [voiceAt, setVoice, Vector.getElem?_setIfInBounds, if_neg h]

/-- A record just replaced is read back. -/
theorem recordAt_setRecord_same (i : Nat) (r : Record) (s : State) (h : i < 24) :
    recordAt (setRecord i r s) i = r := by
  simp [recordAt, setRecord, h]

/-- Replacing one record leaves every other. -/
theorem recordAt_setRecord_other (i j : Nat) (r : Record) (s : State) (h : i ≠ j) :
    recordAt (setRecord i r s) j = recordAt s j := by
  simp only [recordAt, setRecord, Vector.getElem?_setIfInBounds, if_neg h]

end Sys2Proof.Machine
end

