-- ==== Sys2Proof/Laws/Frames.lean ====
section
/-! SUPPORT. The fields that each shared operation leaves as they were, one lemma for each, built up from those of
`Laws/State.lean`. -/

namespace Sys2Proof.Machine

/-! ## setOrder -/

@[simp] theorem setOrder_pending (id : SlotId) (n : Nat) (s : State) : (setOrder id n s).pending = s.pending := by simp [setOrder]
@[simp] theorem setOrder_free (id : SlotId) (n : Nat) (s : State) : (setOrder id n s).free = s.free := by simp [setOrder]
@[simp] theorem setOrder_srst (id : SlotId) (n : Nat) (s : State) : (setOrder id n s).srst = s.srst := by simp [setOrder]
@[simp] theorem setOrder_rom (id : SlotId) (n : Nat) (s : State) : (setOrder id n s).rom = s.rom := by simp [setOrder]
@[simp] theorem setOrder_sram (id : SlotId) (n : Nat) (s : State) : (setOrder id n s).sram = s.sram := by simp [setOrder]
@[simp] theorem setOrder_supply (id : SlotId) (n : Nat) (s : State) : (setOrder id n s).supply = s.supply := by simp [setOrder]
@[simp] theorem setOrder_link (id : SlotId) (n : Nat) (s : State) : (setOrder id n s).link = s.link := by simp [setOrder]
@[simp] theorem setOrder_dir (id : SlotId) (n : Nat) (s : State) : (setOrder id n s).dir = s.dir := by simp [setOrder]
@[simp] theorem setOrder_port (id : SlotId) (n : Nat) (s : State) : (setOrder id n s).port = s.port := by simp [setOrder]
@[simp] theorem setOrder_clock (id : SlotId) (n : Nat) (s : State) : (setOrder id n s).clock = s.clock := by simp [setOrder]
@[simp] theorem setOrder_days (id : SlotId) (n : Nat) (s : State) : (setOrder id n s).days = s.days := by simp [setOrder]
@[simp] theorem setOrder_voices (id : SlotId) (n : Nat) (s : State) : (setOrder id n s).voices = s.voices := by simp [setOrder]
@[simp] theorem setOrder_mixer (id : SlotId) (n : Nat) (s : State) : (setOrder id n s).mixer = s.mixer := by simp [setOrder]
@[simp] theorem setOrder_rumble (id : SlotId) (n : Nat) (s : State) : (setOrder id n s).rumble = s.rumble := by simp [setOrder]

/-! ## joinQueue -/

@[simp] theorem joinQueue_pending (id : SlotId) (s : State) : (joinQueue id s).pending = s.pending := by
  simp only [joinQueue]; split <;> simp
@[simp] theorem joinQueue_free (id : SlotId) (s : State) : (joinQueue id s).free = s.free := by
  simp only [joinQueue]; split <;> simp
@[simp] theorem joinQueue_srst (id : SlotId) (s : State) : (joinQueue id s).srst = s.srst := by
  simp only [joinQueue]; split <;> simp
@[simp] theorem joinQueue_rom (id : SlotId) (s : State) : (joinQueue id s).rom = s.rom := by
  simp only [joinQueue]; split <;> simp
@[simp] theorem joinQueue_sram (id : SlotId) (s : State) : (joinQueue id s).sram = s.sram := by
  simp only [joinQueue]; split <;> simp
@[simp] theorem joinQueue_supply (id : SlotId) (s : State) : (joinQueue id s).supply = s.supply := by
  simp only [joinQueue]; split <;> simp
@[simp] theorem joinQueue_link (id : SlotId) (s : State) : (joinQueue id s).link = s.link := by
  simp only [joinQueue]; split <;> simp
@[simp] theorem joinQueue_dir (id : SlotId) (s : State) : (joinQueue id s).dir = s.dir := by
  simp only [joinQueue]; split <;> simp
@[simp] theorem joinQueue_port (id : SlotId) (s : State) : (joinQueue id s).port = s.port := by
  simp only [joinQueue]; split <;> simp
@[simp] theorem joinQueue_clock (id : SlotId) (s : State) : (joinQueue id s).clock = s.clock := by
  simp only [joinQueue]; split <;> simp
@[simp] theorem joinQueue_days (id : SlotId) (s : State) : (joinQueue id s).days = s.days := by
  simp only [joinQueue]; split <;> simp
@[simp] theorem joinQueue_voices (id : SlotId) (s : State) : (joinQueue id s).voices = s.voices := by
  simp only [joinQueue]; split <;> simp
@[simp] theorem joinQueue_mixer (id : SlotId) (s : State) : (joinQueue id s).mixer = s.mixer := by
  simp only [joinQueue]; split <;> simp
@[simp] theorem joinQueue_rumble (id : SlotId) (s : State) : (joinQueue id s).rumble = s.rumble := by
  simp only [joinQueue]; split <;> simp

/-! ## freeSlot -/

@[simp] theorem freeSlot_pending (id : SlotId) (s : State) : (freeSlot id s).pending = s.pending := by
  simp only [freeSlot]; split <;> simp
@[simp] theorem freeSlot_free (id : SlotId) (s : State) : (freeSlot id s).free = s.free := by
  simp only [freeSlot]; split <;> simp
@[simp] theorem freeSlot_srst (id : SlotId) (s : State) : (freeSlot id s).srst = s.srst := by
  simp only [freeSlot]; split <;> simp
@[simp] theorem freeSlot_rom (id : SlotId) (s : State) : (freeSlot id s).rom = s.rom := by
  simp only [freeSlot]; split <;> simp
@[simp] theorem freeSlot_sram (id : SlotId) (s : State) : (freeSlot id s).sram = s.sram := by
  simp only [freeSlot]; split <;> simp
@[simp] theorem freeSlot_supply (id : SlotId) (s : State) : (freeSlot id s).supply = s.supply := by
  simp only [freeSlot]; split <;> simp
@[simp] theorem freeSlot_link (id : SlotId) (s : State) : (freeSlot id s).link = s.link := by
  simp only [freeSlot]; split <;> simp
@[simp] theorem freeSlot_dir (id : SlotId) (s : State) : (freeSlot id s).dir = s.dir := by
  simp only [freeSlot]; split <;> simp
@[simp] theorem freeSlot_port (id : SlotId) (s : State) : (freeSlot id s).port = s.port := by
  simp only [freeSlot]; split <;> simp
@[simp] theorem freeSlot_clock (id : SlotId) (s : State) : (freeSlot id s).clock = s.clock := by
  simp only [freeSlot]; split <;> simp
@[simp] theorem freeSlot_days (id : SlotId) (s : State) : (freeSlot id s).days = s.days := by
  simp only [freeSlot]; split <;> simp
@[simp] theorem freeSlot_voices (id : SlotId) (s : State) : (freeSlot id s).voices = s.voices := by
  simp only [freeSlot]; split <;> simp
@[simp] theorem freeSlot_mixer (id : SlotId) (s : State) : (freeSlot id s).mixer = s.mixer := by
  simp only [freeSlot]; split <;> simp
@[simp] theorem freeSlot_rumble (id : SlotId) (s : State) : (freeSlot id s).rumble = s.rumble := by
  simp only [freeSlot]; split <;> simp

/-! ## mapRecords -/

@[simp] theorem mapRecords_pending (f : Record → Record) (s : State) : (mapRecords f s).pending = s.pending := by simp [mapRecords]
@[simp] theorem mapRecords_free (f : Record → Record) (s : State) : (mapRecords f s).free = s.free := by simp [mapRecords]
@[simp] theorem mapRecords_srst (f : Record → Record) (s : State) : (mapRecords f s).srst = s.srst := by simp [mapRecords]
@[simp] theorem mapRecords_rom (f : Record → Record) (s : State) : (mapRecords f s).rom = s.rom := by simp [mapRecords]
@[simp] theorem mapRecords_sram (f : Record → Record) (s : State) : (mapRecords f s).sram = s.sram := by simp [mapRecords]
@[simp] theorem mapRecords_supply (f : Record → Record) (s : State) : (mapRecords f s).supply = s.supply := by simp [mapRecords]
@[simp] theorem mapRecords_link (f : Record → Record) (s : State) : (mapRecords f s).link = s.link := by simp [mapRecords]
@[simp] theorem mapRecords_dir (f : Record → Record) (s : State) : (mapRecords f s).dir = s.dir := by simp [mapRecords]
@[simp] theorem mapRecords_port (f : Record → Record) (s : State) : (mapRecords f s).port = s.port := by simp [mapRecords]
@[simp] theorem mapRecords_clock (f : Record → Record) (s : State) : (mapRecords f s).clock = s.clock := by simp [mapRecords]
@[simp] theorem mapRecords_days (f : Record → Record) (s : State) : (mapRecords f s).days = s.days := by simp [mapRecords]
@[simp] theorem mapRecords_voices (f : Record → Record) (s : State) : (mapRecords f s).voices = s.voices := by simp [mapRecords]
@[simp] theorem mapRecords_mixer (f : Record → Record) (s : State) : (mapRecords f s).mixer = s.mixer := by simp [mapRecords]
@[simp] theorem mapRecords_rumble (f : Record → Record) (s : State) : (mapRecords f s).rumble = s.rumble := by simp [mapRecords]

/-! ## postStep -/

@[simp] theorem postStep_pending (c : Copy) (s : State) : (postStep c s).pending = s.pending := by simp [postStep]
@[simp] theorem postStep_free (c : Copy) (s : State) : (postStep c s).free = s.free := by simp [postStep]
@[simp] theorem postStep_srst (c : Copy) (s : State) : (postStep c s).srst = s.srst := by simp [postStep]
@[simp] theorem postStep_rom (c : Copy) (s : State) : (postStep c s).rom = s.rom := by simp [postStep]
@[simp] theorem postStep_sram (c : Copy) (s : State) : (postStep c s).sram = s.sram := by simp [postStep]
@[simp] theorem postStep_supply (c : Copy) (s : State) : (postStep c s).supply = s.supply := by simp [postStep]
@[simp] theorem postStep_link (c : Copy) (s : State) : (postStep c s).link = s.link := by simp [postStep]
@[simp] theorem postStep_dir (c : Copy) (s : State) : (postStep c s).dir = s.dir := by simp [postStep]
@[simp] theorem postStep_clock (c : Copy) (s : State) : (postStep c s).clock = s.clock := by simp [postStep]
@[simp] theorem postStep_days (c : Copy) (s : State) : (postStep c s).days = s.days := by simp [postStep]
@[simp] theorem postStep_voices (c : Copy) (s : State) : (postStep c s).voices = s.voices := by simp [postStep]
@[simp] theorem postStep_mixer (c : Copy) (s : State) : (postStep c s).mixer = s.mixer := by simp [postStep]
@[simp] theorem postStep_rumble (c : Copy) (s : State) : (postStep c s).rumble = s.rumble := by simp [postStep]

/-! ## beginPart -/

@[simp] theorem beginPart_pending (c : Copy) (p : CopyPart) (s : State) : (beginPart c p s).pending = s.pending := by
  simp only [beginPart]; split <;> (try split) <;> simp
@[simp] theorem beginPart_free (c : Copy) (p : CopyPart) (s : State) : (beginPart c p s).free = s.free := by
  simp only [beginPart]; split <;> (try split) <;> simp
@[simp] theorem beginPart_srst (c : Copy) (p : CopyPart) (s : State) : (beginPart c p s).srst = s.srst := by
  simp only [beginPart]; split <;> (try split) <;> simp
@[simp] theorem beginPart_rom (c : Copy) (p : CopyPart) (s : State) : (beginPart c p s).rom = s.rom := by
  simp only [beginPart]; split <;> (try split) <;> simp
@[simp] theorem beginPart_sram (c : Copy) (p : CopyPart) (s : State) : (beginPart c p s).sram = s.sram := by
  simp only [beginPart]; split <;> (try split) <;> simp
@[simp] theorem beginPart_supply (c : Copy) (p : CopyPart) (s : State) : (beginPart c p s).supply = s.supply := by
  simp only [beginPart]; split <;> (try split) <;> simp
@[simp] theorem beginPart_link (c : Copy) (p : CopyPart) (s : State) : (beginPart c p s).link = s.link := by
  simp only [beginPart]; split <;> (try split) <;> simp
@[simp] theorem beginPart_dir (c : Copy) (p : CopyPart) (s : State) : (beginPart c p s).dir = s.dir := by
  simp only [beginPart]; split <;> (try split) <;> simp
@[simp] theorem beginPart_clock (c : Copy) (p : CopyPart) (s : State) : (beginPart c p s).clock = s.clock := by
  simp only [beginPart]; split <;> (try split) <;> simp
@[simp] theorem beginPart_days (c : Copy) (p : CopyPart) (s : State) : (beginPart c p s).days = s.days := by
  simp only [beginPart]; split <;> (try split) <;> simp
@[simp] theorem beginPart_voices (c : Copy) (p : CopyPart) (s : State) : (beginPart c p s).voices = s.voices := by
  simp only [beginPart]; split <;> (try split) <;> simp
@[simp] theorem beginPart_mixer (c : Copy) (p : CopyPart) (s : State) : (beginPart c p s).mixer = s.mixer := by
  simp only [beginPart]; split <;> (try split) <;> simp
@[simp] theorem beginPart_rumble (c : Copy) (p : CopyPart) (s : State) : (beginPart c p s).rumble = s.rumble := by
  simp only [beginPart]; split <;> (try split) <;> simp

/-! ## startCopy -/

@[simp] theorem startCopy_pending (id : SlotId) (rolling : Bool) (s : State) : (startCopy id rolling s).pending = s.pending := by simp [startCopy]
@[simp] theorem startCopy_free (id : SlotId) (rolling : Bool) (s : State) : (startCopy id rolling s).free = s.free := by simp [startCopy]
@[simp] theorem startCopy_srst (id : SlotId) (rolling : Bool) (s : State) : (startCopy id rolling s).srst = s.srst := by simp [startCopy]
@[simp] theorem startCopy_rom (id : SlotId) (rolling : Bool) (s : State) : (startCopy id rolling s).rom = s.rom := by simp [startCopy]
@[simp] theorem startCopy_sram (id : SlotId) (rolling : Bool) (s : State) : (startCopy id rolling s).sram = s.sram := by simp [startCopy]
@[simp] theorem startCopy_supply (id : SlotId) (rolling : Bool) (s : State) : (startCopy id rolling s).supply = s.supply := by simp [startCopy]
@[simp] theorem startCopy_link (id : SlotId) (rolling : Bool) (s : State) : (startCopy id rolling s).link = s.link := by simp [startCopy]
@[simp] theorem startCopy_dir (id : SlotId) (rolling : Bool) (s : State) : (startCopy id rolling s).dir = s.dir := by simp [startCopy]
@[simp] theorem startCopy_clock (id : SlotId) (rolling : Bool) (s : State) : (startCopy id rolling s).clock = s.clock := by simp [startCopy]
@[simp] theorem startCopy_days (id : SlotId) (rolling : Bool) (s : State) : (startCopy id rolling s).days = s.days := by simp [startCopy]
@[simp] theorem startCopy_voices (id : SlotId) (rolling : Bool) (s : State) : (startCopy id rolling s).voices = s.voices := by simp [startCopy]
@[simp] theorem startCopy_mixer (id : SlotId) (rolling : Bool) (s : State) : (startCopy id rolling s).mixer = s.mixer := by simp [startCopy]
@[simp] theorem startCopy_rumble (id : SlotId) (rolling : Bool) (s : State) : (startCopy id rolling s).rumble = s.rumble := by simp [startCopy]

/-! ## takeHead -/

@[simp] theorem takeHead_pending (s : State) : (takeHead s).pending = s.pending := by
  simp only [takeHead]; split <;> (try split) <;> simp
@[simp] theorem takeHead_free (s : State) : (takeHead s).free = s.free := by
  simp only [takeHead]; split <;> (try split) <;> simp
@[simp] theorem takeHead_srst (s : State) : (takeHead s).srst = s.srst := by
  simp only [takeHead]; split <;> (try split) <;> simp
@[simp] theorem takeHead_rom (s : State) : (takeHead s).rom = s.rom := by
  simp only [takeHead]; split <;> (try split) <;> simp
@[simp] theorem takeHead_sram (s : State) : (takeHead s).sram = s.sram := by
  simp only [takeHead]; split <;> (try split) <;> simp
@[simp] theorem takeHead_supply (s : State) : (takeHead s).supply = s.supply := by
  simp only [takeHead]; split <;> (try split) <;> simp
@[simp] theorem takeHead_link (s : State) : (takeHead s).link = s.link := by
  simp only [takeHead]; split <;> (try split) <;> simp
@[simp] theorem takeHead_dir (s : State) : (takeHead s).dir = s.dir := by
  simp only [takeHead]; split <;> (try split) <;> simp
@[simp] theorem takeHead_clock (s : State) : (takeHead s).clock = s.clock := by
  simp only [takeHead]; split <;> (try split) <;> simp
@[simp] theorem takeHead_days (s : State) : (takeHead s).days = s.days := by
  simp only [takeHead]; split <;> (try split) <;> simp
@[simp] theorem takeHead_voices (s : State) : (takeHead s).voices = s.voices := by
  simp only [takeHead]; split <;> (try split) <;> simp
@[simp] theorem takeHead_mixer (s : State) : (takeHead s).mixer = s.mixer := by
  simp only [takeHead]; split <;> (try split) <;> simp
@[simp] theorem takeHead_rumble (s : State) : (takeHead s).rumble = s.rumble := by
  simp only [takeHead]; split <;> (try split) <;> simp

/-! ## rollOn -/

@[simp] theorem rollOn_pending (s : State) : (rollOn s).pending = s.pending := by
  simp only [rollOn]; split <;> simp
@[simp] theorem rollOn_free (s : State) : (rollOn s).free = s.free := by
  simp only [rollOn]; split <;> simp
@[simp] theorem rollOn_srst (s : State) : (rollOn s).srst = s.srst := by
  simp only [rollOn]; split <;> simp
@[simp] theorem rollOn_rom (s : State) : (rollOn s).rom = s.rom := by
  simp only [rollOn]; split <;> simp
@[simp] theorem rollOn_sram (s : State) : (rollOn s).sram = s.sram := by
  simp only [rollOn]; split <;> simp
@[simp] theorem rollOn_link (s : State) : (rollOn s).link = s.link := by
  simp only [rollOn]; split <;> simp
@[simp] theorem rollOn_dir (s : State) : (rollOn s).dir = s.dir := by
  simp only [rollOn]; split <;> simp
@[simp] theorem rollOn_clock (s : State) : (rollOn s).clock = s.clock := by
  simp only [rollOn]; split <;> simp
@[simp] theorem rollOn_days (s : State) : (rollOn s).days = s.days := by
  simp only [rollOn]; split <;> simp
@[simp] theorem rollOn_voices (s : State) : (rollOn s).voices = s.voices := by
  simp only [rollOn]; split <;> simp
@[simp] theorem rollOn_mixer (s : State) : (rollOn s).mixer = s.mixer := by
  simp only [rollOn]; split <;> simp
@[simp] theorem rollOn_rumble (s : State) : (rollOn s).rumble = s.rumble := by
  simp only [rollOn]; split <;> simp

/-! ## fillClock -/

@[simp] theorem fillClock_pending (s : State) : (fillClock s).pending = s.pending := by
  simp only [fillClock]; split <;> (try split) <;> simp
@[simp] theorem fillClock_free (s : State) : (fillClock s).free = s.free := by
  simp only [fillClock]; split <;> (try split) <;> simp
@[simp] theorem fillClock_srst (s : State) : (fillClock s).srst = s.srst := by
  simp only [fillClock]; split <;> (try split) <;> simp
@[simp] theorem fillClock_rom (s : State) : (fillClock s).rom = s.rom := by
  simp only [fillClock]; split <;> (try split) <;> simp
@[simp] theorem fillClock_sram (s : State) : (fillClock s).sram = s.sram := by
  simp only [fillClock]; split <;> (try split) <;> simp
@[simp] theorem fillClock_supply (s : State) : (fillClock s).supply = s.supply := by
  simp only [fillClock]; split <;> (try split) <;> simp
@[simp] theorem fillClock_link (s : State) : (fillClock s).link = s.link := by
  simp only [fillClock]; split <;> (try split) <;> simp
@[simp] theorem fillClock_dir (s : State) : (fillClock s).dir = s.dir := by
  simp only [fillClock]; split <;> (try split) <;> simp
@[simp] theorem fillClock_port (s : State) : (fillClock s).port = s.port := by
  simp only [fillClock]; split <;> (try split) <;> simp
@[simp] theorem fillClock_clock (s : State) : (fillClock s).clock = s.clock := by
  simp only [fillClock]; split <;> (try split) <;> simp
@[simp] theorem fillClock_voices (s : State) : (fillClock s).voices = s.voices := by
  simp only [fillClock]; split <;> (try split) <;> simp
@[simp] theorem fillClock_mixer (s : State) : (fillClock s).mixer = s.mixer := by
  simp only [fillClock]; split <;> (try split) <;> simp
@[simp] theorem fillClock_rumble (s : State) : (fillClock s).rumble = s.rumble := by
  simp only [fillClock]; split <;> (try split) <;> simp

/-! ## reportBehind -/

@[simp] theorem reportBehind_pending (b a : Bool) (s : State) : (reportBehind b a s).pending = s.pending := by
  simp only [reportBehind]; split <;> simp
@[simp] theorem reportBehind_free (b a : Bool) (s : State) : (reportBehind b a s).free = s.free := by
  simp only [reportBehind]; split <;> simp
@[simp] theorem reportBehind_srst (b a : Bool) (s : State) : (reportBehind b a s).srst = s.srst := by
  simp only [reportBehind]; split <;> simp
@[simp] theorem reportBehind_rom (b a : Bool) (s : State) : (reportBehind b a s).rom = s.rom := by
  simp only [reportBehind]; split <;> simp
@[simp] theorem reportBehind_sram (b a : Bool) (s : State) : (reportBehind b a s).sram = s.sram := by
  simp only [reportBehind]; split <;> simp
@[simp] theorem reportBehind_supply (b a : Bool) (s : State) : (reportBehind b a s).supply = s.supply := by
  simp only [reportBehind]; split <;> simp
@[simp] theorem reportBehind_dir (b a : Bool) (s : State) : (reportBehind b a s).dir = s.dir := by
  simp only [reportBehind]; split <;> simp
@[simp] theorem reportBehind_port (b a : Bool) (s : State) : (reportBehind b a s).port = s.port := by
  simp only [reportBehind]; split <;> simp
@[simp] theorem reportBehind_save (b a : Bool) (s : State) : (reportBehind b a s).save = s.save := by
  simp only [reportBehind]; split <;> simp
@[simp] theorem reportBehind_clock (b a : Bool) (s : State) : (reportBehind b a s).clock = s.clock := by
  simp only [reportBehind]; split <;> simp
@[simp] theorem reportBehind_days (b a : Bool) (s : State) : (reportBehind b a s).days = s.days := by
  simp only [reportBehind]; split <;> simp
@[simp] theorem reportBehind_voices (b a : Bool) (s : State) : (reportBehind b a s).voices = s.voices := by
  simp only [reportBehind]; split <;> simp
@[simp] theorem reportBehind_mixer (b a : Bool) (s : State) : (reportBehind b a s).mixer = s.mixer := by
  simp only [reportBehind]; split <;> simp
@[simp] theorem reportBehind_rumble (b a : Bool) (s : State) : (reportBehind b a s).rumble = s.rumble := by
  simp only [reportBehind]; split <;> simp

/-! ## reportDue -/

@[simp] theorem reportDue_pending (d : BitVec 8) (s : State) : (reportDue d s).pending = s.pending := by
  simp only [reportDue]; split <;> simp
@[simp] theorem reportDue_free (d : BitVec 8) (s : State) : (reportDue d s).free = s.free := by
  simp only [reportDue]; split <;> simp
@[simp] theorem reportDue_srst (d : BitVec 8) (s : State) : (reportDue d s).srst = s.srst := by
  simp only [reportDue]; split <;> simp
@[simp] theorem reportDue_rom (d : BitVec 8) (s : State) : (reportDue d s).rom = s.rom := by
  simp only [reportDue]; split <;> simp
@[simp] theorem reportDue_sram (d : BitVec 8) (s : State) : (reportDue d s).sram = s.sram := by
  simp only [reportDue]; split <;> simp
@[simp] theorem reportDue_supply (d : BitVec 8) (s : State) : (reportDue d s).supply = s.supply := by
  simp only [reportDue]; split <;> simp
@[simp] theorem reportDue_dir (d : BitVec 8) (s : State) : (reportDue d s).dir = s.dir := by
  simp only [reportDue]; split <;> simp
@[simp] theorem reportDue_port (d : BitVec 8) (s : State) : (reportDue d s).port = s.port := by
  simp only [reportDue]; split <;> simp
@[simp] theorem reportDue_save (d : BitVec 8) (s : State) : (reportDue d s).save = s.save := by
  simp only [reportDue]; split <;> simp
@[simp] theorem reportDue_clock (d : BitVec 8) (s : State) : (reportDue d s).clock = s.clock := by
  simp only [reportDue]; split <;> simp
@[simp] theorem reportDue_days (d : BitVec 8) (s : State) : (reportDue d s).days = s.days := by
  simp only [reportDue]; split <;> simp
@[simp] theorem reportDue_voices (d : BitVec 8) (s : State) : (reportDue d s).voices = s.voices := by
  simp only [reportDue]; split <;> simp
@[simp] theorem reportDue_mixer (d : BitVec 8) (s : State) : (reportDue d s).mixer = s.mixer := by
  simp only [reportDue]; split <;> simp
@[simp] theorem reportDue_rumble (d : BitVec 8) (s : State) : (reportDue d s).rumble = s.rumble := by
  simp only [reportDue]; split <;> simp

/-! ## catchUp -/

@[simp] theorem catchUp_pending (s : State) : (catchUp s).pending = s.pending := by
  simp only [catchUp]; split <;> (try split) <;> simp
@[simp] theorem catchUp_free (s : State) : (catchUp s).free = s.free := by
  simp only [catchUp]; split <;> (try split) <;> simp
@[simp] theorem catchUp_srst (s : State) : (catchUp s).srst = s.srst := by
  simp only [catchUp]; split <;> (try split) <;> simp
@[simp] theorem catchUp_rom (s : State) : (catchUp s).rom = s.rom := by
  simp only [catchUp]; split <;> (try split) <;> simp
@[simp] theorem catchUp_sram (s : State) : (catchUp s).sram = s.sram := by
  simp only [catchUp]; split <;> (try split) <;> simp
@[simp] theorem catchUp_supply (s : State) : (catchUp s).supply = s.supply := by
  simp only [catchUp]; split <;> (try split) <;> simp
@[simp] theorem catchUp_dir (s : State) : (catchUp s).dir = s.dir := by
  simp only [catchUp]; split <;> (try split) <;> simp
@[simp] theorem catchUp_port (s : State) : (catchUp s).port = s.port := by
  simp only [catchUp]; split <;> (try split) <;> simp
@[simp] theorem catchUp_save (s : State) : (catchUp s).save = s.save := by
  simp only [catchUp]; split <;> (try split) <;> simp
@[simp] theorem catchUp_clock (s : State) : (catchUp s).clock = s.clock := by
  simp only [catchUp]; split <;> (try split) <;> simp
@[simp] theorem catchUp_voices (s : State) : (catchUp s).voices = s.voices := by
  simp only [catchUp]; split <;> (try split) <;> simp
@[simp] theorem catchUp_mixer (s : State) : (catchUp s).mixer = s.mixer := by
  simp only [catchUp]; split <;> (try split) <;> simp
@[simp] theorem catchUp_rumble (s : State) : (catchUp s).rumble = s.rumble := by
  simp only [catchUp]; split <;> (try split) <;> simp

/-! ## grantRefill -/

@[simp] theorem grantRefill_pending (n : Nat) (s : State) : (grantRefill n s).pending = s.pending := by simp [grantRefill]
@[simp] theorem grantRefill_free (n : Nat) (s : State) : (grantRefill n s).free = s.free := by simp [grantRefill]
@[simp] theorem grantRefill_srst (n : Nat) (s : State) : (grantRefill n s).srst = s.srst := by simp [grantRefill]
@[simp] theorem grantRefill_rom (n : Nat) (s : State) : (grantRefill n s).rom = s.rom := by simp [grantRefill]
@[simp] theorem grantRefill_sram (n : Nat) (s : State) : (grantRefill n s).sram = s.sram := by simp [grantRefill]
@[simp] theorem grantRefill_supply (n : Nat) (s : State) : (grantRefill n s).supply = s.supply := by simp [grantRefill]
@[simp] theorem grantRefill_link (n : Nat) (s : State) : (grantRefill n s).link = s.link := by simp [grantRefill]
@[simp] theorem grantRefill_dir (n : Nat) (s : State) : (grantRefill n s).dir = s.dir := by simp [grantRefill]
@[simp] theorem grantRefill_save (n : Nat) (s : State) : (grantRefill n s).save = s.save := by simp [grantRefill]
@[simp] theorem grantRefill_clock (n : Nat) (s : State) : (grantRefill n s).clock = s.clock := by simp [grantRefill]
@[simp] theorem grantRefill_days (n : Nat) (s : State) : (grantRefill n s).days = s.days := by simp [grantRefill]
@[simp] theorem grantRefill_mixer (n : Nat) (s : State) : (grantRefill n s).mixer = s.mixer := by simp [grantRefill]
@[simp] theorem grantRefill_rumble (n : Nat) (s : State) : (grantRefill n s).rumble = s.rumble := by simp [grantRefill]

/-! ## grantTo -/

@[simp] theorem grantTo_pending (s : State) (g : Grant) : (grantTo s g).pending = s.pending := by
  simp only [grantTo]; split <;> simp
@[simp] theorem grantTo_free (s : State) (g : Grant) : (grantTo s g).free = s.free := by
  simp only [grantTo]; split <;> simp
@[simp] theorem grantTo_srst (s : State) (g : Grant) : (grantTo s g).srst = s.srst := by
  simp only [grantTo]; split <;> simp
@[simp] theorem grantTo_rom (s : State) (g : Grant) : (grantTo s g).rom = s.rom := by
  simp only [grantTo]; split <;> simp
@[simp] theorem grantTo_sram (s : State) (g : Grant) : (grantTo s g).sram = s.sram := by
  simp only [grantTo]; split <;> simp
@[simp] theorem grantTo_supply (s : State) (g : Grant) : (grantTo s g).supply = s.supply := by
  simp only [grantTo]; split <;> simp
@[simp] theorem grantTo_link (s : State) (g : Grant) : (grantTo s g).link = s.link := by
  simp only [grantTo]; split <;> simp
@[simp] theorem grantTo_dir (s : State) (g : Grant) : (grantTo s g).dir = s.dir := by
  simp only [grantTo]; split <;> simp
@[simp] theorem grantTo_save (s : State) (g : Grant) : (grantTo s g).save = s.save := by
  simp only [grantTo]; split <;> simp
@[simp] theorem grantTo_clock (s : State) (g : Grant) : (grantTo s g).clock = s.clock := by
  simp only [grantTo]; split <;> simp
@[simp] theorem grantTo_days (s : State) (g : Grant) : (grantTo s g).days = s.days := by
  simp only [grantTo]; split <;> simp
@[simp] theorem grantTo_mixer (s : State) (g : Grant) : (grantTo s g).mixer = s.mixer := by
  simp only [grantTo]; split <;> simp
@[simp] theorem grantTo_rumble (s : State) (g : Grant) : (grantTo s g).rumble = s.rumble := by
  simp only [grantTo]; split <;> simp

/-! ## grant -/

@[simp] theorem grant_pending (s : State) : (grant s).pending = s.pending := by
  simp only [grant]; split <;> (try split) <;> simp
@[simp] theorem grant_free (s : State) : (grant s).free = s.free := by
  simp only [grant]; split <;> (try split) <;> simp
@[simp] theorem grant_srst (s : State) : (grant s).srst = s.srst := by
  simp only [grant]; split <;> (try split) <;> simp
@[simp] theorem grant_rom (s : State) : (grant s).rom = s.rom := by
  simp only [grant]; split <;> (try split) <;> simp
@[simp] theorem grant_sram (s : State) : (grant s).sram = s.sram := by
  simp only [grant]; split <;> (try split) <;> simp
@[simp] theorem grant_supply (s : State) : (grant s).supply = s.supply := by
  simp only [grant]; split <;> (try split) <;> simp
@[simp] theorem grant_link (s : State) : (grant s).link = s.link := by
  simp only [grant]; split <;> (try split) <;> simp
@[simp] theorem grant_dir (s : State) : (grant s).dir = s.dir := by
  simp only [grant]; split <;> (try split) <;> simp
@[simp] theorem grant_save (s : State) : (grant s).save = s.save := by
  simp only [grant]; split <;> (try split) <;> simp
@[simp] theorem grant_clock (s : State) : (grant s).clock = s.clock := by
  simp only [grant]; split <;> (try split) <;> simp
@[simp] theorem grant_days (s : State) : (grant s).days = s.days := by
  simp only [grant]; split <;> (try split) <;> simp
@[simp] theorem grant_mixer (s : State) : (grant s).mixer = s.mixer := by
  simp only [grant]; split <;> (try split) <;> simp
@[simp] theorem grant_rumble (s : State) : (grant s).rumble = s.rumble := by
  simp only [grant]; split <;> (try split) <;> simp

/-! ## settle -/

@[simp] theorem settle_pending (s : State) : (settle s).pending = s.pending := by simp [settle]
@[simp] theorem settle_free (s : State) : (settle s).free = s.free := by simp [settle]
@[simp] theorem settle_srst (s : State) : (settle s).srst = s.srst := by simp [settle]
@[simp] theorem settle_rom (s : State) : (settle s).rom = s.rom := by simp [settle]
@[simp] theorem settle_sram (s : State) : (settle s).sram = s.sram := by simp [settle]
@[simp] theorem settle_supply (s : State) : (settle s).supply = s.supply := by simp [settle]
@[simp] theorem settle_link (s : State) : (settle s).link = s.link := by simp [settle]
@[simp] theorem settle_dir (s : State) : (settle s).dir = s.dir := by simp [settle]
@[simp] theorem settle_clock (s : State) : (settle s).clock = s.clock := by simp [settle]
@[simp] theorem settle_mixer (s : State) : (settle s).mixer = s.mixer := by simp [settle]

/-! ## resetJournal -/

@[simp] theorem resetJournal_pending (s : State) : (resetJournal s).pending = s.pending := by
  simp only [resetJournal]; split <;> simp
@[simp] theorem resetJournal_free (s : State) : (resetJournal s).free = s.free := by
  simp only [resetJournal]; split <;> simp
@[simp] theorem resetJournal_srst (s : State) : (resetJournal s).srst = s.srst := by
  simp only [resetJournal]; split <;> simp
@[simp] theorem resetJournal_rom (s : State) : (resetJournal s).rom = s.rom := by
  simp only [resetJournal]; split <;> simp
@[simp] theorem resetJournal_sram (s : State) : (resetJournal s).sram = s.sram := by
  simp only [resetJournal]; split <;> simp
@[simp] theorem resetJournal_supply (s : State) : (resetJournal s).supply = s.supply := by
  simp only [resetJournal]; split <;> simp
@[simp] theorem resetJournal_link (s : State) : (resetJournal s).link = s.link := by
  simp only [resetJournal]; split <;> simp
@[simp] theorem resetJournal_dir (s : State) : (resetJournal s).dir = s.dir := by
  simp only [resetJournal]; split <;> simp
@[simp] theorem resetJournal_port (s : State) : (resetJournal s).port = s.port := by
  simp only [resetJournal]; split <;> simp
@[simp] theorem resetJournal_clock (s : State) : (resetJournal s).clock = s.clock := by
  simp only [resetJournal]; split <;> simp
@[simp] theorem resetJournal_days (s : State) : (resetJournal s).days = s.days := by
  simp only [resetJournal]; split <;> simp
@[simp] theorem resetJournal_voices (s : State) : (resetJournal s).voices = s.voices := by
  simp only [resetJournal]; split <;> simp
@[simp] theorem resetJournal_mixer (s : State) : (resetJournal s).mixer = s.mixer := by
  simp only [resetJournal]; split <;> simp
@[simp] theorem resetJournal_rumble (s : State) : (resetJournal s).rumble = s.rumble := by
  simp only [resetJournal]; split <;> simp

/-! ## resetVoices -/

@[simp] theorem resetVoices_pending (s : State) : (resetVoices s).pending = s.pending := by simp [resetVoices]
@[simp] theorem resetVoices_free (s : State) : (resetVoices s).free = s.free := by simp [resetVoices]
@[simp] theorem resetVoices_srst (s : State) : (resetVoices s).srst = s.srst := by simp [resetVoices]
@[simp] theorem resetVoices_rom (s : State) : (resetVoices s).rom = s.rom := by simp [resetVoices]
@[simp] theorem resetVoices_sram (s : State) : (resetVoices s).sram = s.sram := by simp [resetVoices]
@[simp] theorem resetVoices_supply (s : State) : (resetVoices s).supply = s.supply := by simp [resetVoices]
@[simp] theorem resetVoices_link (s : State) : (resetVoices s).link = s.link := by simp [resetVoices]
@[simp] theorem resetVoices_dir (s : State) : (resetVoices s).dir = s.dir := by simp [resetVoices]
@[simp] theorem resetVoices_save (s : State) : (resetVoices s).save = s.save := by simp [resetVoices]
@[simp] theorem resetVoices_clock (s : State) : (resetVoices s).clock = s.clock := by simp [resetVoices]
@[simp] theorem resetVoices_days (s : State) : (resetVoices s).days = s.days := by simp [resetVoices]
@[simp] theorem resetVoices_mixer (s : State) : (resetVoices s).mixer = s.mixer := by simp [resetVoices]
@[simp] theorem resetVoices_rumble (s : State) : (resetVoices s).rumble = s.rumble := by simp [resetVoices]

/-! ## titleReset -/

@[simp] theorem titleReset_pending (s : State) : (titleReset s).pending = s.pending := by simp [titleReset]
@[simp] theorem titleReset_free (s : State) : (titleReset s).free = s.free := by simp [titleReset]
@[simp] theorem titleReset_srst (s : State) : (titleReset s).srst = s.srst := by simp [titleReset]
@[simp] theorem titleReset_rom (s : State) : (titleReset s).rom = s.rom := by simp [titleReset]
@[simp] theorem titleReset_sram (s : State) : (titleReset s).sram = s.sram := by simp [titleReset]
@[simp] theorem titleReset_supply (s : State) : (titleReset s).supply = s.supply := by simp [titleReset]
@[simp] theorem titleReset_dir (s : State) : (titleReset s).dir = s.dir := by simp [titleReset]
@[simp] theorem titleReset_clock (s : State) : (titleReset s).clock = s.clock := by simp [titleReset]

/-! ## endSelection -/

@[simp] theorem endSelection_pending (s : State) : (endSelection s).pending = s.pending := by
  simp only [endSelection]; split <;> (try split) <;> simp
@[simp] theorem endSelection_free (s : State) : (endSelection s).free = s.free := by
  simp only [endSelection]; split <;> (try split) <;> simp
@[simp] theorem endSelection_srst (s : State) : (endSelection s).srst = s.srst := by
  simp only [endSelection]; split <;> (try split) <;> simp
@[simp] theorem endSelection_rom (s : State) : (endSelection s).rom = s.rom := by
  simp only [endSelection]; split <;> (try split) <;> simp
@[simp] theorem endSelection_sram (s : State) : (endSelection s).sram = s.sram := by
  simp only [endSelection]; split <;> (try split) <;> simp
@[simp] theorem endSelection_supply (s : State) : (endSelection s).supply = s.supply := by
  simp only [endSelection]; split <;> (try split) <;> simp
@[simp] theorem endSelection_dir (s : State) : (endSelection s).dir = s.dir := by
  simp only [endSelection]; split <;> (try split) <;> simp
@[simp] theorem endSelection_clock (s : State) : (endSelection s).clock = s.clock := by
  simp only [endSelection]; split <;> (try split) <;> simp

/-! ## received -/

@[simp] theorem received_pending (s : State) : (received s).pending = s.pending := by simp [received]
@[simp] theorem received_free (s : State) : (received s).free = s.free := by simp [received]
@[simp] theorem received_srst (s : State) : (received s).srst = s.srst := by simp [received]
@[simp] theorem received_rom (s : State) : (received s).rom = s.rom := by simp [received]
@[simp] theorem received_sram (s : State) : (received s).sram = s.sram := by simp [received]
@[simp] theorem received_supply (s : State) : (received s).supply = s.supply := by simp [received]
@[simp] theorem received_dir (s : State) : (received s).dir = s.dir := by simp [received]
@[simp] theorem received_clock (s : State) : (received s).clock = s.clock := by simp [received]

/-! ## reportEnds -/

@[simp] theorem reportEnds_pending (e : Nat → Bool) (w : VoiceEndReason) (s : State) : (reportEnds e w s).pending = s.pending := by
  simp only [reportEnds]; split <;> simp
@[simp] theorem reportEnds_free (e : Nat → Bool) (w : VoiceEndReason) (s : State) : (reportEnds e w s).free = s.free := by
  simp only [reportEnds]; split <;> simp
@[simp] theorem reportEnds_srst (e : Nat → Bool) (w : VoiceEndReason) (s : State) : (reportEnds e w s).srst = s.srst := by
  simp only [reportEnds]; split <;> simp
@[simp] theorem reportEnds_rom (e : Nat → Bool) (w : VoiceEndReason) (s : State) : (reportEnds e w s).rom = s.rom := by
  simp only [reportEnds]; split <;> simp
@[simp] theorem reportEnds_sram (e : Nat → Bool) (w : VoiceEndReason) (s : State) : (reportEnds e w s).sram = s.sram := by
  simp only [reportEnds]; split <;> simp
@[simp] theorem reportEnds_supply (e : Nat → Bool) (w : VoiceEndReason) (s : State) : (reportEnds e w s).supply = s.supply := by
  simp only [reportEnds]; split <;> simp
@[simp] theorem reportEnds_dir (e : Nat → Bool) (w : VoiceEndReason) (s : State) : (reportEnds e w s).dir = s.dir := by
  simp only [reportEnds]; split <;> simp
@[simp] theorem reportEnds_port (e : Nat → Bool) (w : VoiceEndReason) (s : State) : (reportEnds e w s).port = s.port := by
  simp only [reportEnds]; split <;> simp
@[simp] theorem reportEnds_save (e : Nat → Bool) (w : VoiceEndReason) (s : State) : (reportEnds e w s).save = s.save := by
  simp only [reportEnds]; split <;> simp
@[simp] theorem reportEnds_clock (e : Nat → Bool) (w : VoiceEndReason) (s : State) : (reportEnds e w s).clock = s.clock := by
  simp only [reportEnds]; split <;> simp
@[simp] theorem reportEnds_days (e : Nat → Bool) (w : VoiceEndReason) (s : State) : (reportEnds e w s).days = s.days := by
  simp only [reportEnds]; split <;> simp
@[simp] theorem reportEnds_voices (e : Nat → Bool) (w : VoiceEndReason) (s : State) : (reportEnds e w s).voices = s.voices := by
  simp only [reportEnds]; split <;> simp
@[simp] theorem reportEnds_mixer (e : Nat → Bool) (w : VoiceEndReason) (s : State) : (reportEnds e w s).mixer = s.mixer := by
  simp only [reportEnds]; split <;> simp
@[simp] theorem reportEnds_rumble (e : Nat → Bool) (w : VoiceEndReason) (s : State) : (reportEnds e w s).rumble = s.rumble := by
  simp only [reportEnds]; split <;> simp

/-! ## staleRefills -/

@[simp] theorem staleRefills_pending (e : Nat → Bool) (s : State) : (staleRefills e s).pending = s.pending := by
  simp only [staleRefills]; split <;> simp
@[simp] theorem staleRefills_free (e : Nat → Bool) (s : State) : (staleRefills e s).free = s.free := by
  simp only [staleRefills]; split <;> simp
@[simp] theorem staleRefills_srst (e : Nat → Bool) (s : State) : (staleRefills e s).srst = s.srst := by
  simp only [staleRefills]; split <;> simp
@[simp] theorem staleRefills_rom (e : Nat → Bool) (s : State) : (staleRefills e s).rom = s.rom := by
  simp only [staleRefills]; split <;> simp
@[simp] theorem staleRefills_sram (e : Nat → Bool) (s : State) : (staleRefills e s).sram = s.sram := by
  simp only [staleRefills]; split <;> simp
@[simp] theorem staleRefills_supply (e : Nat → Bool) (s : State) : (staleRefills e s).supply = s.supply := by
  simp only [staleRefills]; split <;> simp
@[simp] theorem staleRefills_link (e : Nat → Bool) (s : State) : (staleRefills e s).link = s.link := by
  simp only [staleRefills]; split <;> simp
@[simp] theorem staleRefills_dir (e : Nat → Bool) (s : State) : (staleRefills e s).dir = s.dir := by
  simp only [staleRefills]; split <;> simp
@[simp] theorem staleRefills_save (e : Nat → Bool) (s : State) : (staleRefills e s).save = s.save := by
  simp only [staleRefills]; split <;> simp
@[simp] theorem staleRefills_clock (e : Nat → Bool) (s : State) : (staleRefills e s).clock = s.clock := by
  simp only [staleRefills]; split <;> simp
@[simp] theorem staleRefills_days (e : Nat → Bool) (s : State) : (staleRefills e s).days = s.days := by
  simp only [staleRefills]; split <;> simp
@[simp] theorem staleRefills_voices (e : Nat → Bool) (s : State) : (staleRefills e s).voices = s.voices := by
  simp only [staleRefills]; split <;> simp
@[simp] theorem staleRefills_mixer (e : Nat → Bool) (s : State) : (staleRefills e s).mixer = s.mixer := by
  simp only [staleRefills]; split <;> simp
@[simp] theorem staleRefills_rumble (e : Nat → Bool) (s : State) : (staleRefills e s).rumble = s.rumble := by
  simp only [staleRefills]; split <;> simp

/-! ## reportFlags -/

@[simp] theorem reportFlags_pending (f : BitVec 8) (s : State) : (reportFlags f s).pending = s.pending := by
  simp only [reportFlags]; split <;> simp
@[simp] theorem reportFlags_free (f : BitVec 8) (s : State) : (reportFlags f s).free = s.free := by
  simp only [reportFlags]; split <;> simp
@[simp] theorem reportFlags_srst (f : BitVec 8) (s : State) : (reportFlags f s).srst = s.srst := by
  simp only [reportFlags]; split <;> simp
@[simp] theorem reportFlags_rom (f : BitVec 8) (s : State) : (reportFlags f s).rom = s.rom := by
  simp only [reportFlags]; split <;> simp
@[simp] theorem reportFlags_sram (f : BitVec 8) (s : State) : (reportFlags f s).sram = s.sram := by
  simp only [reportFlags]; split <;> simp
@[simp] theorem reportFlags_supply (f : BitVec 8) (s : State) : (reportFlags f s).supply = s.supply := by
  simp only [reportFlags]; split <;> simp
@[simp] theorem reportFlags_dir (f : BitVec 8) (s : State) : (reportFlags f s).dir = s.dir := by
  simp only [reportFlags]; split <;> simp
@[simp] theorem reportFlags_port (f : BitVec 8) (s : State) : (reportFlags f s).port = s.port := by
  simp only [reportFlags]; split <;> simp
@[simp] theorem reportFlags_save (f : BitVec 8) (s : State) : (reportFlags f s).save = s.save := by
  simp only [reportFlags]; split <;> simp
@[simp] theorem reportFlags_clock (f : BitVec 8) (s : State) : (reportFlags f s).clock = s.clock := by
  simp only [reportFlags]; split <;> simp
@[simp] theorem reportFlags_days (f : BitVec 8) (s : State) : (reportFlags f s).days = s.days := by
  simp only [reportFlags]; split <;> simp
@[simp] theorem reportFlags_voices (f : BitVec 8) (s : State) : (reportFlags f s).voices = s.voices := by
  simp only [reportFlags]; split <;> simp
@[simp] theorem reportFlags_mixer (f : BitVec 8) (s : State) : (reportFlags f s).mixer = s.mixer := by
  simp only [reportFlags]; split <;> simp
@[simp] theorem reportFlags_rumble (f : BitVec 8) (s : State) : (reportFlags f s).rumble = s.rumble := by
  simp only [reportFlags]; split <;> simp

/-! ## reportFrame -/

@[simp] theorem reportFrame_pending (e : Nat → Bool) (f : BitVec 8) (s : State) : (reportFrame e f s).pending = s.pending := by
  simp only [reportFrame]; split <;> (try split) <;> simp
@[simp] theorem reportFrame_srst (e : Nat → Bool) (f : BitVec 8) (s : State) : (reportFrame e f s).srst = s.srst := by
  simp only [reportFrame]; split <;> (try split) <;> simp
@[simp] theorem reportFrame_rom (e : Nat → Bool) (f : BitVec 8) (s : State) : (reportFrame e f s).rom = s.rom := by
  simp only [reportFrame]; split <;> (try split) <;> simp
@[simp] theorem reportFrame_sram (e : Nat → Bool) (f : BitVec 8) (s : State) : (reportFrame e f s).sram = s.sram := by
  simp only [reportFrame]; split <;> (try split) <;> simp
@[simp] theorem reportFrame_supply (e : Nat → Bool) (f : BitVec 8) (s : State) : (reportFrame e f s).supply = s.supply := by
  simp only [reportFrame]; split <;> (try split) <;> simp
@[simp] theorem reportFrame_dir (e : Nat → Bool) (f : BitVec 8) (s : State) : (reportFrame e f s).dir = s.dir := by
  simp only [reportFrame]; split <;> (try split) <;> simp
@[simp] theorem reportFrame_port (e : Nat → Bool) (f : BitVec 8) (s : State) : (reportFrame e f s).port = s.port := by
  simp only [reportFrame]; split <;> (try split) <;> simp
@[simp] theorem reportFrame_save (e : Nat → Bool) (f : BitVec 8) (s : State) : (reportFrame e f s).save = s.save := by
  simp only [reportFrame]; split <;> (try split) <;> simp
@[simp] theorem reportFrame_clock (e : Nat → Bool) (f : BitVec 8) (s : State) : (reportFrame e f s).clock = s.clock := by
  simp only [reportFrame]; split <;> (try split) <;> simp
@[simp] theorem reportFrame_days (e : Nat → Bool) (f : BitVec 8) (s : State) : (reportFrame e f s).days = s.days := by
  simp only [reportFrame]; split <;> (try split) <;> simp
@[simp] theorem reportFrame_voices (e : Nat → Bool) (f : BitVec 8) (s : State) : (reportFrame e f s).voices = s.voices := by
  simp only [reportFrame]; split <;> (try split) <;> simp
@[simp] theorem reportFrame_mixer (e : Nat → Bool) (f : BitVec 8) (s : State) : (reportFrame e f s).mixer = s.mixer := by
  simp only [reportFrame]; split <;> (try split) <;> simp
@[simp] theorem reportFrame_rumble (e : Nat → Bool) (f : BitVec 8) (s : State) : (reportFrame e f s).rumble = s.rumble := by
  simp only [reportFrame]; split <;> (try split) <;> simp

/-! ## reportRumble -/

@[simp] theorem reportRumble_pending (r : RumbleReport) (s : State) : (reportRumble r s).pending = s.pending := by simp [reportRumble]
@[simp] theorem reportRumble_free (r : RumbleReport) (s : State) : (reportRumble r s).free = s.free := by simp [reportRumble]
@[simp] theorem reportRumble_srst (r : RumbleReport) (s : State) : (reportRumble r s).srst = s.srst := by simp [reportRumble]
@[simp] theorem reportRumble_rom (r : RumbleReport) (s : State) : (reportRumble r s).rom = s.rom := by simp [reportRumble]
@[simp] theorem reportRumble_sram (r : RumbleReport) (s : State) : (reportRumble r s).sram = s.sram := by simp [reportRumble]
@[simp] theorem reportRumble_supply (r : RumbleReport) (s : State) : (reportRumble r s).supply = s.supply := by simp [reportRumble]
@[simp] theorem reportRumble_dir (r : RumbleReport) (s : State) : (reportRumble r s).dir = s.dir := by simp [reportRumble]
@[simp] theorem reportRumble_port (r : RumbleReport) (s : State) : (reportRumble r s).port = s.port := by simp [reportRumble]
@[simp] theorem reportRumble_save (r : RumbleReport) (s : State) : (reportRumble r s).save = s.save := by simp [reportRumble]
@[simp] theorem reportRumble_clock (r : RumbleReport) (s : State) : (reportRumble r s).clock = s.clock := by simp [reportRumble]
@[simp] theorem reportRumble_days (r : RumbleReport) (s : State) : (reportRumble r s).days = s.days := by simp [reportRumble]
@[simp] theorem reportRumble_voices (r : RumbleReport) (s : State) : (reportRumble r s).voices = s.voices := by simp [reportRumble]
@[simp] theorem reportRumble_mixer (r : RumbleReport) (s : State) : (reportRumble r s).mixer = s.mixer := by simp [reportRumble]
@[simp] theorem reportRumble_rumble (r : RumbleReport) (s : State) : (reportRumble r s).rumble = s.rumble := by simp [reportRumble]

/-! ## reportLimiter -/

@[simp] theorem reportLimiter_pending (b a : Bool) (s : State) : (reportLimiter b a s).pending = s.pending := by
  simp only [reportLimiter]; split <;> simp
@[simp] theorem reportLimiter_free (b a : Bool) (s : State) : (reportLimiter b a s).free = s.free := by
  simp only [reportLimiter]; split <;> simp
@[simp] theorem reportLimiter_srst (b a : Bool) (s : State) : (reportLimiter b a s).srst = s.srst := by
  simp only [reportLimiter]; split <;> simp
@[simp] theorem reportLimiter_rom (b a : Bool) (s : State) : (reportLimiter b a s).rom = s.rom := by
  simp only [reportLimiter]; split <;> simp
@[simp] theorem reportLimiter_sram (b a : Bool) (s : State) : (reportLimiter b a s).sram = s.sram := by
  simp only [reportLimiter]; split <;> simp
@[simp] theorem reportLimiter_supply (b a : Bool) (s : State) : (reportLimiter b a s).supply = s.supply := by
  simp only [reportLimiter]; split <;> simp
@[simp] theorem reportLimiter_dir (b a : Bool) (s : State) : (reportLimiter b a s).dir = s.dir := by
  simp only [reportLimiter]; split <;> simp
@[simp] theorem reportLimiter_port (b a : Bool) (s : State) : (reportLimiter b a s).port = s.port := by
  simp only [reportLimiter]; split <;> simp
@[simp] theorem reportLimiter_save (b a : Bool) (s : State) : (reportLimiter b a s).save = s.save := by
  simp only [reportLimiter]; split <;> simp
@[simp] theorem reportLimiter_clock (b a : Bool) (s : State) : (reportLimiter b a s).clock = s.clock := by
  simp only [reportLimiter]; split <;> simp
@[simp] theorem reportLimiter_days (b a : Bool) (s : State) : (reportLimiter b a s).days = s.days := by
  simp only [reportLimiter]; split <;> simp
@[simp] theorem reportLimiter_voices (b a : Bool) (s : State) : (reportLimiter b a s).voices = s.voices := by
  simp only [reportLimiter]; split <;> simp
@[simp] theorem reportLimiter_mixer (b a : Bool) (s : State) : (reportLimiter b a s).mixer = s.mixer := by
  simp only [reportLimiter]; split <;> simp
@[simp] theorem reportLimiter_rumble (b a : Bool) (s : State) : (reportLimiter b a s).rumble = s.rumble := by
  simp only [reportLimiter]; split <;> simp

/-! ## heatStep -/

@[simp] theorem heatStep_pending (s : State) : (heatStep s).pending = s.pending := by
  simp only [heatStep]; split <;> simp
@[simp] theorem heatStep_free (s : State) : (heatStep s).free = s.free := by
  simp only [heatStep]; split <;> simp
@[simp] theorem heatStep_srst (s : State) : (heatStep s).srst = s.srst := by
  simp only [heatStep]; split <;> simp
@[simp] theorem heatStep_rom (s : State) : (heatStep s).rom = s.rom := by
  simp only [heatStep]; split <;> simp
@[simp] theorem heatStep_sram (s : State) : (heatStep s).sram = s.sram := by
  simp only [heatStep]; split <;> simp
@[simp] theorem heatStep_supply (s : State) : (heatStep s).supply = s.supply := by
  simp only [heatStep]; split <;> simp
@[simp] theorem heatStep_dir (s : State) : (heatStep s).dir = s.dir := by
  simp only [heatStep]; split <;> simp
@[simp] theorem heatStep_port (s : State) : (heatStep s).port = s.port := by
  simp only [heatStep]; split <;> simp
@[simp] theorem heatStep_save (s : State) : (heatStep s).save = s.save := by
  simp only [heatStep]; split <;> simp
@[simp] theorem heatStep_clock (s : State) : (heatStep s).clock = s.clock := by
  simp only [heatStep]; split <;> simp
@[simp] theorem heatStep_days (s : State) : (heatStep s).days = s.days := by
  simp only [heatStep]; split <;> simp
@[simp] theorem heatStep_voices (s : State) : (heatStep s).voices = s.voices := by
  simp only [heatStep]; split <;> simp
@[simp] theorem heatStep_mixer (s : State) : (heatStep s).mixer = s.mixer := by
  simp only [heatStep]; split <;> simp

/-! ## holdStep -/

@[simp] theorem holdStep_pending (s : State) : (holdStep s).pending = s.pending := by
  simp only [holdStep]; (repeat' split) <;> simp
@[simp] theorem holdStep_free (s : State) : (holdStep s).free = s.free := by
  simp only [holdStep]; (repeat' split) <;> simp
@[simp] theorem holdStep_srst (s : State) : (holdStep s).srst = s.srst := by
  simp only [holdStep]; (repeat' split) <;> simp
@[simp] theorem holdStep_rom (s : State) : (holdStep s).rom = s.rom := by
  simp only [holdStep]; (repeat' split) <;> simp
@[simp] theorem holdStep_sram (s : State) : (holdStep s).sram = s.sram := by
  simp only [holdStep]; (repeat' split) <;> simp
@[simp] theorem holdStep_supply (s : State) : (holdStep s).supply = s.supply := by
  simp only [holdStep]; (repeat' split) <;> simp
@[simp] theorem holdStep_dir (s : State) : (holdStep s).dir = s.dir := by
  simp only [holdStep]; (repeat' split) <;> simp
@[simp] theorem holdStep_port (s : State) : (holdStep s).port = s.port := by
  simp only [holdStep]; (repeat' split) <;> simp
@[simp] theorem holdStep_save (s : State) : (holdStep s).save = s.save := by
  simp only [holdStep]; (repeat' split) <;> simp
@[simp] theorem holdStep_clock (s : State) : (holdStep s).clock = s.clock := by
  simp only [holdStep]; (repeat' split) <;> simp
@[simp] theorem holdStep_days (s : State) : (holdStep s).days = s.days := by
  simp only [holdStep]; (repeat' split) <;> simp
@[simp] theorem holdStep_voices (s : State) : (holdStep s).voices = s.voices := by
  simp only [holdStep]; (repeat' split) <;> simp
@[simp] theorem holdStep_mixer (s : State) : (holdStep s).mixer = s.mixer := by
  simp only [holdStep]; (repeat' split) <;> simp

/-! ## demandStep -/

@[simp] theorem demandStep_pending (s : State) : (demandStep s).pending = s.pending := by simp [demandStep]
@[simp] theorem demandStep_free (s : State) : (demandStep s).free = s.free := by simp [demandStep]
@[simp] theorem demandStep_srst (s : State) : (demandStep s).srst = s.srst := by simp [demandStep]
@[simp] theorem demandStep_rom (s : State) : (demandStep s).rom = s.rom := by simp [demandStep]
@[simp] theorem demandStep_sram (s : State) : (demandStep s).sram = s.sram := by simp [demandStep]
@[simp] theorem demandStep_supply (s : State) : (demandStep s).supply = s.supply := by simp [demandStep]
@[simp] theorem demandStep_link (s : State) : (demandStep s).link = s.link := by simp [demandStep]
@[simp] theorem demandStep_dir (s : State) : (demandStep s).dir = s.dir := by simp [demandStep]
@[simp] theorem demandStep_port (s : State) : (demandStep s).port = s.port := by simp [demandStep]
@[simp] theorem demandStep_save (s : State) : (demandStep s).save = s.save := by simp [demandStep]
@[simp] theorem demandStep_clock (s : State) : (demandStep s).clock = s.clock := by simp [demandStep]
@[simp] theorem demandStep_days (s : State) : (demandStep s).days = s.days := by simp [demandStep]
@[simp] theorem demandStep_voices (s : State) : (demandStep s).voices = s.voices := by simp [demandStep]
@[simp] theorem demandStep_mixer (s : State) : (demandStep s).mixer = s.mixer := by simp [demandStep]

/-! ## endStep -/

@[simp] theorem endStep_pending (x : PlayerEntry) (s : State) : (endStep x s).pending = s.pending := by
  simp only [endStep]; split <;> (try split) <;> simp
@[simp] theorem endStep_free (x : PlayerEntry) (s : State) : (endStep x s).free = s.free := by
  simp only [endStep]; split <;> (try split) <;> simp
@[simp] theorem endStep_srst (x : PlayerEntry) (s : State) : (endStep x s).srst = s.srst := by
  simp only [endStep]; split <;> (try split) <;> simp
@[simp] theorem endStep_rom (x : PlayerEntry) (s : State) : (endStep x s).rom = s.rom := by
  simp only [endStep]; split <;> (try split) <;> simp
@[simp] theorem endStep_sram (x : PlayerEntry) (s : State) : (endStep x s).sram = s.sram := by
  simp only [endStep]; split <;> (try split) <;> simp
@[simp] theorem endStep_supply (x : PlayerEntry) (s : State) : (endStep x s).supply = s.supply := by
  simp only [endStep]; split <;> (try split) <;> simp
@[simp] theorem endStep_dir (x : PlayerEntry) (s : State) : (endStep x s).dir = s.dir := by
  simp only [endStep]; split <;> (try split) <;> simp
@[simp] theorem endStep_port (x : PlayerEntry) (s : State) : (endStep x s).port = s.port := by
  simp only [endStep]; split <;> (try split) <;> simp
@[simp] theorem endStep_save (x : PlayerEntry) (s : State) : (endStep x s).save = s.save := by
  simp only [endStep]; split <;> (try split) <;> simp
@[simp] theorem endStep_clock (x : PlayerEntry) (s : State) : (endStep x s).clock = s.clock := by
  simp only [endStep]; split <;> (try split) <;> simp
@[simp] theorem endStep_days (x : PlayerEntry) (s : State) : (endStep x s).days = s.days := by
  simp only [endStep]; split <;> (try split) <;> simp
@[simp] theorem endStep_voices (x : PlayerEntry) (s : State) : (endStep x s).voices = s.voices := by
  simp only [endStep]; split <;> (try split) <;> simp
@[simp] theorem endStep_mixer (x : PlayerEntry) (s : State) : (endStep x s).mixer = s.mixer := by
  simp only [endStep]; split <;> (try split) <;> simp

/-! ## advanceStep -/

@[simp] theorem advanceStep_pending (s : State) : (advanceStep s).pending = s.pending := by
  simp only [advanceStep]; split <;> (try split) <;> simp
@[simp] theorem advanceStep_free (s : State) : (advanceStep s).free = s.free := by
  simp only [advanceStep]; split <;> (try split) <;> simp
@[simp] theorem advanceStep_srst (s : State) : (advanceStep s).srst = s.srst := by
  simp only [advanceStep]; split <;> (try split) <;> simp
@[simp] theorem advanceStep_rom (s : State) : (advanceStep s).rom = s.rom := by
  simp only [advanceStep]; split <;> (try split) <;> simp
@[simp] theorem advanceStep_sram (s : State) : (advanceStep s).sram = s.sram := by
  simp only [advanceStep]; split <;> (try split) <;> simp
@[simp] theorem advanceStep_supply (s : State) : (advanceStep s).supply = s.supply := by
  simp only [advanceStep]; split <;> (try split) <;> simp
@[simp] theorem advanceStep_dir (s : State) : (advanceStep s).dir = s.dir := by
  simp only [advanceStep]; split <;> (try split) <;> simp
@[simp] theorem advanceStep_port (s : State) : (advanceStep s).port = s.port := by
  simp only [advanceStep]; split <;> (try split) <;> simp
@[simp] theorem advanceStep_save (s : State) : (advanceStep s).save = s.save := by
  simp only [advanceStep]; split <;> (try split) <;> simp
@[simp] theorem advanceStep_clock (s : State) : (advanceStep s).clock = s.clock := by
  simp only [advanceStep]; split <;> (try split) <;> simp
@[simp] theorem advanceStep_days (s : State) : (advanceStep s).days = s.days := by
  simp only [advanceStep]; split <;> (try split) <;> simp
@[simp] theorem advanceStep_voices (s : State) : (advanceStep s).voices = s.voices := by
  simp only [advanceStep]; split <;> (try split) <;> simp
@[simp] theorem advanceStep_mixer (s : State) : (advanceStep s).mixer = s.mixer := by
  simp only [advanceStep]; split <;> (try split) <;> simp

/-! ## tickWork -/

@[simp] theorem tickWork_pending (s : State) : (tickWork s).pending = s.pending := by simp [tickWork]
@[simp] theorem tickWork_free (s : State) : (tickWork s).free = s.free := by simp [tickWork]
@[simp] theorem tickWork_srst (s : State) : (tickWork s).srst = s.srst := by simp [tickWork]
@[simp] theorem tickWork_rom (s : State) : (tickWork s).rom = s.rom := by simp [tickWork]
@[simp] theorem tickWork_sram (s : State) : (tickWork s).sram = s.sram := by simp [tickWork]
@[simp] theorem tickWork_supply (s : State) : (tickWork s).supply = s.supply := by simp [tickWork]
@[simp] theorem tickWork_dir (s : State) : (tickWork s).dir = s.dir := by simp [tickWork]
@[simp] theorem tickWork_port (s : State) : (tickWork s).port = s.port := by simp [tickWork]
@[simp] theorem tickWork_save (s : State) : (tickWork s).save = s.save := by simp [tickWork]
@[simp] theorem tickWork_clock (s : State) : (tickWork s).clock = s.clock := by simp [tickWork]
@[simp] theorem tickWork_days (s : State) : (tickWork s).days = s.days := by simp [tickWork]
@[simp] theorem tickWork_voices (s : State) : (tickWork s).voices = s.voices := by simp [tickWork]
@[simp] theorem tickWork_mixer (s : State) : (tickWork s).mixer = s.mixer := by simp [tickWork]

/-! ## shed -/

@[simp] theorem shed_pending (s : State) : (shed s).pending = s.pending := by simp [shed]
@[simp] theorem shed_free (s : State) : (shed s).free = s.free := by simp [shed]
@[simp] theorem shed_srst (s : State) : (shed s).srst = s.srst := by simp [shed]
@[simp] theorem shed_rom (s : State) : (shed s).rom = s.rom := by simp [shed]
@[simp] theorem shed_sram (s : State) : (shed s).sram = s.sram := by simp [shed]
@[simp] theorem shed_supply (s : State) : (shed s).supply = s.supply := by simp [shed]
@[simp] theorem shed_dir (s : State) : (shed s).dir = s.dir := by simp [shed]
@[simp] theorem shed_port (s : State) : (shed s).port = s.port := by simp [shed]
@[simp] theorem shed_save (s : State) : (shed s).save = s.save := by simp [shed]
@[simp] theorem shed_clock (s : State) : (shed s).clock = s.clock := by simp [shed]
@[simp] theorem shed_days (s : State) : (shed s).days = s.days := by simp [shed]
@[simp] theorem shed_voices (s : State) : (shed s).voices = s.voices := by simp [shed]
@[simp] theorem shed_mixer (s : State) : (shed s).mixer = s.mixer := by simp [shed]

/-! ## changeSupply -/

@[simp] theorem changeSupply_pending (st : SupplyState) (s : State) : (changeSupply st s).pending = s.pending := by simp [changeSupply]
@[simp] theorem changeSupply_free (st : SupplyState) (s : State) : (changeSupply st s).free = s.free := by simp [changeSupply]
@[simp] theorem changeSupply_srst (st : SupplyState) (s : State) : (changeSupply st s).srst = s.srst := by simp [changeSupply]
@[simp] theorem changeSupply_rom (st : SupplyState) (s : State) : (changeSupply st s).rom = s.rom := by simp [changeSupply]
@[simp] theorem changeSupply_sram (st : SupplyState) (s : State) : (changeSupply st s).sram = s.sram := by simp [changeSupply]
@[simp] theorem changeSupply_dir (st : SupplyState) (s : State) : (changeSupply st s).dir = s.dir := by simp [changeSupply]
@[simp] theorem changeSupply_port (st : SupplyState) (s : State) : (changeSupply st s).port = s.port := by simp [changeSupply]
@[simp] theorem changeSupply_save (st : SupplyState) (s : State) : (changeSupply st s).save = s.save := by simp [changeSupply]
@[simp] theorem changeSupply_clock (st : SupplyState) (s : State) : (changeSupply st s).clock = s.clock := by simp [changeSupply]
@[simp] theorem changeSupply_days (st : SupplyState) (s : State) : (changeSupply st s).days = s.days := by simp [changeSupply]
@[simp] theorem changeSupply_voices (st : SupplyState) (s : State) : (changeSupply st s).voices = s.voices := by simp [changeSupply]
@[simp] theorem changeSupply_mixer (st : SupplyState) (s : State) : (changeSupply st s).mixer = s.mixer := by simp [changeSupply]
@[simp] theorem changeSupply_rumble (st : SupplyState) (s : State) : (changeSupply st s).rumble = s.rumble := by simp [changeSupply]

/-! ## enterWarn -/

@[simp] theorem enterWarn_pending (s : State) : (enterWarn s).pending = s.pending := by simp [enterWarn]
@[simp] theorem enterWarn_free (s : State) : (enterWarn s).free = s.free := by simp [enterWarn]
@[simp] theorem enterWarn_srst (s : State) : (enterWarn s).srst = s.srst := by simp [enterWarn]
@[simp] theorem enterWarn_rom (s : State) : (enterWarn s).rom = s.rom := by simp [enterWarn]
@[simp] theorem enterWarn_sram (s : State) : (enterWarn s).sram = s.sram := by simp [enterWarn]
@[simp] theorem enterWarn_dir (s : State) : (enterWarn s).dir = s.dir := by simp [enterWarn]
@[simp] theorem enterWarn_clock (s : State) : (enterWarn s).clock = s.clock := by simp [enterWarn]

/-! ## reportLimit -/

@[simp] theorem reportLimit_pending (s : State) : (reportLimit s).pending = s.pending := by
  simp only [reportLimit]; split <;> simp
@[simp] theorem reportLimit_free (s : State) : (reportLimit s).free = s.free := by
  simp only [reportLimit]; split <;> simp
@[simp] theorem reportLimit_srst (s : State) : (reportLimit s).srst = s.srst := by
  simp only [reportLimit]; split <;> simp
@[simp] theorem reportLimit_rom (s : State) : (reportLimit s).rom = s.rom := by
  simp only [reportLimit]; split <;> simp
@[simp] theorem reportLimit_sram (s : State) : (reportLimit s).sram = s.sram := by
  simp only [reportLimit]; split <;> simp
@[simp] theorem reportLimit_supply (s : State) : (reportLimit s).supply = s.supply := by
  simp only [reportLimit]; split <;> simp
@[simp] theorem reportLimit_dir (s : State) : (reportLimit s).dir = s.dir := by
  simp only [reportLimit]; split <;> simp
@[simp] theorem reportLimit_port (s : State) : (reportLimit s).port = s.port := by
  simp only [reportLimit]; split <;> simp
@[simp] theorem reportLimit_save (s : State) : (reportLimit s).save = s.save := by
  simp only [reportLimit]; split <;> simp
@[simp] theorem reportLimit_days (s : State) : (reportLimit s).days = s.days := by
  simp only [reportLimit]; split <;> simp
@[simp] theorem reportLimit_voices (s : State) : (reportLimit s).voices = s.voices := by
  simp only [reportLimit]; split <;> simp
@[simp] theorem reportLimit_mixer (s : State) : (reportLimit s).mixer = s.mixer := by
  simp only [reportLimit]; split <;> simp
@[simp] theorem reportLimit_rumble (s : State) : (reportLimit s).rumble = s.rumble := by
  simp only [reportLimit]; split <;> simp

/-! ## endRange -/

@[simp] theorem endRange_pending (s : State) : (endRange s).pending = s.pending := by simp [endRange]
@[simp] theorem endRange_free (s : State) : (endRange s).free = s.free := by simp [endRange]
@[simp] theorem endRange_srst (s : State) : (endRange s).srst = s.srst := by simp [endRange]
@[simp] theorem endRange_rom (s : State) : (endRange s).rom = s.rom := by simp [endRange]
@[simp] theorem endRange_sram (s : State) : (endRange s).sram = s.sram := by simp [endRange]
@[simp] theorem endRange_supply (s : State) : (endRange s).supply = s.supply := by simp [endRange]
@[simp] theorem endRange_dir (s : State) : (endRange s).dir = s.dir := by simp [endRange]
@[simp] theorem endRange_port (s : State) : (endRange s).port = s.port := by simp [endRange]
@[simp] theorem endRange_save (s : State) : (endRange s).save = s.save := by simp [endRange]
@[simp] theorem endRange_days (s : State) : (endRange s).days = s.days := by simp [endRange]
@[simp] theorem endRange_voices (s : State) : (endRange s).voices = s.voices := by simp [endRange]
@[simp] theorem endRange_mixer (s : State) : (endRange s).mixer = s.mixer := by simp [endRange]
@[simp] theorem endRange_rumble (s : State) : (endRange s).rumble = s.rumble := by simp [endRange]

/-! ## retryClockSlot -/

@[simp] theorem retryClockSlot_pending (s : State) : (retryClockSlot s).pending = s.pending := by
  simp only [retryClockSlot]; split <;> simp
@[simp] theorem retryClockSlot_free (s : State) : (retryClockSlot s).free = s.free := by
  simp only [retryClockSlot]; split <;> simp
@[simp] theorem retryClockSlot_srst (s : State) : (retryClockSlot s).srst = s.srst := by
  simp only [retryClockSlot]; split <;> simp
@[simp] theorem retryClockSlot_rom (s : State) : (retryClockSlot s).rom = s.rom := by
  simp only [retryClockSlot]; split <;> simp
@[simp] theorem retryClockSlot_sram (s : State) : (retryClockSlot s).sram = s.sram := by
  simp only [retryClockSlot]; split <;> simp
@[simp] theorem retryClockSlot_supply (s : State) : (retryClockSlot s).supply = s.supply := by
  simp only [retryClockSlot]; split <;> simp
@[simp] theorem retryClockSlot_link (s : State) : (retryClockSlot s).link = s.link := by
  simp only [retryClockSlot]; split <;> simp
@[simp] theorem retryClockSlot_dir (s : State) : (retryClockSlot s).dir = s.dir := by
  simp only [retryClockSlot]; split <;> simp
@[simp] theorem retryClockSlot_port (s : State) : (retryClockSlot s).port = s.port := by
  simp only [retryClockSlot]; split <;> simp
@[simp] theorem retryClockSlot_clock (s : State) : (retryClockSlot s).clock = s.clock := by
  simp only [retryClockSlot]; split <;> simp
@[simp] theorem retryClockSlot_days (s : State) : (retryClockSlot s).days = s.days := by
  simp only [retryClockSlot]; split <;> simp
@[simp] theorem retryClockSlot_voices (s : State) : (retryClockSlot s).voices = s.voices := by
  simp only [retryClockSlot]; split <;> simp
@[simp] theorem retryClockSlot_mixer (s : State) : (retryClockSlot s).mixer = s.mixer := by
  simp only [retryClockSlot]; split <;> simp
@[simp] theorem retryClockSlot_rumble (s : State) : (retryClockSlot s).rumble = s.rumble := by
  simp only [retryClockSlot]; split <;> simp

/-! ## recordEnding -/

@[simp] theorem recordEnding_pending (id : SlotId) (r : OutcomeRecord) (s : State) : (recordEnding id r s).pending = s.pending := by
  simp only [recordEnding]; split <;> simp
@[simp] theorem recordEnding_free (id : SlotId) (r : OutcomeRecord) (s : State) : (recordEnding id r s).free = s.free := by
  simp only [recordEnding]; split <;> simp
@[simp] theorem recordEnding_srst (id : SlotId) (r : OutcomeRecord) (s : State) : (recordEnding id r s).srst = s.srst := by
  simp only [recordEnding]; split <;> simp
@[simp] theorem recordEnding_rom (id : SlotId) (r : OutcomeRecord) (s : State) : (recordEnding id r s).rom = s.rom := by
  simp only [recordEnding]; split <;> simp
@[simp] theorem recordEnding_sram (id : SlotId) (r : OutcomeRecord) (s : State) : (recordEnding id r s).sram = s.sram := by
  simp only [recordEnding]; split <;> simp
@[simp] theorem recordEnding_supply (id : SlotId) (r : OutcomeRecord) (s : State) : (recordEnding id r s).supply = s.supply := by
  simp only [recordEnding]; split <;> simp
@[simp] theorem recordEnding_link (id : SlotId) (r : OutcomeRecord) (s : State) : (recordEnding id r s).link = s.link := by
  simp only [recordEnding]; split <;> simp
@[simp] theorem recordEnding_dir (id : SlotId) (r : OutcomeRecord) (s : State) : (recordEnding id r s).dir = s.dir := by
  simp only [recordEnding]; split <;> simp
@[simp] theorem recordEnding_port (id : SlotId) (r : OutcomeRecord) (s : State) : (recordEnding id r s).port = s.port := by
  simp only [recordEnding]; split <;> simp
@[simp] theorem recordEnding_clock (id : SlotId) (r : OutcomeRecord) (s : State) : (recordEnding id r s).clock = s.clock := by
  simp only [recordEnding]; split <;> simp
@[simp] theorem recordEnding_days (id : SlotId) (r : OutcomeRecord) (s : State) : (recordEnding id r s).days = s.days := by
  simp only [recordEnding]; split <;> simp
@[simp] theorem recordEnding_voices (id : SlotId) (r : OutcomeRecord) (s : State) : (recordEnding id r s).voices = s.voices := by
  simp only [recordEnding]; split <;> simp
@[simp] theorem recordEnding_mixer (id : SlotId) (r : OutcomeRecord) (s : State) : (recordEnding id r s).mixer = s.mixer := by
  simp only [recordEnding]; split <;> simp
@[simp] theorem recordEnding_rumble (id : SlotId) (r : OutcomeRecord) (s : State) : (recordEnding id r s).rumble = s.rumble := by
  simp only [recordEnding]; split <;> simp

/-! ## reportEnding -/

@[simp] theorem reportEnding_pending (id : SlotId) (r : OutcomeRecord) (s : State) : (reportEnding id r s).pending = s.pending := by
  simp only [reportEnding]; split <;> simp
@[simp] theorem reportEnding_free (id : SlotId) (r : OutcomeRecord) (s : State) : (reportEnding id r s).free = s.free := by
  simp only [reportEnding]; split <;> simp
@[simp] theorem reportEnding_srst (id : SlotId) (r : OutcomeRecord) (s : State) : (reportEnding id r s).srst = s.srst := by
  simp only [reportEnding]; split <;> simp
@[simp] theorem reportEnding_rom (id : SlotId) (r : OutcomeRecord) (s : State) : (reportEnding id r s).rom = s.rom := by
  simp only [reportEnding]; split <;> simp
@[simp] theorem reportEnding_sram (id : SlotId) (r : OutcomeRecord) (s : State) : (reportEnding id r s).sram = s.sram := by
  simp only [reportEnding]; split <;> simp
@[simp] theorem reportEnding_supply (id : SlotId) (r : OutcomeRecord) (s : State) : (reportEnding id r s).supply = s.supply := by
  simp only [reportEnding]; split <;> simp
@[simp] theorem reportEnding_dir (id : SlotId) (r : OutcomeRecord) (s : State) : (reportEnding id r s).dir = s.dir := by
  simp only [reportEnding]; split <;> simp
@[simp] theorem reportEnding_port (id : SlotId) (r : OutcomeRecord) (s : State) : (reportEnding id r s).port = s.port := by
  simp only [reportEnding]; split <;> simp
@[simp] theorem reportEnding_save (id : SlotId) (r : OutcomeRecord) (s : State) : (reportEnding id r s).save = s.save := by
  simp only [reportEnding]; split <;> simp
@[simp] theorem reportEnding_clock (id : SlotId) (r : OutcomeRecord) (s : State) : (reportEnding id r s).clock = s.clock := by
  simp only [reportEnding]; split <;> simp
@[simp] theorem reportEnding_days (id : SlotId) (r : OutcomeRecord) (s : State) : (reportEnding id r s).days = s.days := by
  simp only [reportEnding]; split <;> simp
@[simp] theorem reportEnding_voices (id : SlotId) (r : OutcomeRecord) (s : State) : (reportEnding id r s).voices = s.voices := by
  simp only [reportEnding]; split <;> simp
@[simp] theorem reportEnding_mixer (id : SlotId) (r : OutcomeRecord) (s : State) : (reportEnding id r s).mixer = s.mixer := by
  simp only [reportEnding]; split <;> simp
@[simp] theorem reportEnding_rumble (id : SlotId) (r : OutcomeRecord) (s : State) : (reportEnding id r s).rumble = s.rumble := by
  simp only [reportEnding]; split <;> simp

/-! ## rewriteDays -/

@[simp] theorem rewriteDays_pending (id : SlotId) (t : Nat) (s : State) : (rewriteDays id t s).pending = s.pending := by
  simp only [rewriteDays]; split <;> (try split) <;> simp
@[simp] theorem rewriteDays_free (id : SlotId) (t : Nat) (s : State) : (rewriteDays id t s).free = s.free := by
  simp only [rewriteDays]; split <;> (try split) <;> simp
@[simp] theorem rewriteDays_srst (id : SlotId) (t : Nat) (s : State) : (rewriteDays id t s).srst = s.srst := by
  simp only [rewriteDays]; split <;> (try split) <;> simp
@[simp] theorem rewriteDays_rom (id : SlotId) (t : Nat) (s : State) : (rewriteDays id t s).rom = s.rom := by
  simp only [rewriteDays]; split <;> (try split) <;> simp
@[simp] theorem rewriteDays_sram (id : SlotId) (t : Nat) (s : State) : (rewriteDays id t s).sram = s.sram := by
  simp only [rewriteDays]; split <;> (try split) <;> simp
@[simp] theorem rewriteDays_supply (id : SlotId) (t : Nat) (s : State) : (rewriteDays id t s).supply = s.supply := by
  simp only [rewriteDays]; split <;> (try split) <;> simp
@[simp] theorem rewriteDays_dir (id : SlotId) (t : Nat) (s : State) : (rewriteDays id t s).dir = s.dir := by
  simp only [rewriteDays]; split <;> (try split) <;> simp
@[simp] theorem rewriteDays_port (id : SlotId) (t : Nat) (s : State) : (rewriteDays id t s).port = s.port := by
  simp only [rewriteDays]; split <;> (try split) <;> simp
@[simp] theorem rewriteDays_save (id : SlotId) (t : Nat) (s : State) : (rewriteDays id t s).save = s.save := by
  simp only [rewriteDays]; split <;> (try split) <;> simp
@[simp] theorem rewriteDays_clock (id : SlotId) (t : Nat) (s : State) : (rewriteDays id t s).clock = s.clock := by
  simp only [rewriteDays]; split <;> (try split) <;> simp
@[simp] theorem rewriteDays_voices (id : SlotId) (t : Nat) (s : State) : (rewriteDays id t s).voices = s.voices := by
  simp only [rewriteDays]; split <;> (try split) <;> simp
@[simp] theorem rewriteDays_mixer (id : SlotId) (t : Nat) (s : State) : (rewriteDays id t s).mixer = s.mixer := by
  simp only [rewriteDays]; split <;> (try split) <;> simp
@[simp] theorem rewriteDays_rumble (id : SlotId) (t : Nat) (s : State) : (rewriteDays id t s).rumble = s.rumble := by
  simp only [rewriteDays]; split <;> (try split) <;> simp

/-! ## discardCollecting -/

@[simp] theorem discardCollecting_pending (s : State) : (discardCollecting s).pending = s.pending := by
  simp only [discardCollecting]; split <;> simp
@[simp] theorem discardCollecting_free (s : State) : (discardCollecting s).free = s.free := by
  simp only [discardCollecting]; split <;> simp
@[simp] theorem discardCollecting_srst (s : State) : (discardCollecting s).srst = s.srst := by
  simp only [discardCollecting]; split <;> simp
@[simp] theorem discardCollecting_rom (s : State) : (discardCollecting s).rom = s.rom := by
  simp only [discardCollecting]; split <;> simp
@[simp] theorem discardCollecting_sram (s : State) : (discardCollecting s).sram = s.sram := by
  simp only [discardCollecting]; split <;> simp
@[simp] theorem discardCollecting_supply (s : State) : (discardCollecting s).supply = s.supply := by
  simp only [discardCollecting]; split <;> simp
@[simp] theorem discardCollecting_link (s : State) : (discardCollecting s).link = s.link := by
  simp only [discardCollecting]; split <;> simp
@[simp] theorem discardCollecting_dir (s : State) : (discardCollecting s).dir = s.dir := by
  simp only [discardCollecting]; split <;> simp
@[simp] theorem discardCollecting_port (s : State) : (discardCollecting s).port = s.port := by
  simp only [discardCollecting]; split <;> simp
@[simp] theorem discardCollecting_clock (s : State) : (discardCollecting s).clock = s.clock := by
  simp only [discardCollecting]; split <;> simp
@[simp] theorem discardCollecting_days (s : State) : (discardCollecting s).days = s.days := by
  simp only [discardCollecting]; split <;> simp
@[simp] theorem discardCollecting_voices (s : State) : (discardCollecting s).voices = s.voices := by
  simp only [discardCollecting]; split <;> simp
@[simp] theorem discardCollecting_mixer (s : State) : (discardCollecting s).mixer = s.mixer := by
  simp only [discardCollecting]; split <;> simp
@[simp] theorem discardCollecting_rumble (s : State) : (discardCollecting s).rumble = s.rumble := by
  simp only [discardCollecting]; split <;> simp

/-! ## stopVoice -/

@[simp] theorem stopVoice_pending (n : Nat) (s : State) : (stopVoice n s).pending = s.pending := by
  simp only [stopVoice]; split <;> simp
@[simp] theorem stopVoice_free (n : Nat) (s : State) : (stopVoice n s).free = s.free := by
  simp only [stopVoice]; split <;> simp
@[simp] theorem stopVoice_srst (n : Nat) (s : State) : (stopVoice n s).srst = s.srst := by
  simp only [stopVoice]; split <;> simp
@[simp] theorem stopVoice_rom (n : Nat) (s : State) : (stopVoice n s).rom = s.rom := by
  simp only [stopVoice]; split <;> simp
@[simp] theorem stopVoice_sram (n : Nat) (s : State) : (stopVoice n s).sram = s.sram := by
  simp only [stopVoice]; split <;> simp
@[simp] theorem stopVoice_supply (n : Nat) (s : State) : (stopVoice n s).supply = s.supply := by
  simp only [stopVoice]; split <;> simp
@[simp] theorem stopVoice_link (n : Nat) (s : State) : (stopVoice n s).link = s.link := by
  simp only [stopVoice]; split <;> simp
@[simp] theorem stopVoice_dir (n : Nat) (s : State) : (stopVoice n s).dir = s.dir := by
  simp only [stopVoice]; split <;> simp
@[simp] theorem stopVoice_save (n : Nat) (s : State) : (stopVoice n s).save = s.save := by
  simp only [stopVoice]; split <;> simp
@[simp] theorem stopVoice_clock (n : Nat) (s : State) : (stopVoice n s).clock = s.clock := by
  simp only [stopVoice]; split <;> simp
@[simp] theorem stopVoice_days (n : Nat) (s : State) : (stopVoice n s).days = s.days := by
  simp only [stopVoice]; split <;> simp
@[simp] theorem stopVoice_mixer (n : Nat) (s : State) : (stopVoice n s).mixer = s.mixer := by
  simp only [stopVoice]; split <;> simp
@[simp] theorem stopVoice_rumble (n : Nat) (s : State) : (stopVoice n s).rumble = s.rumble := by
  simp only [stopVoice]; split <;> simp

/-! ## deliverRefill -/

@[simp] theorem deliverRefill_pending (n a : Nat) (st : Bool) (bs : List Byte) (s : State) : (deliverRefill n a st bs s).pending = s.pending := by
  simp only [deliverRefill]; split <;> simp
@[simp] theorem deliverRefill_free (n a : Nat) (st : Bool) (bs : List Byte) (s : State) : (deliverRefill n a st bs s).free = s.free := by
  simp only [deliverRefill]; split <;> simp
@[simp] theorem deliverRefill_srst (n a : Nat) (st : Bool) (bs : List Byte) (s : State) : (deliverRefill n a st bs s).srst = s.srst := by
  simp only [deliverRefill]; split <;> simp
@[simp] theorem deliverRefill_rom (n a : Nat) (st : Bool) (bs : List Byte) (s : State) : (deliverRefill n a st bs s).rom = s.rom := by
  simp only [deliverRefill]; split <;> simp
@[simp] theorem deliverRefill_sram (n a : Nat) (st : Bool) (bs : List Byte) (s : State) : (deliverRefill n a st bs s).sram = s.sram := by
  simp only [deliverRefill]; split <;> simp
@[simp] theorem deliverRefill_supply (n a : Nat) (st : Bool) (bs : List Byte) (s : State) : (deliverRefill n a st bs s).supply = s.supply := by
  simp only [deliverRefill]; split <;> simp
@[simp] theorem deliverRefill_link (n a : Nat) (st : Bool) (bs : List Byte) (s : State) : (deliverRefill n a st bs s).link = s.link := by
  simp only [deliverRefill]; split <;> simp
@[simp] theorem deliverRefill_dir (n a : Nat) (st : Bool) (bs : List Byte) (s : State) : (deliverRefill n a st bs s).dir = s.dir := by
  simp only [deliverRefill]; split <;> simp
@[simp] theorem deliverRefill_port (n a : Nat) (st : Bool) (bs : List Byte) (s : State) : (deliverRefill n a st bs s).port = s.port := by
  simp only [deliverRefill]; split <;> simp
@[simp] theorem deliverRefill_save (n a : Nat) (st : Bool) (bs : List Byte) (s : State) : (deliverRefill n a st bs s).save = s.save := by
  simp only [deliverRefill]; split <;> simp
@[simp] theorem deliverRefill_clock (n a : Nat) (st : Bool) (bs : List Byte) (s : State) : (deliverRefill n a st bs s).clock = s.clock := by
  simp only [deliverRefill]; split <;> simp
@[simp] theorem deliverRefill_days (n a : Nat) (st : Bool) (bs : List Byte) (s : State) : (deliverRefill n a st bs s).days = s.days := by
  simp only [deliverRefill]; split <;> simp
@[simp] theorem deliverRefill_mixer (n a : Nat) (st : Bool) (bs : List Byte) (s : State) : (deliverRefill n a st bs s).mixer = s.mixer := by
  simp only [deliverRefill]; split <;> simp
@[simp] theorem deliverRefill_rumble (n a : Nat) (st : Bool) (bs : List Byte) (s : State) : (deliverRefill n a st bs s).rumble = s.rumble := by
  simp only [deliverRefill]; split <;> simp

/-! ## deliverRead -/

@[simp] theorem deliverRead_pending (r : LinkRead) (st : Bool) (bs : List Byte) (s : State) : (deliverRead r st bs s).pending = s.pending := by
  simp only [deliverRead]; split <;> simp
@[simp] theorem deliverRead_free (r : LinkRead) (st : Bool) (bs : List Byte) (s : State) : (deliverRead r st bs s).free = s.free := by
  simp only [deliverRead]; split <;> simp
@[simp] theorem deliverRead_srst (r : LinkRead) (st : Bool) (bs : List Byte) (s : State) : (deliverRead r st bs s).srst = s.srst := by
  simp only [deliverRead]; split <;> simp
@[simp] theorem deliverRead_rom (r : LinkRead) (st : Bool) (bs : List Byte) (s : State) : (deliverRead r st bs s).rom = s.rom := by
  simp only [deliverRead]; split <;> simp
@[simp] theorem deliverRead_sram (r : LinkRead) (st : Bool) (bs : List Byte) (s : State) : (deliverRead r st bs s).sram = s.sram := by
  simp only [deliverRead]; split <;> simp
@[simp] theorem deliverRead_supply (r : LinkRead) (st : Bool) (bs : List Byte) (s : State) : (deliverRead r st bs s).supply = s.supply := by
  simp only [deliverRead]; split <;> simp
@[simp] theorem deliverRead_dir (r : LinkRead) (st : Bool) (bs : List Byte) (s : State) : (deliverRead r st bs s).dir = s.dir := by
  simp only [deliverRead]; split <;> simp
@[simp] theorem deliverRead_port (r : LinkRead) (st : Bool) (bs : List Byte) (s : State) : (deliverRead r st bs s).port = s.port := by
  simp only [deliverRead]; split <;> simp
@[simp] theorem deliverRead_save (r : LinkRead) (st : Bool) (bs : List Byte) (s : State) : (deliverRead r st bs s).save = s.save := by
  simp only [deliverRead]; split <;> simp
@[simp] theorem deliverRead_clock (r : LinkRead) (st : Bool) (bs : List Byte) (s : State) : (deliverRead r st bs s).clock = s.clock := by
  simp only [deliverRead]; split <;> simp
@[simp] theorem deliverRead_days (r : LinkRead) (st : Bool) (bs : List Byte) (s : State) : (deliverRead r st bs s).days = s.days := by
  simp only [deliverRead]; split <;> simp
@[simp] theorem deliverRead_voices (r : LinkRead) (st : Bool) (bs : List Byte) (s : State) : (deliverRead r st bs s).voices = s.voices := by
  simp only [deliverRead]; split <;> simp
@[simp] theorem deliverRead_mixer (r : LinkRead) (st : Bool) (bs : List Byte) (s : State) : (deliverRead r st bs s).mixer = s.mixer := by
  simp only [deliverRead]; split <;> simp
@[simp] theorem deliverRead_rumble (r : LinkRead) (st : Bool) (bs : List Byte) (s : State) : (deliverRead r st bs s).rumble = s.rumble := by
  simp only [deliverRead]; split <;> simp

/-! ## endScan -/

@[simp] theorem endScan_pending (s : State) : (endScan s).pending = s.pending := by simp [endScan]
@[simp] theorem endScan_free (s : State) : (endScan s).free = s.free := by simp [endScan]
@[simp] theorem endScan_srst (s : State) : (endScan s).srst = s.srst := by simp [endScan]
@[simp] theorem endScan_rom (s : State) : (endScan s).rom = s.rom := by simp [endScan]
@[simp] theorem endScan_sram (s : State) : (endScan s).sram = s.sram := by simp [endScan]
@[simp] theorem endScan_link (s : State) : (endScan s).link = s.link := by simp [endScan]
@[simp] theorem endScan_dir (s : State) : (endScan s).dir = s.dir := by simp [endScan]
@[simp] theorem endScan_port (s : State) : (endScan s).port = s.port := by simp [endScan]
@[simp] theorem endScan_clock (s : State) : (endScan s).clock = s.clock := by simp [endScan]
@[simp] theorem endScan_days (s : State) : (endScan s).days = s.days := by simp [endScan]
@[simp] theorem endScan_voices (s : State) : (endScan s).voices = s.voices := by simp [endScan]
@[simp] theorem endScan_mixer (s : State) : (endScan s).mixer = s.mixer := by simp [endScan]
@[simp] theorem endScan_rumble (s : State) : (endScan s).rumble = s.rumble := by simp [endScan]

/-! ## scanFrom -/

@[simp] theorem scanFrom_pending (i : Nat) (s : State) : (scanFrom i s).pending = s.pending := by
  simp only [scanFrom]; split <;> simp
@[simp] theorem scanFrom_free (i : Nat) (s : State) : (scanFrom i s).free = s.free := by
  simp only [scanFrom]; split <;> simp
@[simp] theorem scanFrom_srst (i : Nat) (s : State) : (scanFrom i s).srst = s.srst := by
  simp only [scanFrom]; split <;> simp
@[simp] theorem scanFrom_rom (i : Nat) (s : State) : (scanFrom i s).rom = s.rom := by
  simp only [scanFrom]; split <;> simp
@[simp] theorem scanFrom_sram (i : Nat) (s : State) : (scanFrom i s).sram = s.sram := by
  simp only [scanFrom]; split <;> simp
@[simp] theorem scanFrom_link (i : Nat) (s : State) : (scanFrom i s).link = s.link := by
  simp only [scanFrom]; split <;> simp
@[simp] theorem scanFrom_dir (i : Nat) (s : State) : (scanFrom i s).dir = s.dir := by
  simp only [scanFrom]; split <;> simp
@[simp] theorem scanFrom_clock (i : Nat) (s : State) : (scanFrom i s).clock = s.clock := by
  simp only [scanFrom]; split <;> simp
@[simp] theorem scanFrom_days (i : Nat) (s : State) : (scanFrom i s).days = s.days := by
  simp only [scanFrom]; split <;> simp
@[simp] theorem scanFrom_voices (i : Nat) (s : State) : (scanFrom i s).voices = s.voices := by
  simp only [scanFrom]; split <;> simp
@[simp] theorem scanFrom_mixer (i : Nat) (s : State) : (scanFrom i s).mixer = s.mixer := by
  simp only [scanFrom]; split <;> simp
@[simp] theorem scanFrom_rumble (i : Nat) (s : State) : (scanFrom i s).rumble = s.rumble := by
  simp only [scanFrom]; split <;> simp

/-! ## handDays -/

@[simp] theorem handDays_pending (r : Nat) (bs : List Byte) (s : State) : (handDays r bs s).pending = s.pending := by
  simp only [handDays]; split <;> simp
@[simp] theorem handDays_free (r : Nat) (bs : List Byte) (s : State) : (handDays r bs s).free = s.free := by
  simp only [handDays]; split <;> simp
@[simp] theorem handDays_srst (r : Nat) (bs : List Byte) (s : State) : (handDays r bs s).srst = s.srst := by
  simp only [handDays]; split <;> simp
@[simp] theorem handDays_rom (r : Nat) (bs : List Byte) (s : State) : (handDays r bs s).rom = s.rom := by
  simp only [handDays]; split <;> simp
@[simp] theorem handDays_sram (r : Nat) (bs : List Byte) (s : State) : (handDays r bs s).sram = s.sram := by
  simp only [handDays]; split <;> simp
@[simp] theorem handDays_supply (r : Nat) (bs : List Byte) (s : State) : (handDays r bs s).supply = s.supply := by
  simp only [handDays]; split <;> simp
@[simp] theorem handDays_link (r : Nat) (bs : List Byte) (s : State) : (handDays r bs s).link = s.link := by
  simp only [handDays]; split <;> simp
@[simp] theorem handDays_dir (r : Nat) (bs : List Byte) (s : State) : (handDays r bs s).dir = s.dir := by
  simp only [handDays]; split <;> simp
@[simp] theorem handDays_port (r : Nat) (bs : List Byte) (s : State) : (handDays r bs s).port = s.port := by
  simp only [handDays]; split <;> simp
@[simp] theorem handDays_save (r : Nat) (bs : List Byte) (s : State) : (handDays r bs s).save = s.save := by
  simp only [handDays]; split <;> simp
@[simp] theorem handDays_clock (r : Nat) (bs : List Byte) (s : State) : (handDays r bs s).clock = s.clock := by
  simp only [handDays]; split <;> simp
@[simp] theorem handDays_voices (r : Nat) (bs : List Byte) (s : State) : (handDays r bs s).voices = s.voices := by
  simp only [handDays]; split <;> simp
@[simp] theorem handDays_mixer (r : Nat) (bs : List Byte) (s : State) : (handDays r bs s).mixer = s.mixer := by
  simp only [handDays]; split <;> simp
@[simp] theorem handDays_rumble (r : Nat) (bs : List Byte) (s : State) : (handDays r bs s).rumble = s.rumble := by
  simp only [handDays]; split <;> simp

/-! ## judgeRegion -/

@[simp] theorem judgeRegion_pending (r sum : Nat) (s : State) : (judgeRegion r sum s).pending = s.pending := by
  simp only [judgeRegion]; split <;> simp
@[simp] theorem judgeRegion_free (r sum : Nat) (s : State) : (judgeRegion r sum s).free = s.free := by
  simp only [judgeRegion]; split <;> simp
@[simp] theorem judgeRegion_srst (r sum : Nat) (s : State) : (judgeRegion r sum s).srst = s.srst := by
  simp only [judgeRegion]; split <;> simp
@[simp] theorem judgeRegion_rom (r sum : Nat) (s : State) : (judgeRegion r sum s).rom = s.rom := by
  simp only [judgeRegion]; split <;> simp
@[simp] theorem judgeRegion_sram (r sum : Nat) (s : State) : (judgeRegion r sum s).sram = s.sram := by
  simp only [judgeRegion]; split <;> simp
@[simp] theorem judgeRegion_supply (r sum : Nat) (s : State) : (judgeRegion r sum s).supply = s.supply := by
  simp only [judgeRegion]; split <;> simp
@[simp] theorem judgeRegion_dir (r sum : Nat) (s : State) : (judgeRegion r sum s).dir = s.dir := by
  simp only [judgeRegion]; split <;> simp
@[simp] theorem judgeRegion_port (r sum : Nat) (s : State) : (judgeRegion r sum s).port = s.port := by
  simp only [judgeRegion]; split <;> simp
@[simp] theorem judgeRegion_clock (r sum : Nat) (s : State) : (judgeRegion r sum s).clock = s.clock := by
  simp only [judgeRegion]; split <;> simp
@[simp] theorem judgeRegion_days (r sum : Nat) (s : State) : (judgeRegion r sum s).days = s.days := by
  simp only [judgeRegion]; split <;> simp
@[simp] theorem judgeRegion_voices (r sum : Nat) (s : State) : (judgeRegion r sum s).voices = s.voices := by
  simp only [judgeRegion]; split <;> simp
@[simp] theorem judgeRegion_mixer (r sum : Nat) (s : State) : (judgeRegion r sum s).mixer = s.mixer := by
  simp only [judgeRegion]; split <;> simp
@[simp] theorem judgeRegion_rumble (r sum : Nat) (s : State) : (judgeRegion r sum s).rumble = s.rumble := by
  simp only [judgeRegion]; split <;> simp

/-! ## loadDays -/

@[simp] theorem loadDays_pending (s : State) : (loadDays s).pending = s.pending := by
  simp only [loadDays]; split <;> (try split) <;> simp
@[simp] theorem loadDays_free (s : State) : (loadDays s).free = s.free := by
  simp only [loadDays]; split <;> (try split) <;> simp
@[simp] theorem loadDays_srst (s : State) : (loadDays s).srst = s.srst := by
  simp only [loadDays]; split <;> (try split) <;> simp
@[simp] theorem loadDays_rom (s : State) : (loadDays s).rom = s.rom := by
  simp only [loadDays]; split <;> (try split) <;> simp
@[simp] theorem loadDays_sram (s : State) : (loadDays s).sram = s.sram := by
  simp only [loadDays]; split <;> (try split) <;> simp
@[simp] theorem loadDays_supply (s : State) : (loadDays s).supply = s.supply := by
  simp only [loadDays]; split <;> (try split) <;> simp
@[simp] theorem loadDays_dir (s : State) : (loadDays s).dir = s.dir := by
  simp only [loadDays]; split <;> (try split) <;> simp
@[simp] theorem loadDays_port (s : State) : (loadDays s).port = s.port := by
  simp only [loadDays]; split <;> (try split) <;> simp
@[simp] theorem loadDays_save (s : State) : (loadDays s).save = s.save := by
  simp only [loadDays]; split <;> (try split) <;> simp
@[simp] theorem loadDays_clock (s : State) : (loadDays s).clock = s.clock := by
  simp only [loadDays]; split <;> (try split) <;> simp
@[simp] theorem loadDays_voices (s : State) : (loadDays s).voices = s.voices := by
  simp only [loadDays]; split <;> (try split) <;> simp
@[simp] theorem loadDays_mixer (s : State) : (loadDays s).mixer = s.mixer := by
  simp only [loadDays]; split <;> (try split) <;> simp
@[simp] theorem loadDays_rumble (s : State) : (loadDays s).rumble = s.rumble := by
  simp only [loadDays]; split <;> (try split) <;> simp

/-! ## becomeReady -/

@[simp] theorem becomeReady_pending (s : State) : (becomeReady s).pending = s.pending := by simp [becomeReady]
@[simp] theorem becomeReady_free (s : State) : (becomeReady s).free = s.free := by simp [becomeReady]
@[simp] theorem becomeReady_srst (s : State) : (becomeReady s).srst = s.srst := by simp [becomeReady]
@[simp] theorem becomeReady_rom (s : State) : (becomeReady s).rom = s.rom := by simp [becomeReady]
@[simp] theorem becomeReady_sram (s : State) : (becomeReady s).sram = s.sram := by simp [becomeReady]
@[simp] theorem becomeReady_dir (s : State) : (becomeReady s).dir = s.dir := by simp [becomeReady]
@[simp] theorem becomeReady_port (s : State) : (becomeReady s).port = s.port := by simp [becomeReady]
@[simp] theorem becomeReady_save (s : State) : (becomeReady s).save = s.save := by simp [becomeReady]
@[simp] theorem becomeReady_clock (s : State) : (becomeReady s).clock = s.clock := by simp [becomeReady]
@[simp] theorem becomeReady_days (s : State) : (becomeReady s).days = s.days := by simp [becomeReady]
@[simp] theorem becomeReady_voices (s : State) : (becomeReady s).voices = s.voices := by simp [becomeReady]
@[simp] theorem becomeReady_mixer (s : State) : (becomeReady s).mixer = s.mixer := by simp [becomeReady]
@[simp] theorem becomeReady_rumble (s : State) : (becomeReady s).rumble = s.rumble := by simp [becomeReady]

/-! ## retentionIntact -/

@[simp] theorem retentionIntact_pending (s : State) : (retentionIntact s).pending = s.pending := by
  simp only [retentionIntact]; split <;> simp
@[simp] theorem retentionIntact_free (s : State) : (retentionIntact s).free = s.free := by
  simp only [retentionIntact]; split <;> simp
@[simp] theorem retentionIntact_srst (s : State) : (retentionIntact s).srst = s.srst := by
  simp only [retentionIntact]; split <;> simp
@[simp] theorem retentionIntact_rom (s : State) : (retentionIntact s).rom = s.rom := by
  simp only [retentionIntact]; split <;> simp
@[simp] theorem retentionIntact_sram (s : State) : (retentionIntact s).sram = s.sram := by
  simp only [retentionIntact]; split <;> simp
@[simp] theorem retentionIntact_supply (s : State) : (retentionIntact s).supply = s.supply := by
  simp only [retentionIntact]; split <;> simp
@[simp] theorem retentionIntact_dir (s : State) : (retentionIntact s).dir = s.dir := by
  simp only [retentionIntact]; split <;> simp
@[simp] theorem retentionIntact_port (s : State) : (retentionIntact s).port = s.port := by
  simp only [retentionIntact]; split <;> simp
@[simp] theorem retentionIntact_save (s : State) : (retentionIntact s).save = s.save := by
  simp only [retentionIntact]; split <;> simp
@[simp] theorem retentionIntact_days (s : State) : (retentionIntact s).days = s.days := by
  simp only [retentionIntact]; split <;> simp
@[simp] theorem retentionIntact_voices (s : State) : (retentionIntact s).voices = s.voices := by
  simp only [retentionIntact]; split <;> simp
@[simp] theorem retentionIntact_mixer (s : State) : (retentionIntact s).mixer = s.mixer := by
  simp only [retentionIntact]; split <;> simp
@[simp] theorem retentionIntact_rumble (s : State) : (retentionIntact s).rumble = s.rumble := by
  simp only [retentionIntact]; split <;> simp

/-! ## retentionLost -/

@[simp] theorem retentionLost_pending (s : State) : (retentionLost s).pending = s.pending := by simp [retentionLost]
@[simp] theorem retentionLost_free (s : State) : (retentionLost s).free = s.free := by simp [retentionLost]
@[simp] theorem retentionLost_srst (s : State) : (retentionLost s).srst = s.srst := by simp [retentionLost]
@[simp] theorem retentionLost_rom (s : State) : (retentionLost s).rom = s.rom := by simp [retentionLost]
@[simp] theorem retentionLost_sram (s : State) : (retentionLost s).sram = s.sram := by simp [retentionLost]
@[simp] theorem retentionLost_supply (s : State) : (retentionLost s).supply = s.supply := by simp [retentionLost]
@[simp] theorem retentionLost_dir (s : State) : (retentionLost s).dir = s.dir := by simp [retentionLost]
@[simp] theorem retentionLost_port (s : State) : (retentionLost s).port = s.port := by simp [retentionLost]
@[simp] theorem retentionLost_days (s : State) : (retentionLost s).days = s.days := by simp [retentionLost]
@[simp] theorem retentionLost_voices (s : State) : (retentionLost s).voices = s.voices := by simp [retentionLost]
@[simp] theorem retentionLost_mixer (s : State) : (retentionLost s).mixer = s.mixer := by simp [retentionLost]
@[simp] theorem retentionLost_rumble (s : State) : (retentionLost s).rumble = s.rumble := by simp [retentionLost]

/-! ## completeMeasurement -/

@[simp] theorem completeMeasurement_pending (mv : Nat) (s : State) : (completeMeasurement mv s).pending = s.pending := by
  simp only [completeMeasurement]; split <;> simp
@[simp] theorem completeMeasurement_free (mv : Nat) (s : State) : (completeMeasurement mv s).free = s.free := by
  simp only [completeMeasurement]; split <;> simp
@[simp] theorem completeMeasurement_srst (mv : Nat) (s : State) : (completeMeasurement mv s).srst = s.srst := by
  simp only [completeMeasurement]; split <;> simp
@[simp] theorem completeMeasurement_rom (mv : Nat) (s : State) : (completeMeasurement mv s).rom = s.rom := by
  simp only [completeMeasurement]; split <;> simp
@[simp] theorem completeMeasurement_sram (mv : Nat) (s : State) : (completeMeasurement mv s).sram = s.sram := by
  simp only [completeMeasurement]; split <;> simp
@[simp] theorem completeMeasurement_dir (mv : Nat) (s : State) : (completeMeasurement mv s).dir = s.dir := by
  simp only [completeMeasurement]; split <;> simp
@[simp] theorem completeMeasurement_port (mv : Nat) (s : State) : (completeMeasurement mv s).port = s.port := by
  simp only [completeMeasurement]; split <;> simp
@[simp] theorem completeMeasurement_save (mv : Nat) (s : State) : (completeMeasurement mv s).save = s.save := by
  simp only [completeMeasurement]; split <;> simp
@[simp] theorem completeMeasurement_clock (mv : Nat) (s : State) : (completeMeasurement mv s).clock = s.clock := by
  simp only [completeMeasurement]; split <;> simp
@[simp] theorem completeMeasurement_days (mv : Nat) (s : State) : (completeMeasurement mv s).days = s.days := by
  simp only [completeMeasurement]; split <;> simp
@[simp] theorem completeMeasurement_voices (mv : Nat) (s : State) : (completeMeasurement mv s).voices = s.voices := by
  simp only [completeMeasurement]; split <;> simp
@[simp] theorem completeMeasurement_mixer (mv : Nat) (s : State) : (completeMeasurement mv s).mixer = s.mixer := by
  simp only [completeMeasurement]; split <;> simp
@[simp] theorem completeMeasurement_rumble (mv : Nat) (s : State) : (completeMeasurement mv s).rumble = s.rumble := by
  simp only [completeMeasurement]; split <;> simp

/-! ## putCounter -/

@[simp] theorem putCounter_pending (i : Nat) (c : Counter) (b : Bool) (s : State) : (putCounter i c b s).pending = s.pending := by simp [putCounter]
@[simp] theorem putCounter_free (i : Nat) (c : Counter) (b : Bool) (s : State) : (putCounter i c b s).free = s.free := by simp [putCounter]
@[simp] theorem putCounter_srst (i : Nat) (c : Counter) (b : Bool) (s : State) : (putCounter i c b s).srst = s.srst := by simp [putCounter]
@[simp] theorem putCounter_rom (i : Nat) (c : Counter) (b : Bool) (s : State) : (putCounter i c b s).rom = s.rom := by simp [putCounter]
@[simp] theorem putCounter_sram (i : Nat) (c : Counter) (b : Bool) (s : State) : (putCounter i c b s).sram = s.sram := by simp [putCounter]
@[simp] theorem putCounter_supply (i : Nat) (c : Counter) (b : Bool) (s : State) : (putCounter i c b s).supply = s.supply := by simp [putCounter]
@[simp] theorem putCounter_link (i : Nat) (c : Counter) (b : Bool) (s : State) : (putCounter i c b s).link = s.link := by simp [putCounter]
@[simp] theorem putCounter_dir (i : Nat) (c : Counter) (b : Bool) (s : State) : (putCounter i c b s).dir = s.dir := by simp [putCounter]
@[simp] theorem putCounter_port (i : Nat) (c : Counter) (b : Bool) (s : State) : (putCounter i c b s).port = s.port := by simp [putCounter]
@[simp] theorem putCounter_save (i : Nat) (c : Counter) (b : Bool) (s : State) : (putCounter i c b s).save = s.save := by simp [putCounter]
@[simp] theorem putCounter_clock (i : Nat) (c : Counter) (b : Bool) (s : State) : (putCounter i c b s).clock = s.clock := by simp [putCounter]
@[simp] theorem putCounter_voices (i : Nat) (c : Counter) (b : Bool) (s : State) : (putCounter i c b s).voices = s.voices := by simp [putCounter]
@[simp] theorem putCounter_mixer (i : Nat) (c : Counter) (b : Bool) (s : State) : (putCounter i c b s).mixer = s.mixer := by simp [putCounter]
@[simp] theorem putCounter_rumble (i : Nat) (c : Counter) (b : Bool) (s : State) : (putCounter i c b s).rumble = s.rumble := by simp [putCounter]

/-! ## unordered -/

@[simp] theorem unordered_pending (x : Nat) (s : State) : (unordered x s).pending = s.pending := by simp [unordered]
@[simp] theorem unordered_free (x : Nat) (s : State) : (unordered x s).free = s.free := by simp [unordered]
@[simp] theorem unordered_srst (x : Nat) (s : State) : (unordered x s).srst = s.srst := by simp [unordered]
@[simp] theorem unordered_rom (x : Nat) (s : State) : (unordered x s).rom = s.rom := by simp [unordered]
@[simp] theorem unordered_sram (x : Nat) (s : State) : (unordered x s).sram = s.sram := by simp [unordered]
@[simp] theorem unordered_supply (x : Nat) (s : State) : (unordered x s).supply = s.supply := by simp [unordered]
@[simp] theorem unordered_dir (x : Nat) (s : State) : (unordered x s).dir = s.dir := by simp [unordered]
@[simp] theorem unordered_port (x : Nat) (s : State) : (unordered x s).port = s.port := by simp [unordered]
@[simp] theorem unordered_save (x : Nat) (s : State) : (unordered x s).save = s.save := by simp [unordered]
@[simp] theorem unordered_clock (x : Nat) (s : State) : (unordered x s).clock = s.clock := by simp [unordered]
@[simp] theorem unordered_voices (x : Nat) (s : State) : (unordered x s).voices = s.voices := by simp [unordered]
@[simp] theorem unordered_mixer (x : Nat) (s : State) : (unordered x s).mixer = s.mixer := by simp [unordered]
@[simp] theorem unordered_rumble (x : Nat) (s : State) : (unordered x s).rumble = s.rumble := by simp [unordered]

/-! ## setLock -/

@[simp] theorem setLock_pending (r : Nat) (l : LockState) (s : State) : (setLock r l s).pending = s.pending := by simp [setLock]
@[simp] theorem setLock_free (r : Nat) (l : LockState) (s : State) : (setLock r l s).free = s.free := by simp [setLock]
@[simp] theorem setLock_srst (r : Nat) (l : LockState) (s : State) : (setLock r l s).srst = s.srst := by simp [setLock]
@[simp] theorem setLock_rom (r : Nat) (l : LockState) (s : State) : (setLock r l s).rom = s.rom := by simp [setLock]
@[simp] theorem setLock_sram (r : Nat) (l : LockState) (s : State) : (setLock r l s).sram = s.sram := by simp [setLock]
@[simp] theorem setLock_supply (r : Nat) (l : LockState) (s : State) : (setLock r l s).supply = s.supply := by simp [setLock]
@[simp] theorem setLock_link (r : Nat) (l : LockState) (s : State) : (setLock r l s).link = s.link := by simp [setLock]
@[simp] theorem setLock_dir (r : Nat) (l : LockState) (s : State) : (setLock r l s).dir = s.dir := by simp [setLock]
@[simp] theorem setLock_port (r : Nat) (l : LockState) (s : State) : (setLock r l s).port = s.port := by simp [setLock]
@[simp] theorem setLock_clock (r : Nat) (l : LockState) (s : State) : (setLock r l s).clock = s.clock := by simp [setLock]
@[simp] theorem setLock_days (r : Nat) (l : LockState) (s : State) : (setLock r l s).days = s.days := by simp [setLock]
@[simp] theorem setLock_voices (r : Nat) (l : LockState) (s : State) : (setLock r l s).voices = s.voices := by simp [setLock]
@[simp] theorem setLock_mixer (r : Nat) (l : LockState) (s : State) : (setLock r l s).mixer = s.mixer := by simp [setLock]
@[simp] theorem setLock_rumble (r : Nat) (l : LockState) (s : State) : (setLock r l s).rumble = s.rumble := by simp [setLock]

/-! ## endEmpty -/

@[simp] theorem endEmpty_pending (tag : Byte) (s : State) : (endEmpty tag s).pending = s.pending := by simp [endEmpty]
@[simp] theorem endEmpty_free (tag : Byte) (s : State) : (endEmpty tag s).free = s.free := by simp [endEmpty]
@[simp] theorem endEmpty_srst (tag : Byte) (s : State) : (endEmpty tag s).srst = s.srst := by simp [endEmpty]
@[simp] theorem endEmpty_rom (tag : Byte) (s : State) : (endEmpty tag s).rom = s.rom := by simp [endEmpty]
@[simp] theorem endEmpty_sram (tag : Byte) (s : State) : (endEmpty tag s).sram = s.sram := by simp [endEmpty]
@[simp] theorem endEmpty_supply (tag : Byte) (s : State) : (endEmpty tag s).supply = s.supply := by simp [endEmpty]
@[simp] theorem endEmpty_link (tag : Byte) (s : State) : (endEmpty tag s).link = s.link := by simp [endEmpty]
@[simp] theorem endEmpty_dir (tag : Byte) (s : State) : (endEmpty tag s).dir = s.dir := by simp [endEmpty]
@[simp] theorem endEmpty_port (tag : Byte) (s : State) : (endEmpty tag s).port = s.port := by simp [endEmpty]
@[simp] theorem endEmpty_clock (tag : Byte) (s : State) : (endEmpty tag s).clock = s.clock := by simp [endEmpty]
@[simp] theorem endEmpty_days (tag : Byte) (s : State) : (endEmpty tag s).days = s.days := by simp [endEmpty]
@[simp] theorem endEmpty_voices (tag : Byte) (s : State) : (endEmpty tag s).voices = s.voices := by simp [endEmpty]
@[simp] theorem endEmpty_mixer (tag : Byte) (s : State) : (endEmpty tag s).mixer = s.mixer := by simp [endEmpty]
@[simp] theorem endEmpty_rumble (tag : Byte) (s : State) : (endEmpty tag s).rumble = s.rumble := by simp [endEmpty]

/-! ## queueTitle -/

@[simp] theorem queueTitle_pending (tag : Byte) (full : Bool) (s : State) : (queueTitle tag full s).pending = s.pending := by simp [queueTitle]
@[simp] theorem queueTitle_free (tag : Byte) (full : Bool) (s : State) : (queueTitle tag full s).free = s.free := by simp [queueTitle]
@[simp] theorem queueTitle_srst (tag : Byte) (full : Bool) (s : State) : (queueTitle tag full s).srst = s.srst := by simp [queueTitle]
@[simp] theorem queueTitle_rom (tag : Byte) (full : Bool) (s : State) : (queueTitle tag full s).rom = s.rom := by simp [queueTitle]
@[simp] theorem queueTitle_sram (tag : Byte) (full : Bool) (s : State) : (queueTitle tag full s).sram = s.sram := by simp [queueTitle]
@[simp] theorem queueTitle_supply (tag : Byte) (full : Bool) (s : State) : (queueTitle tag full s).supply = s.supply := by simp [queueTitle]
@[simp] theorem queueTitle_link (tag : Byte) (full : Bool) (s : State) : (queueTitle tag full s).link = s.link := by simp [queueTitle]
@[simp] theorem queueTitle_dir (tag : Byte) (full : Bool) (s : State) : (queueTitle tag full s).dir = s.dir := by simp [queueTitle]
@[simp] theorem queueTitle_port (tag : Byte) (full : Bool) (s : State) : (queueTitle tag full s).port = s.port := by simp [queueTitle]
@[simp] theorem queueTitle_clock (tag : Byte) (full : Bool) (s : State) : (queueTitle tag full s).clock = s.clock := by simp [queueTitle]
@[simp] theorem queueTitle_days (tag : Byte) (full : Bool) (s : State) : (queueTitle tag full s).days = s.days := by simp [queueTitle]
@[simp] theorem queueTitle_voices (tag : Byte) (full : Bool) (s : State) : (queueTitle tag full s).voices = s.voices := by simp [queueTitle]
@[simp] theorem queueTitle_mixer (tag : Byte) (full : Bool) (s : State) : (queueTitle tag full s).mixer = s.mixer := by simp [queueTitle]
@[simp] theorem queueTitle_rumble (tag : Byte) (full : Bool) (s : State) : (queueTitle tag full s).rumble = s.rumble := by simp [queueTitle]

/-! ## queueErase -/

@[simp] theorem queueErase_pending (w : Window) (tag : Byte) (s : State) : (queueErase w tag s).pending = s.pending := by simp [queueErase]
@[simp] theorem queueErase_free (w : Window) (tag : Byte) (s : State) : (queueErase w tag s).free = s.free := by simp [queueErase]
@[simp] theorem queueErase_srst (w : Window) (tag : Byte) (s : State) : (queueErase w tag s).srst = s.srst := by simp [queueErase]
@[simp] theorem queueErase_rom (w : Window) (tag : Byte) (s : State) : (queueErase w tag s).rom = s.rom := by simp [queueErase]
@[simp] theorem queueErase_sram (w : Window) (tag : Byte) (s : State) : (queueErase w tag s).sram = s.sram := by simp [queueErase]
@[simp] theorem queueErase_supply (w : Window) (tag : Byte) (s : State) : (queueErase w tag s).supply = s.supply := by simp [queueErase]
@[simp] theorem queueErase_link (w : Window) (tag : Byte) (s : State) : (queueErase w tag s).link = s.link := by simp [queueErase]
@[simp] theorem queueErase_dir (w : Window) (tag : Byte) (s : State) : (queueErase w tag s).dir = s.dir := by simp [queueErase]
@[simp] theorem queueErase_port (w : Window) (tag : Byte) (s : State) : (queueErase w tag s).port = s.port := by simp [queueErase]
@[simp] theorem queueErase_clock (w : Window) (tag : Byte) (s : State) : (queueErase w tag s).clock = s.clock := by simp [queueErase]
@[simp] theorem queueErase_days (w : Window) (tag : Byte) (s : State) : (queueErase w tag s).days = s.days := by simp [queueErase]
@[simp] theorem queueErase_voices (w : Window) (tag : Byte) (s : State) : (queueErase w tag s).voices = s.voices := by simp [queueErase]
@[simp] theorem queueErase_mixer (w : Window) (tag : Byte) (s : State) : (queueErase w tag s).mixer = s.mixer := by simp [queueErase]
@[simp] theorem queueErase_rumble (w : Window) (tag : Byte) (s : State) : (queueErase w tag s).rumble = s.rumble := by simp [queueErase]

/-! ## rollIfRolling -/

@[simp] theorem rollIfRolling_pending (s : State) : (rollIfRolling s).pending = s.pending := by
  simp only [rollIfRolling]; split <;> simp
@[simp] theorem rollIfRolling_free (s : State) : (rollIfRolling s).free = s.free := by
  simp only [rollIfRolling]; split <;> simp
@[simp] theorem rollIfRolling_srst (s : State) : (rollIfRolling s).srst = s.srst := by
  simp only [rollIfRolling]; split <;> simp
@[simp] theorem rollIfRolling_rom (s : State) : (rollIfRolling s).rom = s.rom := by
  simp only [rollIfRolling]; split <;> simp
@[simp] theorem rollIfRolling_sram (s : State) : (rollIfRolling s).sram = s.sram := by
  simp only [rollIfRolling]; split <;> simp
@[simp] theorem rollIfRolling_link (s : State) : (rollIfRolling s).link = s.link := by
  simp only [rollIfRolling]; split <;> simp
@[simp] theorem rollIfRolling_dir (s : State) : (rollIfRolling s).dir = s.dir := by
  simp only [rollIfRolling]; split <;> simp
@[simp] theorem rollIfRolling_clock (s : State) : (rollIfRolling s).clock = s.clock := by
  simp only [rollIfRolling]; split <;> simp
@[simp] theorem rollIfRolling_days (s : State) : (rollIfRolling s).days = s.days := by
  simp only [rollIfRolling]; split <;> simp
@[simp] theorem rollIfRolling_voices (s : State) : (rollIfRolling s).voices = s.voices := by
  simp only [rollIfRolling]; split <;> simp
@[simp] theorem rollIfRolling_mixer (s : State) : (rollIfRolling s).mixer = s.mixer := by
  simp only [rollIfRolling]; split <;> simp
@[simp] theorem rollIfRolling_rumble (s : State) : (rollIfRolling s).rumble = s.rumble := by
  simp only [rollIfRolling]; split <;> simp

/-! ## completeCopy -/

@[simp] theorem completeCopy_pending (c : Copy) (s : State) : (completeCopy c s).pending = s.pending := by simp [completeCopy]
@[simp] theorem completeCopy_free (c : Copy) (s : State) : (completeCopy c s).free = s.free := by simp [completeCopy]
@[simp] theorem completeCopy_srst (c : Copy) (s : State) : (completeCopy c s).srst = s.srst := by simp [completeCopy]
@[simp] theorem completeCopy_rom (c : Copy) (s : State) : (completeCopy c s).rom = s.rom := by simp [completeCopy]
@[simp] theorem completeCopy_sram (c : Copy) (s : State) : (completeCopy c s).sram = s.sram := by simp [completeCopy]
@[simp] theorem completeCopy_dir (c : Copy) (s : State) : (completeCopy c s).dir = s.dir := by simp [completeCopy]
@[simp] theorem completeCopy_clock (c : Copy) (s : State) : (completeCopy c s).clock = s.clock := by simp [completeCopy]
@[simp] theorem completeCopy_days (c : Copy) (s : State) : (completeCopy c s).days = s.days := by simp [completeCopy]
@[simp] theorem completeCopy_voices (c : Copy) (s : State) : (completeCopy c s).voices = s.voices := by simp [completeCopy]
@[simp] theorem completeCopy_mixer (c : Copy) (s : State) : (completeCopy c s).mixer = s.mixer := by simp [completeCopy]
@[simp] theorem completeCopy_rumble (c : Copy) (s : State) : (completeCopy c s).rumble = s.rumble := by simp [completeCopy]

/-! ## firstFault -/

@[simp] theorem firstFault_pending (c : Copy) (off : Nat) (s : State) : (firstFault c off s).pending = s.pending := by
  simp only [firstFault]; split <;> simp
@[simp] theorem firstFault_free (c : Copy) (off : Nat) (s : State) : (firstFault c off s).free = s.free := by
  simp only [firstFault]; split <;> simp
@[simp] theorem firstFault_srst (c : Copy) (off : Nat) (s : State) : (firstFault c off s).srst = s.srst := by
  simp only [firstFault]; split <;> simp
@[simp] theorem firstFault_rom (c : Copy) (off : Nat) (s : State) : (firstFault c off s).rom = s.rom := by
  simp only [firstFault]; split <;> simp
@[simp] theorem firstFault_sram (c : Copy) (off : Nat) (s : State) : (firstFault c off s).sram = s.sram := by
  simp only [firstFault]; split <;> simp
@[simp] theorem firstFault_supply (c : Copy) (off : Nat) (s : State) : (firstFault c off s).supply = s.supply := by
  simp only [firstFault]; split <;> simp
@[simp] theorem firstFault_dir (c : Copy) (off : Nat) (s : State) : (firstFault c off s).dir = s.dir := by
  simp only [firstFault]; split <;> simp
@[simp] theorem firstFault_clock (c : Copy) (off : Nat) (s : State) : (firstFault c off s).clock = s.clock := by
  simp only [firstFault]; split <;> simp
@[simp] theorem firstFault_days (c : Copy) (off : Nat) (s : State) : (firstFault c off s).days = s.days := by
  simp only [firstFault]; split <;> simp
@[simp] theorem firstFault_voices (c : Copy) (off : Nat) (s : State) : (firstFault c off s).voices = s.voices := by
  simp only [firstFault]; split <;> simp
@[simp] theorem firstFault_mixer (c : Copy) (off : Nat) (s : State) : (firstFault c off s).mixer = s.mixer := by
  simp only [firstFault]; split <;> simp
@[simp] theorem firstFault_rumble (c : Copy) (off : Nat) (s : State) : (firstFault c off s).rumble = s.rumble := by
  simp only [firstFault]; split <;> simp

/-! ## discardOnFault -/

@[simp] theorem discardOnFault_pending (c : Copy) (s : State) : (discardOnFault c s).pending = s.pending := by simp [discardOnFault]
@[simp] theorem discardOnFault_free (c : Copy) (s : State) : (discardOnFault c s).free = s.free := by simp [discardOnFault]
@[simp] theorem discardOnFault_srst (c : Copy) (s : State) : (discardOnFault c s).srst = s.srst := by simp [discardOnFault]
@[simp] theorem discardOnFault_rom (c : Copy) (s : State) : (discardOnFault c s).rom = s.rom := by simp [discardOnFault]
@[simp] theorem discardOnFault_sram (c : Copy) (s : State) : (discardOnFault c s).sram = s.sram := by simp [discardOnFault]
@[simp] theorem discardOnFault_dir (c : Copy) (s : State) : (discardOnFault c s).dir = s.dir := by simp [discardOnFault]
@[simp] theorem discardOnFault_clock (c : Copy) (s : State) : (discardOnFault c s).clock = s.clock := by simp [discardOnFault]
@[simp] theorem discardOnFault_voices (c : Copy) (s : State) : (discardOnFault c s).voices = s.voices := by simp [discardOnFault]
@[simp] theorem discardOnFault_mixer (c : Copy) (s : State) : (discardOnFault c s).mixer = s.mixer := by simp [discardOnFault]
@[simp] theorem discardOnFault_rumble (c : Copy) (s : State) : (discardOnFault c s).rumble = s.rumble := by simp [discardOnFault]

/-! ## verifyFault -/

@[simp] theorem verifyFault_pending (c : Copy) (pos : Nat) (s : State) : (verifyFault c pos s).pending = s.pending := by
  simp only [verifyFault]; split <;> simp
@[simp] theorem verifyFault_free (c : Copy) (pos : Nat) (s : State) : (verifyFault c pos s).free = s.free := by
  simp only [verifyFault]; split <;> simp
@[simp] theorem verifyFault_srst (c : Copy) (pos : Nat) (s : State) : (verifyFault c pos s).srst = s.srst := by
  simp only [verifyFault]; split <;> simp
@[simp] theorem verifyFault_rom (c : Copy) (pos : Nat) (s : State) : (verifyFault c pos s).rom = s.rom := by
  simp only [verifyFault]; split <;> simp
@[simp] theorem verifyFault_sram (c : Copy) (pos : Nat) (s : State) : (verifyFault c pos s).sram = s.sram := by
  simp only [verifyFault]; split <;> simp
@[simp] theorem verifyFault_dir (c : Copy) (pos : Nat) (s : State) : (verifyFault c pos s).dir = s.dir := by
  simp only [verifyFault]; split <;> simp
@[simp] theorem verifyFault_clock (c : Copy) (pos : Nat) (s : State) : (verifyFault c pos s).clock = s.clock := by
  simp only [verifyFault]; split <;> simp
@[simp] theorem verifyFault_voices (c : Copy) (pos : Nat) (s : State) : (verifyFault c pos s).voices = s.voices := by
  simp only [verifyFault]; split <;> simp
@[simp] theorem verifyFault_mixer (c : Copy) (pos : Nat) (s : State) : (verifyFault c pos s).mixer = s.mixer := by
  simp only [verifyFault]; split <;> simp
@[simp] theorem verifyFault_rumble (c : Copy) (pos : Nat) (s : State) : (verifyFault c pos s).rumble = s.rumble := by
  simp only [verifyFault]; split <;> simp

/-! ## nextPart -/

@[simp] theorem nextPart_pending (c : Copy) (s : State) : (nextPart c s).pending = s.pending := by
  simp only [nextPart]; (repeat' split) <;> simp
@[simp] theorem nextPart_free (c : Copy) (s : State) : (nextPart c s).free = s.free := by
  simp only [nextPart]; (repeat' split) <;> simp
@[simp] theorem nextPart_srst (c : Copy) (s : State) : (nextPart c s).srst = s.srst := by
  simp only [nextPart]; (repeat' split) <;> simp
@[simp] theorem nextPart_rom (c : Copy) (s : State) : (nextPart c s).rom = s.rom := by
  simp only [nextPart]; (repeat' split) <;> simp
@[simp] theorem nextPart_sram (c : Copy) (s : State) : (nextPart c s).sram = s.sram := by
  simp only [nextPart]; (repeat' split) <;> simp
@[simp] theorem nextPart_dir (c : Copy) (s : State) : (nextPart c s).dir = s.dir := by
  simp only [nextPart]; (repeat' split) <;> simp
@[simp] theorem nextPart_clock (c : Copy) (s : State) : (nextPart c s).clock = s.clock := by
  simp only [nextPart]; (repeat' split) <;> simp
@[simp] theorem nextPart_days (c : Copy) (s : State) : (nextPart c s).days = s.days := by
  simp only [nextPart]; (repeat' split) <;> simp
@[simp] theorem nextPart_voices (c : Copy) (s : State) : (nextPart c s).voices = s.voices := by
  simp only [nextPart]; (repeat' split) <;> simp
@[simp] theorem nextPart_mixer (c : Copy) (s : State) : (nextPart c s).mixer = s.mixer := by
  simp only [nextPart]; (repeat' split) <;> simp
@[simp] theorem nextPart_rumble (c : Copy) (s : State) : (nextPart c s).rumble = s.rumble := by
  simp only [nextPart]; (repeat' split) <;> simp

/-! ## afterRead -/

@[simp] theorem afterRead_pending (c : Copy) (bs : List Byte) (s : State) : (afterRead c bs s).pending = s.pending := by
  simp only [afterRead]; split <;> simp
@[simp] theorem afterRead_free (c : Copy) (bs : List Byte) (s : State) : (afterRead c bs s).free = s.free := by
  simp only [afterRead]; split <;> simp
@[simp] theorem afterRead_srst (c : Copy) (bs : List Byte) (s : State) : (afterRead c bs s).srst = s.srst := by
  simp only [afterRead]; split <;> simp
@[simp] theorem afterRead_rom (c : Copy) (bs : List Byte) (s : State) : (afterRead c bs s).rom = s.rom := by
  simp only [afterRead]; split <;> simp
@[simp] theorem afterRead_sram (c : Copy) (bs : List Byte) (s : State) : (afterRead c bs s).sram = s.sram := by
  simp only [afterRead]; split <;> simp
@[simp] theorem afterRead_dir (c : Copy) (bs : List Byte) (s : State) : (afterRead c bs s).dir = s.dir := by
  simp only [afterRead]; split <;> simp
@[simp] theorem afterRead_clock (c : Copy) (bs : List Byte) (s : State) : (afterRead c bs s).clock = s.clock := by
  simp only [afterRead]; split <;> simp
@[simp] theorem afterRead_days (c : Copy) (bs : List Byte) (s : State) : (afterRead c bs s).days = s.days := by
  simp only [afterRead]; split <;> simp
@[simp] theorem afterRead_voices (c : Copy) (bs : List Byte) (s : State) : (afterRead c bs s).voices = s.voices := by
  simp only [afterRead]; split <;> simp
@[simp] theorem afterRead_mixer (c : Copy) (bs : List Byte) (s : State) : (afterRead c bs s).mixer = s.mixer := by
  simp only [afterRead]; split <;> simp
@[simp] theorem afterRead_rumble (c : Copy) (bs : List Byte) (s : State) : (afterRead c bs s).rumble = s.rumble := by
  simp only [afterRead]; split <;> simp

/-! ## afterReadBack -/

@[simp] theorem afterReadBack_pending (c : Copy) (bs : List Byte) (s : State) : (afterReadBack c bs s).pending = s.pending := by
  simp only [afterReadBack]; split <;> simp
@[simp] theorem afterReadBack_free (c : Copy) (bs : List Byte) (s : State) : (afterReadBack c bs s).free = s.free := by
  simp only [afterReadBack]; split <;> simp
@[simp] theorem afterReadBack_srst (c : Copy) (bs : List Byte) (s : State) : (afterReadBack c bs s).srst = s.srst := by
  simp only [afterReadBack]; split <;> simp
@[simp] theorem afterReadBack_rom (c : Copy) (bs : List Byte) (s : State) : (afterReadBack c bs s).rom = s.rom := by
  simp only [afterReadBack]; split <;> simp
@[simp] theorem afterReadBack_sram (c : Copy) (bs : List Byte) (s : State) : (afterReadBack c bs s).sram = s.sram := by
  simp only [afterReadBack]; split <;> simp
@[simp] theorem afterReadBack_dir (c : Copy) (bs : List Byte) (s : State) : (afterReadBack c bs s).dir = s.dir := by
  simp only [afterReadBack]; split <;> simp
@[simp] theorem afterReadBack_clock (c : Copy) (bs : List Byte) (s : State) : (afterReadBack c bs s).clock = s.clock := by
  simp only [afterReadBack]; split <;> simp
@[simp] theorem afterReadBack_voices (c : Copy) (bs : List Byte) (s : State) : (afterReadBack c bs s).voices = s.voices := by
  simp only [afterReadBack]; split <;> simp
@[simp] theorem afterReadBack_mixer (c : Copy) (bs : List Byte) (s : State) : (afterReadBack c bs s).mixer = s.mixer := by
  simp only [afterReadBack]; split <;> simp
@[simp] theorem afterReadBack_rumble (c : Copy) (bs : List Byte) (s : State) : (afterReadBack c bs s).rumble = s.rumble := by
  simp only [afterReadBack]; split <;> simp

/-! ## commitStepDone -/

@[simp] theorem commitStepDone_pending (c : Copy) (bs : List Byte) (s : State) : (commitStepDone c bs s).pending = s.pending := by
  simp only [commitStepDone]; split <;> simp
@[simp] theorem commitStepDone_free (c : Copy) (bs : List Byte) (s : State) : (commitStepDone c bs s).free = s.free := by
  simp only [commitStepDone]; split <;> simp
@[simp] theorem commitStepDone_srst (c : Copy) (bs : List Byte) (s : State) : (commitStepDone c bs s).srst = s.srst := by
  simp only [commitStepDone]; split <;> simp
@[simp] theorem commitStepDone_rom (c : Copy) (bs : List Byte) (s : State) : (commitStepDone c bs s).rom = s.rom := by
  simp only [commitStepDone]; split <;> simp
@[simp] theorem commitStepDone_sram (c : Copy) (bs : List Byte) (s : State) : (commitStepDone c bs s).sram = s.sram := by
  simp only [commitStepDone]; split <;> simp
@[simp] theorem commitStepDone_dir (c : Copy) (bs : List Byte) (s : State) : (commitStepDone c bs s).dir = s.dir := by
  simp only [commitStepDone]; split <;> simp
@[simp] theorem commitStepDone_clock (c : Copy) (bs : List Byte) (s : State) : (commitStepDone c bs s).clock = s.clock := by
  simp only [commitStepDone]; split <;> simp
@[simp] theorem commitStepDone_voices (c : Copy) (bs : List Byte) (s : State) : (commitStepDone c bs s).voices = s.voices := by
  simp only [commitStepDone]; split <;> simp
@[simp] theorem commitStepDone_mixer (c : Copy) (bs : List Byte) (s : State) : (commitStepDone c bs s).mixer = s.mixer := by
  simp only [commitStepDone]; split <;> simp
@[simp] theorem commitStepDone_rumble (c : Copy) (bs : List Byte) (s : State) : (commitStepDone c bs s).rumble = s.rumble := by
  simp only [commitStepDone]; split <;> simp

/-! ## engineTakes -/

@[simp] theorem engineTakes_pending (bs : List Byte) (s : State) : (engineTakes bs s).pending = s.pending := by
  simp only [engineTakes]; split <;> simp
@[simp] theorem engineTakes_free (bs : List Byte) (s : State) : (engineTakes bs s).free = s.free := by
  simp only [engineTakes]; split <;> simp
@[simp] theorem engineTakes_srst (bs : List Byte) (s : State) : (engineTakes bs s).srst = s.srst := by
  simp only [engineTakes]; split <;> simp
@[simp] theorem engineTakes_rom (bs : List Byte) (s : State) : (engineTakes bs s).rom = s.rom := by
  simp only [engineTakes]; split <;> simp
@[simp] theorem engineTakes_sram (bs : List Byte) (s : State) : (engineTakes bs s).sram = s.sram := by
  simp only [engineTakes]; split <;> simp
@[simp] theorem engineTakes_dir (bs : List Byte) (s : State) : (engineTakes bs s).dir = s.dir := by
  simp only [engineTakes]; split <;> simp
@[simp] theorem engineTakes_clock (bs : List Byte) (s : State) : (engineTakes bs s).clock = s.clock := by
  simp only [engineTakes]; split <;> simp
@[simp] theorem engineTakes_voices (bs : List Byte) (s : State) : (engineTakes bs s).voices = s.voices := by
  simp only [engineTakes]; split <;> simp
@[simp] theorem engineTakes_mixer (bs : List Byte) (s : State) : (engineTakes bs s).mixer = s.mixer := by
  simp only [engineTakes]; split <;> simp
@[simp] theorem engineTakes_rumble (bs : List Byte) (s : State) : (engineTakes bs s).rumble = s.rumble := by
  simp only [engineTakes]; split <;> simp

/-! ## burstStores -/

@[simp] theorem burstStores_pending (c : CommitStep) (s : State) : (burstStores c s).pending = s.pending := by
  simp only [burstStores]; split <;> simp
@[simp] theorem burstStores_free (c : CommitStep) (s : State) : (burstStores c s).free = s.free := by
  simp only [burstStores]; split <;> simp
@[simp] theorem burstStores_srst (c : CommitStep) (s : State) : (burstStores c s).srst = s.srst := by
  simp only [burstStores]; split <;> simp
@[simp] theorem burstStores_rom (c : CommitStep) (s : State) : (burstStores c s).rom = s.rom := by
  simp only [burstStores]; split <;> simp
@[simp] theorem burstStores_supply (c : CommitStep) (s : State) : (burstStores c s).supply = s.supply := by
  simp only [burstStores]; split <;> simp
@[simp] theorem burstStores_link (c : CommitStep) (s : State) : (burstStores c s).link = s.link := by
  simp only [burstStores]; split <;> simp
@[simp] theorem burstStores_dir (c : CommitStep) (s : State) : (burstStores c s).dir = s.dir := by
  simp only [burstStores]; split <;> simp
@[simp] theorem burstStores_port (c : CommitStep) (s : State) : (burstStores c s).port = s.port := by
  simp only [burstStores]; split <;> simp
@[simp] theorem burstStores_save (c : CommitStep) (s : State) : (burstStores c s).save = s.save := by
  simp only [burstStores]; split <;> simp
@[simp] theorem burstStores_clock (c : CommitStep) (s : State) : (burstStores c s).clock = s.clock := by
  simp only [burstStores]; split <;> simp
@[simp] theorem burstStores_days (c : CommitStep) (s : State) : (burstStores c s).days = s.days := by
  simp only [burstStores]; split <;> simp
@[simp] theorem burstStores_voices (c : CommitStep) (s : State) : (burstStores c s).voices = s.voices := by
  simp only [burstStores]; split <;> simp
@[simp] theorem burstStores_mixer (c : CommitStep) (s : State) : (burstStores c s).mixer = s.mixer := by
  simp only [burstStores]; split <;> simp
@[simp] theorem burstStores_rumble (c : CommitStep) (s : State) : (burstStores c s).rumble = s.rumble := by
  simp only [burstStores]; split <;> simp

/-! ## completeLoad -/

@[simp] theorem completeLoad_pending (d : Directory) (s : State) : (completeLoad d s).pending = s.pending := by simp [completeLoad]
@[simp] theorem completeLoad_free (d : Directory) (s : State) : (completeLoad d s).free = s.free := by simp [completeLoad]
@[simp] theorem completeLoad_srst (d : Directory) (s : State) : (completeLoad d s).srst = s.srst := by simp [completeLoad]
@[simp] theorem completeLoad_rom (d : Directory) (s : State) : (completeLoad d s).rom = s.rom := by simp [completeLoad]
@[simp] theorem completeLoad_sram (d : Directory) (s : State) : (completeLoad d s).sram = s.sram := by simp [completeLoad]
@[simp] theorem completeLoad_link (d : Directory) (s : State) : (completeLoad d s).link = s.link := by simp [completeLoad]
@[simp] theorem completeLoad_clock (d : Directory) (s : State) : (completeLoad d s).clock = s.clock := by simp [completeLoad]
@[simp] theorem completeLoad_days (d : Directory) (s : State) : (completeLoad d s).days = s.days := by simp [completeLoad]
@[simp] theorem completeLoad_voices (d : Directory) (s : State) : (completeLoad d s).voices = s.voices := by simp [completeLoad]
@[simp] theorem completeLoad_mixer (d : Directory) (s : State) : (completeLoad d s).mixer = s.mixer := by simp [completeLoad]
@[simp] theorem completeLoad_rumble (d : Directory) (s : State) : (completeLoad d s).rumble = s.rumble := by simp [completeLoad]

/-! ## refuseHeader -/

@[simp] theorem refuseHeader_pending (h : List Byte) (s : State) : (refuseHeader h s).pending = s.pending := by simp [refuseHeader]
@[simp] theorem refuseHeader_free (h : List Byte) (s : State) : (refuseHeader h s).free = s.free := by simp [refuseHeader]
@[simp] theorem refuseHeader_srst (h : List Byte) (s : State) : (refuseHeader h s).srst = s.srst := by simp [refuseHeader]
@[simp] theorem refuseHeader_rom (h : List Byte) (s : State) : (refuseHeader h s).rom = s.rom := by simp [refuseHeader]
@[simp] theorem refuseHeader_sram (h : List Byte) (s : State) : (refuseHeader h s).sram = s.sram := by simp [refuseHeader]
@[simp] theorem refuseHeader_link (h : List Byte) (s : State) : (refuseHeader h s).link = s.link := by simp [refuseHeader]
@[simp] theorem refuseHeader_clock (h : List Byte) (s : State) : (refuseHeader h s).clock = s.clock := by simp [refuseHeader]
@[simp] theorem refuseHeader_days (h : List Byte) (s : State) : (refuseHeader h s).days = s.days := by simp [refuseHeader]
@[simp] theorem refuseHeader_voices (h : List Byte) (s : State) : (refuseHeader h s).voices = s.voices := by simp [refuseHeader]
@[simp] theorem refuseHeader_mixer (h : List Byte) (s : State) : (refuseHeader h s).mixer = s.mixer := by simp [refuseHeader]
@[simp] theorem refuseHeader_rumble (h : List Byte) (s : State) : (refuseHeader h s).rumble = s.rumble := by simp [refuseHeader]

/-! ## takeHeader -/

@[simp] theorem takeHeader_pending (h : List Byte) (s : State) : (takeHeader h s).pending = s.pending := by simp [takeHeader]
@[simp] theorem takeHeader_free (h : List Byte) (s : State) : (takeHeader h s).free = s.free := by simp [takeHeader]
@[simp] theorem takeHeader_srst (h : List Byte) (s : State) : (takeHeader h s).srst = s.srst := by simp [takeHeader]
@[simp] theorem takeHeader_rom (h : List Byte) (s : State) : (takeHeader h s).rom = s.rom := by simp [takeHeader]
@[simp] theorem takeHeader_sram (h : List Byte) (s : State) : (takeHeader h s).sram = s.sram := by simp [takeHeader]
@[simp] theorem takeHeader_supply (h : List Byte) (s : State) : (takeHeader h s).supply = s.supply := by simp [takeHeader]
@[simp] theorem takeHeader_link (h : List Byte) (s : State) : (takeHeader h s).link = s.link := by simp [takeHeader]
@[simp] theorem takeHeader_port (h : List Byte) (s : State) : (takeHeader h s).port = s.port := by simp [takeHeader]
@[simp] theorem takeHeader_save (h : List Byte) (s : State) : (takeHeader h s).save = s.save := by simp [takeHeader]
@[simp] theorem takeHeader_clock (h : List Byte) (s : State) : (takeHeader h s).clock = s.clock := by simp [takeHeader]
@[simp] theorem takeHeader_days (h : List Byte) (s : State) : (takeHeader h s).days = s.days := by simp [takeHeader]
@[simp] theorem takeHeader_voices (h : List Byte) (s : State) : (takeHeader h s).voices = s.voices := by simp [takeHeader]
@[simp] theorem takeHeader_mixer (h : List Byte) (s : State) : (takeHeader h s).mixer = s.mixer := by simp [takeHeader]
@[simp] theorem takeHeader_rumble (h : List Byte) (s : State) : (takeHeader h s).rumble = s.rumble := by simp [takeHeader]

/-! ## takeEntry -/

@[simp] theorem takeEntry_pending (i : Nat) (b : List Byte) (s : State) : (takeEntry i b s).pending = s.pending := by simp [takeEntry]
@[simp] theorem takeEntry_free (i : Nat) (b : List Byte) (s : State) : (takeEntry i b s).free = s.free := by simp [takeEntry]
@[simp] theorem takeEntry_srst (i : Nat) (b : List Byte) (s : State) : (takeEntry i b s).srst = s.srst := by simp [takeEntry]
@[simp] theorem takeEntry_rom (i : Nat) (b : List Byte) (s : State) : (takeEntry i b s).rom = s.rom := by simp [takeEntry]
@[simp] theorem takeEntry_sram (i : Nat) (b : List Byte) (s : State) : (takeEntry i b s).sram = s.sram := by simp [takeEntry]
@[simp] theorem takeEntry_supply (i : Nat) (b : List Byte) (s : State) : (takeEntry i b s).supply = s.supply := by simp [takeEntry]
@[simp] theorem takeEntry_link (i : Nat) (b : List Byte) (s : State) : (takeEntry i b s).link = s.link := by simp [takeEntry]
@[simp] theorem takeEntry_port (i : Nat) (b : List Byte) (s : State) : (takeEntry i b s).port = s.port := by simp [takeEntry]
@[simp] theorem takeEntry_save (i : Nat) (b : List Byte) (s : State) : (takeEntry i b s).save = s.save := by simp [takeEntry]
@[simp] theorem takeEntry_clock (i : Nat) (b : List Byte) (s : State) : (takeEntry i b s).clock = s.clock := by simp [takeEntry]
@[simp] theorem takeEntry_days (i : Nat) (b : List Byte) (s : State) : (takeEntry i b s).days = s.days := by simp [takeEntry]
@[simp] theorem takeEntry_voices (i : Nat) (b : List Byte) (s : State) : (takeEntry i b s).voices = s.voices := by simp [takeEntry]
@[simp] theorem takeEntry_mixer (i : Nat) (b : List Byte) (s : State) : (takeEntry i b s).mixer = s.mixer := by simp [takeEntry]
@[simp] theorem takeEntry_rumble (i : Nat) (b : List Byte) (s : State) : (takeEntry i b s).rumble = s.rumble := by simp [takeEntry]

/-! ## finishLoad -/

@[simp] theorem finishLoad_pending (s : State) : (finishLoad s).pending = s.pending := by simp [finishLoad]
@[simp] theorem finishLoad_free (s : State) : (finishLoad s).free = s.free := by simp [finishLoad]
@[simp] theorem finishLoad_srst (s : State) : (finishLoad s).srst = s.srst := by simp [finishLoad]
@[simp] theorem finishLoad_rom (s : State) : (finishLoad s).rom = s.rom := by simp [finishLoad]
@[simp] theorem finishLoad_sram (s : State) : (finishLoad s).sram = s.sram := by simp [finishLoad]
@[simp] theorem finishLoad_link (s : State) : (finishLoad s).link = s.link := by simp [finishLoad]
@[simp] theorem finishLoad_clock (s : State) : (finishLoad s).clock = s.clock := by simp [finishLoad]
@[simp] theorem finishLoad_days (s : State) : (finishLoad s).days = s.days := by simp [finishLoad]
@[simp] theorem finishLoad_voices (s : State) : (finishLoad s).voices = s.voices := by simp [finishLoad]
@[simp] theorem finishLoad_mixer (s : State) : (finishLoad s).mixer = s.mixer := by simp [finishLoad]
@[simp] theorem finishLoad_rumble (s : State) : (finishLoad s).rumble = s.rumble := by simp [finishLoad]

/-! ## loadBurst -/

@[simp] theorem loadBurst_pending (b : List Byte) (s : State) : (loadBurst b s).pending = s.pending := by
  simp only [loadBurst]; split <;> (try split) <;> simp
@[simp] theorem loadBurst_free (b : List Byte) (s : State) : (loadBurst b s).free = s.free := by
  simp only [loadBurst]; split <;> (try split) <;> simp
@[simp] theorem loadBurst_srst (b : List Byte) (s : State) : (loadBurst b s).srst = s.srst := by
  simp only [loadBurst]; split <;> (try split) <;> simp
@[simp] theorem loadBurst_rom (b : List Byte) (s : State) : (loadBurst b s).rom = s.rom := by
  simp only [loadBurst]; split <;> (try split) <;> simp
@[simp] theorem loadBurst_sram (b : List Byte) (s : State) : (loadBurst b s).sram = s.sram := by
  simp only [loadBurst]; split <;> (try split) <;> simp
@[simp] theorem loadBurst_link (b : List Byte) (s : State) : (loadBurst b s).link = s.link := by
  simp only [loadBurst]; split <;> (try split) <;> simp
@[simp] theorem loadBurst_clock (b : List Byte) (s : State) : (loadBurst b s).clock = s.clock := by
  simp only [loadBurst]; split <;> (try split) <;> simp
@[simp] theorem loadBurst_days (b : List Byte) (s : State) : (loadBurst b s).days = s.days := by
  simp only [loadBurst]; split <;> (try split) <;> simp
@[simp] theorem loadBurst_voices (b : List Byte) (s : State) : (loadBurst b s).voices = s.voices := by
  simp only [loadBurst]; split <;> (try split) <;> simp
@[simp] theorem loadBurst_mixer (b : List Byte) (s : State) : (loadBurst b s).mixer = s.mixer := by
  simp only [loadBurst]; split <;> (try split) <;> simp
@[simp] theorem loadBurst_rumble (b : List Byte) (s : State) : (loadBurst b s).rumble = s.rumble := by
  simp only [loadBurst]; split <;> (try split) <;> simp

/-! ## scanBlock -/

@[simp] theorem scanBlock_pending (sc : Scan) (bs : List Byte) (s : State) : (scanBlock sc bs s).pending = s.pending := by
  simp only [scanBlock]; split <;> simp
@[simp] theorem scanBlock_free (sc : Scan) (bs : List Byte) (s : State) : (scanBlock sc bs s).free = s.free := by
  simp only [scanBlock]; split <;> simp
@[simp] theorem scanBlock_srst (sc : Scan) (bs : List Byte) (s : State) : (scanBlock sc bs s).srst = s.srst := by
  simp only [scanBlock]; split <;> simp
@[simp] theorem scanBlock_rom (sc : Scan) (bs : List Byte) (s : State) : (scanBlock sc bs s).rom = s.rom := by
  simp only [scanBlock]; split <;> simp
@[simp] theorem scanBlock_sram (sc : Scan) (bs : List Byte) (s : State) : (scanBlock sc bs s).sram = s.sram := by
  simp only [scanBlock]; split <;> simp
@[simp] theorem scanBlock_dir (sc : Scan) (bs : List Byte) (s : State) : (scanBlock sc bs s).dir = s.dir := by
  simp only [scanBlock]; split <;> simp
@[simp] theorem scanBlock_clock (sc : Scan) (bs : List Byte) (s : State) : (scanBlock sc bs s).clock = s.clock := by
  simp only [scanBlock]; split <;> simp
@[simp] theorem scanBlock_voices (sc : Scan) (bs : List Byte) (s : State) : (scanBlock sc bs s).voices = s.voices := by
  simp only [scanBlock]; split <;> simp
@[simp] theorem scanBlock_mixer (sc : Scan) (bs : List Byte) (s : State) : (scanBlock sc bs s).mixer = s.mixer := by
  simp only [scanBlock]; split <;> simp
@[simp] theorem scanBlock_rumble (sc : Scan) (bs : List Byte) (s : State) : (scanBlock sc bs s).rumble = s.rumble := by
  simp only [scanBlock]; split <;> simp

/-! ## scanTakes -/

@[simp] theorem scanTakes_pending (bs : List Byte) (s : State) : (scanTakes bs s).pending = s.pending := by
  simp only [scanTakes]; split <;> simp
@[simp] theorem scanTakes_free (bs : List Byte) (s : State) : (scanTakes bs s).free = s.free := by
  simp only [scanTakes]; split <;> simp
@[simp] theorem scanTakes_srst (bs : List Byte) (s : State) : (scanTakes bs s).srst = s.srst := by
  simp only [scanTakes]; split <;> simp
@[simp] theorem scanTakes_rom (bs : List Byte) (s : State) : (scanTakes bs s).rom = s.rom := by
  simp only [scanTakes]; split <;> simp
@[simp] theorem scanTakes_sram (bs : List Byte) (s : State) : (scanTakes bs s).sram = s.sram := by
  simp only [scanTakes]; split <;> simp
@[simp] theorem scanTakes_dir (bs : List Byte) (s : State) : (scanTakes bs s).dir = s.dir := by
  simp only [scanTakes]; split <;> simp
@[simp] theorem scanTakes_clock (bs : List Byte) (s : State) : (scanTakes bs s).clock = s.clock := by
  simp only [scanTakes]; split <;> simp
@[simp] theorem scanTakes_voices (bs : List Byte) (s : State) : (scanTakes bs s).voices = s.voices := by
  simp only [scanTakes]; split <;> simp
@[simp] theorem scanTakes_mixer (bs : List Byte) (s : State) : (scanTakes bs s).mixer = s.mixer := by
  simp only [scanTakes]; split <;> simp
@[simp] theorem scanTakes_rumble (bs : List Byte) (s : State) : (scanTakes bs s).rumble = s.rumble := by
  simp only [scanTakes]; split <;> simp

/-! ## checkRetention -/

@[simp] theorem checkRetention_pending (s : State) : (checkRetention s).pending = s.pending := by
  simp only [checkRetention]; split <;> simp
@[simp] theorem checkRetention_free (s : State) : (checkRetention s).free = s.free := by
  simp only [checkRetention]; split <;> simp
@[simp] theorem checkRetention_srst (s : State) : (checkRetention s).srst = s.srst := by
  simp only [checkRetention]; split <;> simp
@[simp] theorem checkRetention_rom (s : State) : (checkRetention s).rom = s.rom := by
  simp only [checkRetention]; split <;> simp
@[simp] theorem checkRetention_sram (s : State) : (checkRetention s).sram = s.sram := by
  simp only [checkRetention]; split <;> simp
@[simp] theorem checkRetention_days (s : State) : (checkRetention s).days = s.days := by
  simp only [checkRetention]; split <;> simp
@[simp] theorem checkRetention_voices (s : State) : (checkRetention s).voices = s.voices := by
  simp only [checkRetention]; split <;> simp
@[simp] theorem checkRetention_mixer (s : State) : (checkRetention s).mixer = s.mixer := by
  simp only [checkRetention]; split <;> simp
@[simp] theorem checkRetention_rumble (s : State) : (checkRetention s).rumble = s.rumble := by
  simp only [checkRetention]; split <;> simp

/-! ## afterMeasurement -/

@[simp] theorem afterMeasurement_pending (s : State) : (afterMeasurement s).pending = s.pending := by
  simp only [afterMeasurement]; split <;> simp
@[simp] theorem afterMeasurement_free (s : State) : (afterMeasurement s).free = s.free := by
  simp only [afterMeasurement]; split <;> simp
@[simp] theorem afterMeasurement_srst (s : State) : (afterMeasurement s).srst = s.srst := by
  simp only [afterMeasurement]; split <;> simp
@[simp] theorem afterMeasurement_rom (s : State) : (afterMeasurement s).rom = s.rom := by
  simp only [afterMeasurement]; split <;> simp
@[simp] theorem afterMeasurement_sram (s : State) : (afterMeasurement s).sram = s.sram := by
  simp only [afterMeasurement]; split <;> simp
@[simp] theorem afterMeasurement_mixer (s : State) : (afterMeasurement s).mixer = s.mixer := by
  simp only [afterMeasurement]; split <;> simp

/-! ## liveDayTurn -/

@[simp] theorem liveDayTurn_pending (s : State) : (liveDayTurn s).pending = s.pending := by simp [liveDayTurn]
@[simp] theorem liveDayTurn_free (s : State) : (liveDayTurn s).free = s.free := by simp [liveDayTurn]
@[simp] theorem liveDayTurn_srst (s : State) : (liveDayTurn s).srst = s.srst := by simp [liveDayTurn]
@[simp] theorem liveDayTurn_rom (s : State) : (liveDayTurn s).rom = s.rom := by simp [liveDayTurn]
@[simp] theorem liveDayTurn_sram (s : State) : (liveDayTurn s).sram = s.sram := by simp [liveDayTurn]
@[simp] theorem liveDayTurn_dir (s : State) : (liveDayTurn s).dir = s.dir := by simp [liveDayTurn]
@[simp] theorem liveDayTurn_clock (s : State) : (liveDayTurn s).clock = s.clock := by simp [liveDayTurn]
@[simp] theorem liveDayTurn_mixer (s : State) : (liveDayTurn s).mixer = s.mixer := by simp [liveDayTurn]

/-! ## clockTick -/

@[simp] theorem clockTick_pending (s : State) : (clockTick s).pending = s.pending := by
  simp only [clockTick]; split <;> (try split) <;> simp
@[simp] theorem clockTick_free (s : State) : (clockTick s).free = s.free := by
  simp only [clockTick]; split <;> (try split) <;> simp
@[simp] theorem clockTick_srst (s : State) : (clockTick s).srst = s.srst := by
  simp only [clockTick]; split <;> (try split) <;> simp
@[simp] theorem clockTick_rom (s : State) : (clockTick s).rom = s.rom := by
  simp only [clockTick]; split <;> (try split) <;> simp
@[simp] theorem clockTick_sram (s : State) : (clockTick s).sram = s.sram := by
  simp only [clockTick]; split <;> (try split) <;> simp
@[simp] theorem clockTick_dir (s : State) : (clockTick s).dir = s.dir := by
  simp only [clockTick]; split <;> (try split) <;> simp
@[simp] theorem clockTick_mixer (s : State) : (clockTick s).mixer = s.mixer := by
  simp only [clockTick]; split <;> (try split) <;> simp

/-! ## takeTick -/

@[simp] theorem takeTick_pending (b : Bool) (s : State) : (takeTick b s).pending = s.pending := by
  simp only [takeTick]; split <;> simp
@[simp] theorem takeTick_free (b : Bool) (s : State) : (takeTick b s).free = s.free := by
  simp only [takeTick]; split <;> simp
@[simp] theorem takeTick_srst (b : Bool) (s : State) : (takeTick b s).srst = s.srst := by
  simp only [takeTick]; split <;> simp
@[simp] theorem takeTick_rom (b : Bool) (s : State) : (takeTick b s).rom = s.rom := by
  simp only [takeTick]; split <;> simp
@[simp] theorem takeTick_sram (b : Bool) (s : State) : (takeTick b s).sram = s.sram := by
  simp only [takeTick]; split <;> simp
@[simp] theorem takeTick_dir (b : Bool) (s : State) : (takeTick b s).dir = s.dir := by
  simp only [takeTick]; split <;> simp
@[simp] theorem takeTick_mixer (b : Bool) (s : State) : (takeTick b s).mixer = s.mixer := by
  simp only [takeTick]; split <;> simp

/-! ## moveEnvelopes -/

@[simp] theorem moveEnvelopes_pending (s : State) : (moveEnvelopes s).pending = s.pending := by simp [moveEnvelopes]
@[simp] theorem moveEnvelopes_free (s : State) : (moveEnvelopes s).free = s.free := by simp [moveEnvelopes]
@[simp] theorem moveEnvelopes_srst (s : State) : (moveEnvelopes s).srst = s.srst := by simp [moveEnvelopes]
@[simp] theorem moveEnvelopes_rom (s : State) : (moveEnvelopes s).rom = s.rom := by simp [moveEnvelopes]
@[simp] theorem moveEnvelopes_sram (s : State) : (moveEnvelopes s).sram = s.sram := by simp [moveEnvelopes]
@[simp] theorem moveEnvelopes_supply (s : State) : (moveEnvelopes s).supply = s.supply := by simp [moveEnvelopes]
@[simp] theorem moveEnvelopes_dir (s : State) : (moveEnvelopes s).dir = s.dir := by simp [moveEnvelopes]
@[simp] theorem moveEnvelopes_clock (s : State) : (moveEnvelopes s).clock = s.clock := by simp [moveEnvelopes]
@[simp] theorem moveEnvelopes_mixer (s : State) : (moveEnvelopes s).mixer = s.mixer := by simp [moveEnvelopes]

/-! ## soundFrame -/

@[simp] theorem soundFrame_pending (s : State) : (soundFrame s).pending = s.pending := by simp [soundFrame]
@[simp] theorem soundFrame_srst (s : State) : (soundFrame s).srst = s.srst := by simp [soundFrame]
@[simp] theorem soundFrame_rom (s : State) : (soundFrame s).rom = s.rom := by simp [soundFrame]
@[simp] theorem soundFrame_sram (s : State) : (soundFrame s).sram = s.sram := by simp [soundFrame]
@[simp] theorem soundFrame_supply (s : State) : (soundFrame s).supply = s.supply := by simp [soundFrame]
@[simp] theorem soundFrame_dir (s : State) : (soundFrame s).dir = s.dir := by simp [soundFrame]
@[simp] theorem soundFrame_clock (s : State) : (soundFrame s).clock = s.clock := by simp [soundFrame]

/-! ## placeWaiting -/

@[simp] theorem placeWaiting_pending (x : PlayerEntry) (s : State) : (placeWaiting x s).1.pending = s.pending := by
  simp only [placeWaiting]; split <;> simp
@[simp] theorem placeWaiting_free (x : PlayerEntry) (s : State) : (placeWaiting x s).1.free = s.free := by
  simp only [placeWaiting]; split <;> simp
@[simp] theorem placeWaiting_srst (x : PlayerEntry) (s : State) : (placeWaiting x s).1.srst = s.srst := by
  simp only [placeWaiting]; split <;> simp
@[simp] theorem placeWaiting_rom (x : PlayerEntry) (s : State) : (placeWaiting x s).1.rom = s.rom := by
  simp only [placeWaiting]; split <;> simp
@[simp] theorem placeWaiting_sram (x : PlayerEntry) (s : State) : (placeWaiting x s).1.sram = s.sram := by
  simp only [placeWaiting]; split <;> simp
@[simp] theorem placeWaiting_supply (x : PlayerEntry) (s : State) : (placeWaiting x s).1.supply = s.supply := by
  simp only [placeWaiting]; split <;> simp
@[simp] theorem placeWaiting_dir (x : PlayerEntry) (s : State) : (placeWaiting x s).1.dir = s.dir := by
  simp only [placeWaiting]; split <;> simp
@[simp] theorem placeWaiting_port (x : PlayerEntry) (s : State) : (placeWaiting x s).1.port = s.port := by
  simp only [placeWaiting]; split <;> simp
@[simp] theorem placeWaiting_save (x : PlayerEntry) (s : State) : (placeWaiting x s).1.save = s.save := by
  simp only [placeWaiting]; split <;> simp
@[simp] theorem placeWaiting_clock (x : PlayerEntry) (s : State) : (placeWaiting x s).1.clock = s.clock := by
  simp only [placeWaiting]; split <;> simp
@[simp] theorem placeWaiting_days (x : PlayerEntry) (s : State) : (placeWaiting x s).1.days = s.days := by
  simp only [placeWaiting]; split <;> simp
@[simp] theorem placeWaiting_voices (x : PlayerEntry) (s : State) : (placeWaiting x s).1.voices = s.voices := by
  simp only [placeWaiting]; split <;> simp
@[simp] theorem placeWaiting_mixer (x : PlayerEntry) (s : State) : (placeWaiting x s).1.mixer = s.mixer := by
  simp only [placeWaiting]; split <;> simp

/-! ## place -/

@[simp] theorem place_pending (x : PlayerEntry) (s : State) : (place x s).1.pending = s.pending := by
  simp only [place]; split <;> (try split) <;> simp
@[simp] theorem place_free (x : PlayerEntry) (s : State) : (place x s).1.free = s.free := by
  simp only [place]; split <;> (try split) <;> simp
@[simp] theorem place_srst (x : PlayerEntry) (s : State) : (place x s).1.srst = s.srst := by
  simp only [place]; split <;> (try split) <;> simp
@[simp] theorem place_rom (x : PlayerEntry) (s : State) : (place x s).1.rom = s.rom := by
  simp only [place]; split <;> (try split) <;> simp
@[simp] theorem place_sram (x : PlayerEntry) (s : State) : (place x s).1.sram = s.sram := by
  simp only [place]; split <;> (try split) <;> simp
@[simp] theorem place_supply (x : PlayerEntry) (s : State) : (place x s).1.supply = s.supply := by
  simp only [place]; split <;> (try split) <;> simp
@[simp] theorem place_dir (x : PlayerEntry) (s : State) : (place x s).1.dir = s.dir := by
  simp only [place]; split <;> (try split) <;> simp
@[simp] theorem place_port (x : PlayerEntry) (s : State) : (place x s).1.port = s.port := by
  simp only [place]; split <;> (try split) <;> simp
@[simp] theorem place_save (x : PlayerEntry) (s : State) : (place x s).1.save = s.save := by
  simp only [place]; split <;> (try split) <;> simp
@[simp] theorem place_clock (x : PlayerEntry) (s : State) : (place x s).1.clock = s.clock := by
  simp only [place]; split <;> (try split) <;> simp
@[simp] theorem place_days (x : PlayerEntry) (s : State) : (place x s).1.days = s.days := by
  simp only [place]; split <;> (try split) <;> simp
@[simp] theorem place_voices (x : PlayerEntry) (s : State) : (place x s).1.voices = s.voices := by
  simp only [place]; split <;> (try split) <;> simp
@[simp] theorem place_mixer (x : PlayerEntry) (s : State) : (place x s).1.mixer = s.mixer := by
  simp only [place]; split <;> (try split) <;> simp

/-! ## warnIfBelow -/

@[simp] theorem warnIfBelow_pending (s : State) : (warnIfBelow s).pending = s.pending := by
  simp only [warnIfBelow]; split <;> simp
@[simp] theorem warnIfBelow_free (s : State) : (warnIfBelow s).free = s.free := by
  simp only [warnIfBelow]; split <;> simp
@[simp] theorem warnIfBelow_srst (s : State) : (warnIfBelow s).srst = s.srst := by
  simp only [warnIfBelow]; split <;> simp
@[simp] theorem warnIfBelow_rom (s : State) : (warnIfBelow s).rom = s.rom := by
  simp only [warnIfBelow]; split <;> simp
@[simp] theorem warnIfBelow_sram (s : State) : (warnIfBelow s).sram = s.sram := by
  simp only [warnIfBelow]; split <;> simp
@[simp] theorem warnIfBelow_dir (s : State) : (warnIfBelow s).dir = s.dir := by
  simp only [warnIfBelow]; split <;> simp
@[simp] theorem warnIfBelow_clock (s : State) : (warnIfBelow s).clock = s.clock := by
  simp only [warnIfBelow]; split <;> simp

end Sys2Proof.Machine
end

