-- ==== Sys2Proof/Laws/Requests.lean ====
section
/-! SUPPORT. The way of a request from its reception to its reply, said once: what `serve` answers when the link takes
the request, when the link refuses it, and when the part hears nothing; what the end of a selection does; and what a tick
of the clock and a passage of start-up can do. -/

namespace Sys2Proof.Machine

/-- The state in which a request is judged when no earlier selection stands: the erase-arm latch is empty (R77). -/
def heard (s : State) : State := { s with link := { s.link with latch := none } }

@[simp] theorem heard_pending (s : State) : (heard s).pending = s.pending := rfl
@[simp] theorem heard_free (s : State) : (heard s).free = s.free := rfl
@[simp] theorem heard_srst (s : State) : (heard s).srst = s.srst := rfl
@[simp] theorem heard_rom (s : State) : (heard s).rom = s.rom := rfl
@[simp] theorem heard_sram (s : State) : (heard s).sram = s.sram := rfl
@[simp] theorem heard_supply (s : State) : (heard s).supply = s.supply := rfl
@[simp] theorem heard_dir (s : State) : (heard s).dir = s.dir := rfl
@[simp] theorem heard_port (s : State) : (heard s).port = s.port := rfl
@[simp] theorem heard_save (s : State) : (heard s).save = s.save := rfl
@[simp] theorem heard_clock (s : State) : (heard s).clock = s.clock := rfl
@[simp] theorem heard_days (s : State) : (heard s).days = s.days := rfl
@[simp] theorem heard_voices (s : State) : (heard s).voices = s.voices := rfl
@[simp] theorem heard_mixer (s : State) : (heard s).mixer = s.mixer := rfl
@[simp] theorem heard_rumble (s : State) : (heard s).rumble = s.rumble := rfl
@[simp] theorem heard_queue (s : State) : (heard s).link.queue = s.link.queue := rfl
@[simp] theorem heard_mask (s : State) : (heard s).link.mask = s.link.mask := rfl
@[simp] theorem heard_selection (s : State) : (heard s).link.selection = s.link.selection := rfl

/-- With no selection standing, a frame's reception only empties the latch. -/
theorem received_of_none (s : State) (h : s.link.selection = .none) : received s = heard s := by
  simp [received, endSelection, h, heard]

/-- With no selection standing, the presented arm is the latch's contents. -/
theorem presentedArm_of_none (s : State) (h : s.link.selection = .none) : presentedArm s = s.link.latch := by
  simp [presentedArm, endSelection, h]

/-- A request the link takes is answered by its owner. -/
theorem serve_of_takes {k : Kind} {q : Request} {s : State} (owner : Option Arm → State → Answer) (h : Takes k q s) :
    serve k q owner s = (owner s.link.latch (heard s)).reply q.tag := by
  obtain ⟨hh, hsel, hlen, hlev, hph⟩ := h
  have hrank : q.rank = q.level.toNat := rfl
  have h2 : leastTrusted k ≤ 2 := by cases k <;> decide
  have hd : hasDays (heard s) = hasDays s := rfl
  have hno : linkRefusal k q (heard s) = none := by
    simp only [linkRefusal, hlen, hrank, hd, heard_supply]
    rw [if_neg (by simp), if_neg (by omega), if_neg (by omega)]
  simp only [serve, hh, if_true, received_of_none s hsel, presentedArm_of_none s hsel, hno]

/-- A request the link refuses is answered by its status, with an empty payload, and changes nothing else. -/
theorem serve_of_refused {k : Kind} {q : Request} {s : State} {st : Status} (owner : Option Arm → State → Answer)
    (hh : hears s = true) (hsel : s.link.selection = .none) (hr : linkRefusal k q (heard s) = some st) :
    serve k q owner s = answered st q.tag [] s := by
  simp only [serve, hh, if_true, received_of_none s hsel, hr]
  rfl

/-- A part that hears nothing changes nothing. -/
theorem serve_of_deaf {k : Kind} {q : Request} {s : State} (owner : Option Arm → State → Answer)
    (hh : hears s = false) : serve k q owner s = s := by
  simp [serve, hh]

@[simp] theorem replyWith_heard (st : Status) (tag : Byte) (p : List Byte) (s : State) :
    replyWith st tag p false (heard s) = answered st tag p s := rfl

/-- A reply at once, from the state the request was heard in. -/
@[simp] theorem reply_now_heard (st : Status) (p : List Byte) (tag : Byte) (s : State) :
    (Answer.now (heard s) st p).reply tag = answered st tag p s := rfl

@[simp] theorem reply_refuse_heard (st : Status) (tag : Byte) (s : State) :
    (refuse st (heard s)).reply tag = answered st tag [] s := rfl

@[simp] theorem reply_now (s : State) (st : Status) (p : List Byte) (tag : Byte) :
    (Answer.now s st p).reply tag = replyWith st tag p false s := rfl

@[simp] theorem reply_later (s : State) (tag : Byte) :
    (Answer.later s).reply tag = { s with link := { s.link with selection := .awaiting tag } } := rfl

@[simp] theorem reply_thenReset (s : State) (tag : Byte) :
    (Answer.thenReset s).reply tag = replyWith .ok tag [] true s := rfl

/-- A named tick changes nothing, or is the clock's tick, due and rightly named. -/
theorem takeTick_cases (named : Bool) (s : State) :
    takeTick named s = s ∨ (tickDue s.clock = true ∧ named = true ∧ takeTick named s = clockTick s) := by
  cases hd : tickDue s.clock <;> cases named <;> simp [takeTick, hd]

/-- A CLOCK_SET restarts the divider past the frame of a tick that was due, and else at 0. -/
theorem restartedDivider_cases (c : Clock) :
    (tickDue c = true ∧ restartedDivider c = 1) ∨ (tickDue c = false ∧ restartedDivider c = 0) := by
  cases h : tickDue c <;> simp [restartedDivider, h]

@[simp] theorem setClock_trim (d n : Nat) (c : Clock) : (setClock d n c).trim = c.trim := rfl

@[simp] theorem setClock_divider (d n : Nat) (c : Clock) : (setClock d n c).divider = restartedDivider c := rfl

/-- The motor is driven, at the applied strength, exactly while the slot domain runs. -/
theorem mdrv_eq_some_iff (s : State) (a : Nat) : mdrv s = some a ↔ slotUp s = true ∧ a = s.rumble.applied := by
  cases h : slotUp s <;> simp [mdrv, h, eq_comm]

/-- A passage waits in WARN, and is made outside it. -/
theorem passTo_supply (n : Nat) (s : State) :
    (passTo n s).supply = if inWarn s then { s.supply with waiting := true }
      else { s.supply with phase := n, waiting := false } := rfl

/-- The step takes the command at the front of the queue. -/
theorem step_cons (c : Instr) (rest : List Instr) (s : State) :
    step { s with pending := c :: rest } = exec c { s with pending := rest } := rfl

end Sys2Proof.Machine
end

