-- ==== Sys2Proof/Laws/Answers.lean ====
section
/-! SUPPORT. What each owner's answer can do to the state, said once: a refused or reporting request leaves it, an
accepted one makes the update named. With `serve_induction`, every invariant of the requests follows from these. -/

namespace Sys2Proof.Machine

/-- The state an answer leaves, before the reply is formed. -/
def Answer.state : Answer → State
  | .now s _ _ => s
  | .later s => s
  | .thenReset s => s

@[simp] theorem state_now (s : State) (st : Status) (p : List Byte) : (Answer.now s st p).state = s := rfl
@[simp] theorem state_later (s : State) : (Answer.later s).state = s := rfl
@[simp] theorem state_thenReset (s : State) : (Answer.thenReset s).state = s := rfl
@[simp] theorem state_refuse (st : Status) (s : State) : (refuse st s).state = s := rfl

/-- A reply changes the selection alone. -/
theorem reply_eq (a : Answer) (tag : Byte) :
    ∃ sel, a.reply tag = { a.state with link := { a.state.link with selection := sel } } := by
  cases a with
  | now s st p => exact ⟨_, rfl⟩
  | later s => exact ⟨_, rfl⟩
  | thenReset s => exact ⟨_, rfl⟩

/-- A property of states that the latch and the selection do not touch, that the end of a selection keeps and that the
owner keeps, is kept by the whole way of a request. -/
theorem serve_induction {P : State → Prop} {k : Kind} {q : Request} {owner : Option Arm → State → Answer} {s : State}
    (hlink : ∀ s l, l.queue = s.link.queue → l.mask = s.link.mask → P s → P { s with link := l })
    (hend : P s → P (endSelection s)) (hown : ∀ arm s, P s → P (owner arm s).state) (h : P s) :
    P (serve k q owner s) := by
  have hrec : P (received s) := hlink (endSelection s) _ rfl rfl (hend h)
  unfold serve
  split
  · split
    · exact hlink (received s) _ rfl rfl hrec
    · obtain ⟨sel, hsel⟩ := reply_eq (owner (presentedArm s) (received s)) q.tag
      rw [hsel]
      exact hlink _ _ rfl rfl (hown _ _ hrec)
  · exact h

/-! ## Answers that report -/

@[simp] theorem answerIdent_state (s : State) : (answerIdent s).state = s := rfl
@[simp] theorem answerSaveStatus_state (s : State) : (answerSaveStatus s).state = s := rfl
@[simp] theorem answerClockRead_state (s : State) : (answerClockRead s).state = s := rfl
@[simp] theorem answerRumbleRead_state (s : State) : (answerRumbleRead s).state = s := rfl
@[simp] theorem answerSupplyRead_state (s : State) : (answerSupplyRead s).state = s := rfl
@[simp] theorem answerRegionInfo_state (q : Request) (s : State) : (answerRegionInfo q s).state = s := by
  unfold answerRegionInfo; split <;> rfl
@[simp] theorem answerCounterRead_state (q : Request) (s : State) : (answerCounterRead q s).state = s := by
  unfold answerCounterRead; split <;> rfl
@[simp] theorem answerVoiceRead_state (q : Request) (s : State) : (answerVoiceRead q s).state = s := by
  unfold answerVoiceRead; split <;> rfl
@[simp] theorem answerDayToDate_state (q : Request) (s : State) : (answerDayToDate q s).state = s := by
  simp only [answerDayToDate]; split <;> rfl
@[simp] theorem answerDateToDay_state (q : Request) (s : State) : (answerDateToDay q s).state = s := by
  simp only [answerDateToDay]; split <;> rfl

/-! ## Answers of the link interface and the region directory -/

theorem answerNoticeFetch_cases (s : State) :
    (answerNoticeFetch s).state = s
      ∨ ∃ x rest, s.link.queue = x :: rest
        ∧ (answerNoticeFetch s).state = { s with link := { s.link with queue := rest } } := by
  unfold answerNoticeFetch
  split
  · exact .inl rfl
  · exact .inr ⟨_, _, by assumption, rfl⟩

theorem answerNoticeMask_cases (q : Request) (s : State) :
    (answerNoticeMask q s).state = s
      ∨ (answerNoticeMask q s).state = { s with link := { s.link with mask := BitVec.ofNat 10 (q.word 0) } } := by
  unfold answerNoticeMask
  split
  · exact .inr rfl
  · exact .inl rfl

theorem answerRegionPresent_cases (q : Request) (s : State) :
    (answerRegionPresent q s).state = s
      ∨ ∃ p, (answerRegionPresent q s).state = setPresent (q.byte 0) p s := by
  simp only [answerRegionPresent]
  split
  · exact .inl rfl
  · split
    · exact .inl rfl
    · split
      · exact .inl rfl
      · exact .inr ⟨_, rfl⟩

/-! ## Answers of the save engine -/

theorem answerSaveRead_cases (q : Request) (s : State) :
    (answerSaveRead q s).state = s ∨ ∃ r, (answerSaveRead q s).state = grant (postLinkRead r s) := by
  simp only [answerSaveRead]
  split
  · exact .inl rfl
  · split
    · exact .inl rfl
    · split
      · exact .inl rfl
      · exact .inr ⟨_, rfl⟩

theorem answerSaveBegin_cases (q : Request) (s : State) :
    (answerSaveBegin q s).state = s
      ∨ ∃ w, s.save.kept.title.state = .free ∧ inWarn s = false
        ∧ resolveSave s (q.byte 0) q.rank true (fun _ => true) = .window w
        ∧ (answerSaveBegin q s).state = setSlot .title (collectingSlot w q.tag s.save.kept.title) s := by
  unfold answerSaveBegin
  split
  · exact .inl rfl
  · rename_i w hw
    split
    · exact .inl rfl
    · rename_i hf
      split
      · exact .inl rfl
      · rename_i hn
        exact .inr ⟨w, by simpa using hf, by simpa using hn, hw, rfl⟩

theorem answerSaveWrite_cases (q : Request) (s : State) :
    (answerSaveWrite q s).state = s
      ∨ ((s.save.kept.title.state = .collecting
        ∧ s.save.kept.title.blocks.length
            + (newBlocks s.save.kept.title.blocks (s.save.kept.title.offset + q.quad 0) (q.payload.drop 4).length).length ≤ 31)
        ∧ (answerSaveWrite q s).state = setSlot .title { s.save.kept.title with
            blocks := mergeWrite (s.save.kept.title.offset + q.quad 0) (q.payload.drop 4) s.save.kept.title.blocks } s) := by
  simp only [answerSaveWrite]
  split
  · exact .inl rfl
  · rename_i hc
    split
    · exact .inl rfl
    · split
      · exact .inl rfl
      · split
        · exact .inl rfl
        · rename_i hl
          exact .inr ⟨⟨by simpa using hc, by omega⟩, rfl⟩

theorem answerSaveCommit_cases (q : Request) (s : State) :
    (answerSaveCommit q s).state = s
      ∨ (committable s.save.kept.title = true ∧ inWarn s = false
        ∧ (((answerSaveCommit q s).state = endEmpty q.tag s ∧ s.save.kept.title.state = .collecting)
          ∨ ∃ full, (answerSaveCommit q s).state = settle (queueTitle q.tag full s))) := by
  simp only [answerSaveCommit]
  split
  · exact .inl rfl
  · rename_i hc
    have hc' : committable s.save.kept.title = true := by simpa using hc
    split
    · exact .inl rfl
    · split
      · exact .inl rfl
      · rename_i hw
        have hw' : inWarn s = false := by simpa using hw
        split
        · exact .inl rfl
        · split
          · exact .inr ⟨hc', hw', .inr ⟨_, rfl⟩⟩
          · rename_i hp
            split
            · refine .inr ⟨hc', hw', .inl ⟨rfl, ?_⟩⟩
              simp only [committable, Bool.or_eq_true, beq_iff_eq, Bool.and_eq_true] at hc'
              tauto
            · exact .inr ⟨hc', hw', .inr ⟨_, rfl⟩⟩

theorem answerSaveAbandon_cases (q : Request) (s : State) :
    (answerSaveAbandon q s).state = s
      ∨ (committable s.save.kept.title = true
        ∧ (answerSaveAbandon q s).state
          = setOutcome ⟨s.save.kept.title.target, q.tag, opOfKind s.save.kept.title.kind, .discarded, none⟩
              (freeSlot .title s)) := by
  simp only [answerSaveAbandon]
  split
  · exact .inl rfl
  · split
    · exact .inl rfl
    · split
      · exact .inl rfl
      · rename_i h
        exact .inr ⟨by simpa using h, rfl⟩

/-! ## Answers of the lock and erase requests -/

theorem mismatch_state (region : Nat) (s : State) :
    (mismatch region s).state = setTries region (triesAt s region - 1) s := rfl

theorem answerLockSet_cases (q : Request) (s : State) :
    (answerLockSet q s).state = s
      ∨ ∃ w lv, resolveLock s (q.byte 0) q.rank true = .window w
        ∧ (answerLockSet q s).state = setRecord w.target (lockedRecord (recordAt s w.target) (q.password 1) lv) s := by
  unfold answerLockSet
  split
  · exact .inl rfl
  · rename_i w hw
    split
    · exact .inl rfl
    · split
      · exact .inl rfl
      · split
        · exact .inl rfl
        · split
          · exact .inl rfl
          · exact .inr ⟨w, _, hw, rfl⟩

theorem answerLockOpen_cases (q : Request) (s : State) :
    (answerLockOpen q s).state = s
      ∨ (∃ r, (answerLockOpen q s).state = setLock r .opened s)
      ∨ ∃ r, (answerLockOpen q s).state = setTries r (triesAt s r - 1) s := by
  simp only [answerLockOpen]
  repeat' split
  all_goals first | exact .inl rfl | exact .inr (.inl ⟨_, rfl⟩) | exact .inr (.inr ⟨_, rfl⟩)

theorem answerLockClear_cases (q : Request) (s : State) :
    (answerLockClear q s).state = s
      ∨ (∃ r, (answerLockClear q s).state = setRecord r (unlockedRecord (recordAt s r)) s)
      ∨ ∃ r, (answerLockClear q s).state = setTries r (triesAt s r - 1) s := by
  simp only [answerLockClear]
  repeat' split
  all_goals first | exact .inl rfl | exact .inr (.inl ⟨_, rfl⟩) | exact .inr (.inr ⟨_, rfl⟩)

theorem answerMasterSet_cases (q : Request) (s : State) :
    (answerMasterSet q s).state = s
      ∨ (answerMasterSet q s).state = setKept { s.save.kept with master := some (q.password 0) } s := by
  unfold answerMasterSet
  split
  · exact .inl rfl
  · exact .inr rfl

@[simp] theorem answerLockFreeze_state (s : State) :
    (answerLockFreeze s).state = { s with save := { s.save with frozen := true } } := rfl

theorem answerEraseArm_cases (q : Request) (s : State) :
    (answerEraseArm q s).state = s
      ∨ (answerEraseArm q s).state = { s with link := { s.link with latch := some ⟨q.byte 0, q.rank⟩ } } := by
  unfold answerEraseArm
  split
  · exact .inl rfl
  · split
    · exact .inl rfl
    · exact .inr rfl

theorem answerErase_cases (q : Request) (arm : Option Arm) (s : State) :
    (answerErase q arm s).state = s
      ∨ (∃ r, (answerErase q arm s).state = setTries r (triesAt s r - 1) s)
      ∨ ∃ w, s.save.kept.title.state = .free ∧ inWarn s = false
        ∧ (answerErase q arm s).state = settle (queueErase w q.tag s) := by
  simp only [answerErase]
  split
  · exact .inl rfl
  · split
    · exact .inl rfl
    · split
      · exact .inl rfl
      · split
        · exact .inl rfl
        · rename_i hf
          split
          · exact .inl rfl
          · rename_i hw
            split
            · exact .inl rfl
            · split
              · exact .inl rfl
              · split
                · exact .inr (.inl ⟨_, rfl⟩)
                · exact .inr (.inr ⟨_, by simpa using hf, by simpa using hw, rfl⟩)

/-! ## Answers of the calendar -/

theorem answerClockSet_cases (q : Request) (s : State) :
    (answerClockSet q s).state = s
      ∨ ∃ day second, clockSetTarget q = some (day, second)
        ∧ (answerClockSet q s).state
          = settle (catchUp (notify (.clockState .set) { s with clock := setClock day second s.clock })) := by
  unfold answerClockSet
  split
  · exact .inl rfl
  · exact .inr ⟨_, _, by assumption, rfl⟩

@[simp] theorem answerClockTrim_state (q : Request) (s : State) :
    (answerClockTrim q s).state
      = { s with clock := { s.clock with trim := clampTrim (signedOf 2 (q.word 0)) } } := rfl

theorem answerCounterArm_cases (q : Request) (s : State) :
    (answerCounterArm q s).state = s
      ∨ (answerCounterArm q s).state
        = settle (putCounter (q.byte 0) (armedCounter (q.word 1) (q.word 3)) true s) := by
  unfold answerCounterArm
  split
  · exact .inl rfl
  · exact .inr rfl

theorem answerCounterDisarm_cases (q : Request) (s : State) :
    (answerCounterDisarm q s).state = s
      ∨ ∃ d, (answerCounterDisarm q s).state
        = settle (putCounter (q.byte 0) { counterAt s (q.byte 0) with state := .disarmed } d s) := by
  unfold answerCounterDisarm
  split
  · exact .inl rfl
  · exact .inr ⟨_, rfl⟩

theorem answerCounterAck_cases (q : Request) (s : State) :
    (answerCounterAck q s).state = s
      ∨ ∃ d, (answerCounterAck q s).state
        = settle (putCounter (q.byte 0) (ackedCounter (counterAt s (q.byte 0))) d s) := by
  unfold answerCounterAck
  split
  · exact .inl rfl
  · exact .inr ⟨_, rfl⟩

theorem answerDaysConfig_cases (q : Request) (s : State) :
    (answerDaysConfig q s).state = s
      ∨ (q.quad 0 ≤ 86399 ∧ (answerDaysConfig q s).state
        = settle (catchUp (setDays { s.days with turnSecond := q.quad 0, dirty := true } s))) := by
  unfold answerDaysConfig
  split
  · exact .inl rfl
  · split
    · exact .inl rfl
    · exact .inr ⟨by omega, rfl⟩

theorem answerDayTest_cases (q : Request) (s : State) :
    (answerDayTest q s).state = s ∨ ∃ x, (answerDayTest q s).state = unordered x s := by
  simp only [answerDayTest]
  split
  · split
    · exact .inl rfl
    · split
      · exact .inr ⟨_, rfl⟩
      · exact .inl rfl
  · exact .inl rfl

/-! ## Answers of the sound engine -/

theorem answerVoiceSetup_cases (q : Request) (s : State) :
    (answerVoiceSetup q s).state = s
      ∨ ∃ win, (setupOf q).voice ≤ 7 ∧ (voiceAt s (setupOf q).voice).state = .idle
        ∧ (answerVoiceSetup q s).state
          = settle (staleRefill (setupOf q).voice
              (setVoice (setupOf q).voice (setUpVoice (setupOf q) win (voiceAt s (setupOf q).voice)) s)) := by
  have key : ∀ win, (finishSetup (setupOf q) win s).state = s
      ∨ ((setupOf q).voice ≤ 7 ∧ (voiceAt s (setupOf q).voice).state = .idle
        ∧ (finishSetup (setupOf q) win s).state
          = settle (staleRefill (setupOf q).voice
              (setVoice (setupOf q).voice (setUpVoice (setupOf q) win (voiceAt s (setupOf q).voice)) s))) := by
    intro win
    unfold finishSetup
    split
    · exact .inl rfl
    · rename_i h
      unfold setupRefusal at h
      split at h
      · exact absurd h (by simp)
      · rename_i hb
        split at h
        · exact absurd h (by simp)
        · split at h
          · exact absurd h (by simp)
          · rename_i hv
            have h7 : (setupOf q).voice ≤ 7 := by
              by_contra hgt
              exact hv (.inl (by omega))
            exact .inr ⟨h7, by by_contra hne; exact hb ⟨h7, hne⟩, rfl⟩
  unfold answerVoiceSetup
  split
  · exact .inl rfl
  · rcases key _ with h | ⟨h7, hi, h⟩
    · exact .inl h
    · exact .inr ⟨_, h7, hi, h⟩
  · rcases key _ with h | ⟨h7, hi, h⟩
    · exact .inl h
    · exact .inr ⟨_, h7, hi, h⟩

theorem answerVoicePitch_cases (q : Request) (s : State) :
    (answerVoicePitch q s).state = s
      ∨ (answerVoicePitch q s).state
        = setVoice (q.byte 0) { voiceAt s (q.byte 0) with rate := clampRate (q.word 1) } s := by
  unfold answerVoicePitch
  split
  · exact .inl rfl
  · exact .inr rfl

theorem answerVoiceLevel_cases (q : Request) (s : State) :
    (answerVoiceLevel q s).state = s
      ∨ (answerVoiceLevel q s).state
        = setVoice (q.byte 0) { voiceAt s (q.byte 0) with
            volume := min 127 (q.byte 1), pan := min 128 (q.byte 2) } s := by
  unfold answerVoiceLevel
  split
  · exact .inl rfl
  · exact .inr rfl

theorem answerVoiceRamp_cases (q : Request) (s : State) :
    (answerVoiceRamp q s).state = s
      ∨ (answerVoiceRamp q s).state
        = setVoice (q.byte 0) { voiceAt s (q.byte 0) with
            target := min 1023 (q.word 1), step := clampStep (q.word 3) } s := by
  unfold answerVoiceRamp
  split
  · exact .inl rfl
  · exact .inr rfl

theorem answerVoiceKeyOn_cases (q : Request) (s : State) :
    (answerVoiceKeyOn q s).state = s
      ∨ (q.byte 0 ≤ 7 ∧ (answerVoiceKeyOn q s).state
        = settle (staleRefill (q.byte 0) (setVoice (q.byte 0) (keyedOn (voiceAt s (q.byte 0))) s))) := by
  unfold answerVoiceKeyOn
  split
  · exact .inl rfl
  · exact .inr ⟨by omega, rfl⟩

theorem answerVoiceKeyOff_cases (q : Request) (s : State) :
    (answerVoiceKeyOff q s).state = s
      ∨ (answerVoiceKeyOff q s).state
        = setVoice (q.byte 0) (keyedOff (clampStep (q.word 1)) (voiceAt s (q.byte 0))) s := by
  unfold answerVoiceKeyOff
  split
  · exact .inl rfl
  · exact .inr rfl

theorem answerVoiceStop_cases (q : Request) (s : State) :
    (answerVoiceStop q s).state = s
      ∨ (q.byte 0 ≤ 7 ∧ (answerVoiceStop q s).state = stopVoice (q.byte 0) s) := by
  unfold answerVoiceStop
  split
  · exact .inl rfl
  · exact .inr ⟨by omega, rfl⟩

theorem answerMixConfig_cases (q : Request) (s : State) :
    (answerMixConfig q s).state = s
      ∨ ∃ m, (answerMixConfig q s).state = recompute { s with mixer := m } := by
  unfold answerMixConfig
  split
  · exact .inr ⟨_, rfl⟩
  · exact .inl rfl

theorem answerMixFlags_cases (q : Request) (s : State) :
    (answerMixFlags q s).state = s
      ∨ ∃ m, m.output = s.mixer.output ∧ (answerMixFlags q s).state = { s with mixer := m } := by
  unfold answerMixFlags
  split
  · exact .inl rfl
  · rename_i e _
    exact .inr ⟨{ s.mixer with flags := s.mixer.flags &&& ~~~(BitVec.ofNat 8 (q.byte 0)), enables := e }, rfl, rfl⟩

/-! ## Answers of the rumble driver and the supply monitor -/

theorem answerRumbleDefine_cases (q : Request) (s : State) :
    (answerRumbleDefine q s).state = s
      ∨ ∃ p steps, patternHeld s.rumble p = false
        ∧ (answerRumbleDefine q s).state
          = setRumble { s.rumble with patterns := s.rumble.patterns.setIfInBounds p steps } s := by
  simp only [answerRumbleDefine]
  split
  · exact .inl rfl
  · rename_i h
    split
    · exact .inl rfl
    · exact .inr ⟨_, _, by simpa using h, rfl⟩

/-- The rumble records with which an accepted RUMBLE_PLAY is placed. -/
def playing (s : State) : State := setRumble { restartTimer s.rumble with arrival := s.rumble.arrival + 1 } s

theorem answerRumblePlay_cases (q : Request) (s : State) :
    (answerRumblePlay q s).state = s
      ∨ (playRefusal q s = none ∧ (answerRumblePlay q s).state
        = (place (newEntry s.rumble (q.byte 0) (q.byte 1) (q.byte 2)) (playing s)).1) := by
  unfold answerRumblePlay
  split
  · exact .inl rfl
  · exact .inr ⟨by assumption, rfl⟩

theorem answerRumbleCancel_cases (q : Request) (s : State) :
    (answerRumbleCancel q s).state = s
      ∨ (answerRumbleCancel q s).state = setRumble (startNext s.rumble) s
      ∨ (answerRumbleCancel q s).state = setRumble { s.rumble with current := none, waiting := [] } s := by
  simp only [answerRumbleCancel]
  split
  · split
    · exact .inr (.inl rfl)
    · exact .inl rfl
  · split
    · exact .inr (.inr rfl)
    · exact .inl rfl

theorem answerRumbleFollow_cases (q : Request) (s : State) :
    (answerRumbleFollow q s).state = s
      ∨ ∃ f, (answerRumbleFollow q s).state = setRumble { restartTimer s.rumble with follow := f } s := by
  unfold answerRumbleFollow
  split
  · exact .inl rfl
  · exact .inr ⟨_, rfl⟩
  · split
    · exact .inl rfl
    · split
      · exact .inl rfl
      · exact .inr ⟨_, rfl⟩

@[simp] theorem answerRumbleHold_state (q : Request) (s : State) :
    (answerRumbleHold q s).state = setRumble (restartTimer { s.rumble with hold := min 255 (q.word 0) }) s := rfl

@[simp] theorem answerCellCheck_state (s : State) :
    (answerCellCheck s).state = { s with supply := { s.supply with measuring := true, checkWaiting := true } } := rfl

/-! ## The owners, by kind -/

/-- The owner's answer to a request of kind `k`. -/
def ownerOf (k : Kind) (q : Request) : Option Arm → State → Answer :=
  match k with
  | .ident => fun _ => answerIdent
  | .noticeFetch => fun _ => answerNoticeFetch
  | .noticeMask => fun _ => answerNoticeMask q
  | .titleReset => fun _ => .thenReset
  | .regionInfo => fun _ => answerRegionInfo q
  | .regionPresent => fun _ => answerRegionPresent q
  | .saveRead => fun _ => answerSaveRead q
  | .saveBegin => fun _ => answerSaveBegin q
  | .saveWrite => fun _ => answerSaveWrite q
  | .saveCommit => fun _ => answerSaveCommit q
  | .saveAbandon => fun _ => answerSaveAbandon q
  | .saveStatus => fun _ => answerSaveStatus
  | .lockSet => fun _ => answerLockSet q
  | .lockClear => fun _ => answerLockClear q
  | .lockOpen => fun _ => answerLockOpen q
  | .eraseArm => fun _ => answerEraseArm q
  | .erase => fun arm => answerErase q arm
  | .masterSet => fun _ => answerMasterSet q
  | .lockFreeze => fun _ => answerLockFreeze
  | .clockRead => fun _ => answerClockRead
  | .dateToDay => fun _ => answerDateToDay q
  | .dayToDate => fun _ => answerDayToDate q
  | .clockSet => fun _ => answerClockSet q
  | .clockTrim => fun _ => answerClockTrim q
  | .daysConfig => fun _ => answerDaysConfig q
  | .counterArm => fun _ => answerCounterArm q
  | .counterDisarm => fun _ => answerCounterDisarm q
  | .counterAck => fun _ => answerCounterAck q
  | .counterRead => fun _ => answerCounterRead q
  | .dayTest => fun _ => answerDayTest q
  | .voiceSetup => fun _ => answerVoiceSetup q
  | .voicePitch => fun _ => answerVoicePitch q
  | .voiceLevel => fun _ => answerVoiceLevel q
  | .voiceRamp => fun _ => answerVoiceRamp q
  | .voiceKeyOn => fun _ => answerVoiceKeyOn q
  | .voiceKeyOff => fun _ => answerVoiceKeyOff q
  | .voiceStop => fun _ => answerVoiceStop q
  | .voiceRead => fun _ => answerVoiceRead q
  | .mixConfig => fun _ => answerMixConfig q
  | .mixFlags => fun _ => answerMixFlags q
  | .rumbleDefine => fun _ => answerRumbleDefine q
  | .rumblePlay => fun _ => answerRumblePlay q
  | .rumbleCancel => fun _ => answerRumbleCancel q
  | .rumbleFollow => fun _ => answerRumbleFollow q
  | .rumbleHold => fun _ => answerRumbleHold q
  | .rumbleRead => fun _ => answerRumbleRead
  | .supplyRead => fun _ => answerSupplyRead
  | .cellCheck => fun _ => answerCellCheck

/-- Every request goes the way of `serve` to its owner. -/
theorem exec_requestOf (k : Kind) (q : Request) (s : State) :
    exec (requestOf k q) s = .next (serve k q (ownerOf k q) s) := by
  cases k <;> rfl

/-- A command that is a request is `requestOf` its kind. -/
theorem request_eq_some {i : Instr} {k : Kind} {q : Request} (h : i.request = some (k, q)) : i = requestOf k q := by
  cases i <;> simp only [Instr.request, Option.some.injEq, Prod.mk.injEq, reduceCtorEq] at h <;>
    (obtain ⟨rfl, rfl⟩ := h; rfl)

/-- A property that the latch and the selection do not touch is kept by every command, if the end of a selection, every
owner's answer and every other command keep it. -/
theorem exec_induction {P : State → Prop}
    (hlink : ∀ s l, l.queue = s.link.queue → l.mask = s.link.mask → P s → P { s with link := l })
    (hend : ∀ s, P s → P (endSelection s)) (hown : ∀ k q arm s, P s → P (ownerOf k q arm s).state)
    (hevent : ∀ c s t, c.request = none → P s → exec c s = .next t → P t) :
    ∀ c s t, P s → exec c s = .next t → P t := by
  intro c s t hs h
  cases hc : c.request with
  | none => exact hevent c s t hc hs h
  | some kq =>
    obtain ⟨k, q⟩ := kq
    rw [request_eq_some hc, exec_requestOf] at h
    cases h
    exact serve_induction hlink (hend s) (hown k q) hs

/-- A property that the queue of commands does not touch is kept by every step, if every command keeps it. -/
theorem step_induction {P : State → Prop} (hpend : ∀ s p, P s → P { s with pending := p })
    (hexec : ∀ c s t, P s → exec c s = .next t → P t) : ∀ s t, P s → step s = .next t → P t := by
  intro s t hs h
  unfold step at h
  split at h
  · cases h; exact hs
  · exact hexec _ _ _ (hpend s _ hs) h

end Sys2Proof.Machine
end

