-- ==== Sys2Proof/Laws/Memory.lean ====
section
/-! SUPPORT. The laws of memory: read after write, writes elsewhere, and the canonical form that every write keeps. -/

namespace Sys2Proof.Machine

/-- The canonical form from a higher address is one from a lower. -/
theorem canonicalFrom_mono {low low' : Nat} (m : List Host.Cell) (h : low ≤ low')
    (hm : canonicalFrom low' m = true) : canonicalFrom low m = true := by
  cases m with
  | nil => rfl
  | cons c m =>
    simp only [canonicalFrom, Bool.and_eq_true, decide_eq_true_eq] at hm ⊢
    exact ⟨⟨by omega, hm.1.2⟩, hm.2⟩

/-- A write at or above `low` keeps the canonical form from `low`. -/
theorem canonicalFrom_writeByte (m : List Host.Cell) :
    ∀ (low a : Nat) (v : Byte), low ≤ a → canonicalFrom low m = true → canonicalFrom low (writeByte m a v) = true := by
  induction m with
  | nil =>
    intro low a v h _
    by_cases hv : v = unlistedByte <;> simp [writeByte, canonicalFrom, hv, h]
  | cons c m ih =>
    obtain ⟨k, b⟩ := c
    intro low a v h hm
    simp only [canonicalFrom, Bool.and_eq_true, decide_eq_true_eq, bne_iff_ne, ne_eq] at hm
    obtain ⟨⟨hk, hb⟩, hrest⟩ := hm
    by_cases h1 : a < k
    · by_cases hv : v = unlistedByte
      · simp [writeByte, h1, hv, canonicalFrom, hk, hb, hrest]
      · simp [writeByte, h1, hv, canonicalFrom, h, hb, hrest]
    · by_cases h2 : a = k
      · by_cases hv : v = unlistedByte
        · simp only [writeByte, if_false, h2, if_true, hv, lt_irrefl]
          exact canonicalFrom_mono m (by omega) hrest
        · simp [writeByte, h2, hv, canonicalFrom, hk, hrest]
      · simp [writeByte, h1, h2, canonicalFrom, hk, hb]
        exact ih (k + 1) a v (by omega) hrest

/-- Every write of a byte keeps the canonical form. -/
theorem Memory.wf_writeByte (m : List Host.Cell) (a : Nat) (v : Byte) (h : Memory.wf m = true) :
    Memory.wf (writeByte m a v) = true :=
  canonicalFrom_writeByte m 0 a v (Nat.zero_le a) h

/-- Every write of a block keeps the canonical form. -/
theorem Memory.wf_writeBytes (bs : List Byte) :
    ∀ (m : List Host.Cell) (a : Nat), Memory.wf m = true → Memory.wf (writeBytes m a bs) = true := by
  induction bs with
  | nil => intro m a h; exact h
  | cons b bs ih => intro m a h; exact ih _ _ (Memory.wf_writeByte m a b h)

/-- Below a canonical memory's first address nothing is listed. -/
theorem readByte_below (m : List Host.Cell) :
    ∀ (low a : Nat), canonicalFrom low m = true → a < low → readByte m a = unlistedByte := by
  induction m with
  | nil => intros; rfl
  | cons c m ih =>
    obtain ⟨k, b⟩ := c
    intro low a hm ha
    simp only [canonicalFrom, Bool.and_eq_true, decide_eq_true_eq] at hm
    have hne : k ≠ a := by omega
    simp only [readByte, if_neg hne]
    exact ih (k + 1) a hm.2 (by omega)

/-- A byte just written is read back. -/
theorem readByte_writeByte_same (m : List Host.Cell) :
    ∀ (low a : Nat) (v : Byte), canonicalFrom low m = true → readByte (writeByte m a v) a = v := by
  induction m with
  | nil =>
    intro low a v _
    by_cases hv : v = unlistedByte <;> simp [writeByte, readByte, hv]
  | cons c m ih =>
    obtain ⟨k, b⟩ := c
    intro low a v hm
    have hm' := hm
    simp only [canonicalFrom, Bool.and_eq_true, decide_eq_true_eq] at hm
    by_cases h1 : a < k
    · by_cases hv : v = unlistedByte
      · simp only [writeByte, h1, if_true, hv, readByte, if_neg (show k ≠ a by omega)]
        exact readByte_below m (k + 1) a hm.2 (by omega)
      · simp [writeByte, h1, hv, readByte]
    · by_cases h2 : a = k
      · by_cases hv : v = unlistedByte
        · simp only [writeByte, h2, lt_irrefl, if_false, if_true, hv]
          exact readByte_below m (k + 1) k hm.2 (by omega)
        · simp [writeByte, h2, hv, readByte]
      · simp only [writeByte, h1, h2, if_false, readByte, if_neg (show k ≠ a by omega)]
        exact ih (k + 1) a v hm.2

/-- A write leaves every other byte alone. -/
theorem readByte_writeByte_other (m : List Host.Cell) (a c : Nat) (v : Byte) (h : c ≠ a) :
    readByte (writeByte m a v) c = readByte m c := by
  induction m with
  | nil => by_cases hv : v = unlistedByte <;> simp [writeByte, readByte, hv, Ne.symm h]
  | cons x m ih =>
    obtain ⟨k, b⟩ := x
    by_cases h1 : a < k
    · by_cases hv : v = unlistedByte <;> simp [writeByte, readByte, h1, hv, Ne.symm h]
    · by_cases h2 : a = k
      · subst h2
        by_cases hv : v = unlistedByte <;> simp [writeByte, readByte, hv, Ne.symm h]
      · simp only [writeByte, h1, h2, if_false, readByte]
        by_cases hk : k = c <;> simp [hk, ih]

/-- A block write leaves every byte outside it alone. -/
theorem readByte_writeBytes_outside (bs : List Byte) :
    ∀ (m : List Host.Cell) (a c : Nat), (c < a ∨ a + bs.length ≤ c) →
      readByte (writeBytes m a bs) c = readByte m c := by
  induction bs with
  | nil => intros; rfl
  | cons b bs ih =>
    intro m a c h
    simp only [List.length_cons] at h
    rw [writeBytes, ih _ _ _ (by omega), readByte_writeByte_other _ _ _ _ (by omega)]

/-- A block just written is read back, byte by byte. -/
theorem readByte_writeBytes_inside (bs : List Byte) :
    ∀ (m : List Host.Cell) (a i : Nat), Memory.wf m = true → i < bs.length →
      readByte (writeBytes m a bs) (a + i) = bs.getD i 0 := by
  induction bs with
  | nil => intro m a i _ h; simp at h
  | cons b bs ih =>
    intro m a i hm h
    rw [writeBytes]
    cases i with
    | zero =>
      rw [readByte_writeBytes_outside _ _ _ _ (by omega)]
      simpa using readByte_writeByte_same m 0 a b hm
    | succ i =>
      have := ih (writeByte m a b) (a + 1) i (Memory.wf_writeByte m a b hm) (by simpa using h)
      simpa [Nat.add_assoc, Nat.add_comm 1 i] using this

/-- The number of bytes read. -/
@[simp] theorem readBytes_length (m : List Host.Cell) : ∀ (n a : Nat), (readBytes m a n).length = n := by
  intro n
  induction n with
  | zero => intro a; rfl
  | succ n ih => intro a; simp [readBytes, ih]

/-- A burst of `n` bytes brings `n` bytes, whatever the completion reports. -/
@[simp] theorem burstBytes_length (m : List Host.Cell) (a n : Nat) (bus : List Byte) :
    (burstBytes m a n bus).length = n := by
  simp [burstBytes]
  omega

/-- Without bytes reported, a burst brings what memory holds. -/
@[simp] theorem burstBytes_nil (m : List Host.Cell) (a n : Nat) : burstBytes m a n [] = readBytes m a n := by
  simp [burstBytes]

end Sys2Proof.Machine
end

