-- ==== Sys2Proof/Laws/Operands.lean ====
section
/-! SUPPORT. The small laws of fields and replies: their lengths and values. -/

namespace Sys2Proof.Machine

@[simp] theorem leBytes_length (n v : Nat) : (leBytes n v).length = n := by
  induction n generalizing v with
  | zero => rfl
  | succ n ih => simp [leBytes, ih]

@[simp] theorem leInt_length (n : Nat) (v : Int) : (leInt n v).length = n := by simp [leInt]
@[simp] theorem absentField_length (n : Nat) : (absentField n).length = n := by simp [absentField]
@[simp] theorem absentSigned_length (n : Nat) : (absentSigned n).length = n := by simp [absentSigned]
@[simp] theorem optField_length (n : Nat) (v : Option Nat) : (optField n v).length = n := by cases v <;> simp [optField]
@[simp] theorem optSigned_length (n : Nat) (v : Option Int) : (optSigned n v).length = n := by
  cases v <;> simp [optSigned]

/-- A field's bytes read back as the number they hold, below the field's range. -/
theorem leNat_leBytes (n v : Nat) : leNat (leBytes n v) = v % 256 ^ n := by
  induction n generalizing v with
  | zero => simp [leBytes, leNat, Nat.mod_one]
  | succ n ih =>
    simp only [leBytes, leNat, ih, BitVec.toNat_ofNat, Nat.reducePow]
    rw [Nat.pow_succ, Nat.mul_comm (256 ^ n) 256, Nat.mod_mul]

/-- A number's bytes are below 256 to their count. -/
theorem leNat_lt (bs : List Byte) : leNat bs < 256 ^ bs.length := by
  induction bs with
  | nil => simp [leNat]
  | cons b bs ih =>
    have hb := b.isLt
    simp only [leNat, List.length_cons, Nat.pow_succ]
    omega

/-- A field of `n` bytes is below 256 to the `n`. -/
theorem field_lt (bs : List Byte) (off n : Nat) : field bs off n < 256 ^ n :=
  Nat.lt_of_lt_of_le (leNat_lt _) (Nat.pow_le_pow_right (by decide) (List.length_take_le _ _))

/-! ## Request fields of short payloads -/

@[simp] theorem byte_zero (tag level a : Byte) (bs : List Byte) :
    Request.byte ⟨tag, level, a :: bs⟩ 0 = a.toNat := by simp [Request.byte, field, leNat]
@[simp] theorem byte_one (tag level a b : Byte) (bs : List Byte) :
    Request.byte ⟨tag, level, a :: b :: bs⟩ 1 = b.toNat := by simp [Request.byte, field, leNat]
@[simp] theorem byte_two (tag level a b c : Byte) (bs : List Byte) :
    Request.byte ⟨tag, level, a :: b :: c :: bs⟩ 2 = c.toNat := by simp [Request.byte, field, leNat]
@[simp] theorem byte_three (tag level a b c d : Byte) (bs : List Byte) :
    Request.byte ⟨tag, level, a :: b :: c :: d :: bs⟩ 3 = d.toNat := by simp [Request.byte, field, leNat]
@[simp] theorem word_zero (tag level a b : Byte) (bs : List Byte) :
    Request.word ⟨tag, level, a :: b :: bs⟩ 0 = a.toNat + 256 * b.toNat := by simp [Request.word, field, leNat]
@[simp] theorem word_one (tag level a b c : Byte) (bs : List Byte) :
    Request.word ⟨tag, level, a :: b :: c :: bs⟩ 1 = b.toNat + 256 * c.toNat := by
  simp [Request.word, field, leNat]
@[simp] theorem word_three (tag level a b c d e : Byte) (bs : List Byte) :
    Request.word ⟨tag, level, a :: b :: c :: d :: e :: bs⟩ 3 = d.toNat + 256 * e.toNat := by
  simp [Request.word, field, leNat]
@[simp] theorem rank_eq (tag level : Byte) (bs : List Byte) : Request.rank ⟨tag, level, bs⟩ = level.toNat := rfl

/-! ## Reply payloads -/

@[simp] theorem progressBytes_length (s : State) : (progressBytes s).length = 3 := by simp [progressBytes]
@[simp] theorem cellBytes_length (s : State) : (cellBytes s).length = 3 := by simp [cellBytes]
@[simp] theorem windowBytes_length (w : Option (Nat × Nat)) : (windowBytes w).length = 8 := by
  cases w <;> simp [windowBytes]
@[simp] theorem counterReply_length (c : Counter) : (counterReply c).length = 6 := by simp [counterReply]
@[simp] theorem memoryField_length (s : State) (i : Nat) (en : Entry) : (memoryField s i en).length = 1 := by
  unfold memoryField
  split
  · simp
  · split
    · simp
    · split <;> simp
@[simp] theorem recordField_length (s : State) (i : Nat) : (recordField s i).length = 6 := by
  unfold recordField
  split <;> simp
@[simp] theorem outcomeBytes_length (r : Option OutcomeRecord) : (outcomeBytes r).length = 8 := by
  cases r <;> simp [outcomeBytes]
@[simp] theorem clockDateBytes_length (c : Clock) : (clockDateBytes c).length = 10 := by
  unfold clockDateBytes
  split <;> simp [dateBytes]
@[simp] theorem bufferBytes_length (s : State) (n : Nat) : (bufferBytes s n).length = 3 := by
  unfold bufferBytes
  simp only
  split <;> simp
@[simp] theorem currentBytes_length (x : Option PlayerEntry) : (currentBytes x).length = 6 := by
  cases x <;> simp [currentBytes]
@[simp] theorem waitingBytes_length (x : Option PlayerEntry) : (waitingBytes x).length = 3 := by
  cases x <;> simp [waitingBytes]
@[simp] theorem followBytes_length (x : Option (Nat × Nat)) : (followBytes x).length = 3 := by
  cases x <;> simp [followBytes]

@[simp] theorem rightField_length (en : Entry) : (rightField en).length = 1 := by simp [rightField]
@[simp] theorem identPayload_length (s : State) : (identPayload s).length = 17 := by simp [identPayload]
@[simp] theorem regionInfoPayload_length (s : State) (i : Nat) : (regionInfoPayload s i).length = 24 := by
  simp [regionInfoPayload]
@[simp] theorem saveStatusPayload_length (s : State) : (saveStatusPayload s).length = 22 := by simp [saveStatusPayload]
@[simp] theorem clockReadPayload_length (s : State) : (clockReadPayload s).length = 28 := by simp [clockReadPayload]
@[simp] theorem voiceReadPayload_length (s : State) (n : Nat) : (voiceReadPayload s n).length = 46 := by
  unfold voiceReadPayload
  generalize voiceAt s n = v
  simp only [List.length_append, leBytes_length, windowBytes_length, leInt_length, bufferBytes_length]
@[simp] theorem rumbleReadPayload_length (s : State) : (rumbleReadPayload s).length = 35 := by simp [rumbleReadPayload]
@[simp] theorem supplyReadPayload_length (s : State) : (supplyReadPayload s).length = 10 := by simp [supplyReadPayload]

end Sys2Proof.Machine
end

