-- ==== Sys2Proof/Laws/Settle.lean ====
section
/-! SUPPORT. What `notify`, a set of indices, a grant and `settle` do, said once. -/

namespace Sys2Proof.Machine

/-- R192: the whole effect of `notify` on the link's records. -/
theorem notify_link (n : Notice) (s : State) :
    (notify n s).link = { s.link with
      queue := if s.link.mask.getLsbD (noticeKind n - 1) then enqueue s.link.queue n else s.link.queue } := by
  unfold notify; split <;> rfl

/-- A set of indices looks at the indices below 8 alone. -/
theorem maskOf_congr {p q : Nat → Bool} (h : ∀ i, i < 8 → p i = q i) : maskOf p = maskOf q := by
  unfold maskOf
  rw [List.map_congr_left (fun n hn => by rw [h n (List.mem_range.mp hn)])]

/-- R199: the set of the bits of a byte is that byte. -/
theorem maskOf_getLsbD : ∀ b : BitVec 8, maskOf b.getLsbD = b := by decide +kernel

/-- R199: bit `i` of a set of indices says whether `i` is in it. -/
theorem getLsbD_maskOf (p : Nat → Bool) (i : Nat) (hi : i < 8) : (maskOf p).getLsbD i = p i := by
  have hb : ∀ j, j < 8 → (BitVec.ofFnLE (fun k : Fin 8 => p k)).getLsbD j = p j := fun j hj => by
    rw [BitVec.getLsbD_ofFnLE]; simp [hj]
  rw [← maskOf_congr hb, maskOf_getLsbD, hb i hi]

/-- R199: the empty set is 0. -/
theorem maskOf_eq_zero (p : Nat → Bool) : maskOf p = 0 ↔ ∀ i, i < 8 → p i = false := by
  constructor
  · intro h i hi; rw [← getLsbD_maskOf p i hi, h]; simp
  · intro h; apply BitVec.eq_of_getLsbD_eq; intro i hi; rw [getLsbD_maskOf p i hi, h i hi]; simp

/-- R115: what the fill does to the working copy and its flags. -/
theorem fillClock_days (s : State) :
    (fillClock s).days = s.days ∨ (fillClock s).days = { s.days with dirty := false, rebuilt := false } := by
  unfold fillClock
  split
  · split
    · exact .inl rfl
    · right; simp
  · exact .inl rfl

/-- R115: what `settle` does to the working copy and its flags. -/
theorem settle_days (s : State) :
    (settle s).days = s.days ∨ (settle s).days = { s.days with dirty := false, rebuilt := false } := by
  simp only [settle, grant_days, recompute_days, postRefills_days, takeHead_days]; exact fillClock_days s

@[simp] theorem settle_days_highDay (s : State) : (settle s).days.highDay = s.days.highDay := by
  rcases settle_days s with e | e <;> rw [e]
@[simp] theorem settle_days_counters (s : State) : (settle s).days.counters = s.days.counters := by
  rcases settle_days s with e | e <;> rw [e]
@[simp] theorem settle_days_behind (s : State) : (settle s).days.behind = s.days.behind := by
  rcases settle_days s with e | e <;> rw [e]
@[simp] theorem settle_days_turnSecond (s : State) : (settle s).days.turnSecond = s.days.turnSecond := by
  rcases settle_days s with e | e <;> rw [e]
@[simp] theorem settle_days_inService (s : State) : (settle s).days.inService = s.days.inService := by
  rcases settle_days s with e | e <;> rw [e]
@[simp] theorem settle_days_sticky (s : State) : (settle s).days.sticky = s.days.sticky := by
  rcases settle_days s with e | e <;> rw [e]

/-- R165: `settle` recomputes the ceiling and the applied strength, and nothing else of the driver. -/
theorem settle_rumble (s : State) : (settle s).rumble = { s.rumble with ceiling := ceilingOf (settle s), applied := appliedFrom s.rumble.lastDemand (ceilingOf (settle s)) s.rumble.limiter } := by
  have h : ceilingOf (settle s) = ceilingOf (postRefills (takeHead (fillClock s))) := by
    simp [settle, ceilingOf, reservedUnits, outputReservation, slotUp, inWarn, copyReported, recompute]; rfl
  rw [h]
  simp [settle, recompute]

/-- R136: a grant to the refill of voice `k` trims that voice's run and leaves every other voice. -/
theorem grantRefill_voiceAt (k : Nat) (s : State) (m : Nat) : voiceAt (grantRefill k s) m = if m = k ∧ k < 8 then trimRun (voiceAt s k) else voiceAt s m := by
  simp only [grantRefill, postRefills, voiceAt]
  by_cases hk : k < 8
  · by_cases hm : m = k
    · subst hm; simp [hk]
    · simp [hm, show ¬ k = m by omega]
  · simp [hk, Vector.getElem?_setIfInBounds]
    by_cases hm : k = m
    · subst hm; simp [hk]
    · simp [hm]

/-- R22: a refill is granted only where one waits. -/
theorem chooseGrant_refill (s : State) (k : Nat) (h : chooseGrant s = some (.refill k)) : k ∈ s.port.refills := by
  unfold chooseGrant at h
  split at h
  · cases hc : s.port.commit <;> simp [hc] at h
  · split at h
    · cases hc : s.port.commit <;> simp [hc] at h
    · have hl : ∀ ok, ∀ n, lowestUrgent s ok = some n → n ∈ s.port.refills := by
        intro ok n hn
        have := List.find?_some hn
        simp at this; exact this.1.1
      have ho : ∀ n, nextOrdinary s = some n → n ∈ s.port.refills := by
        intro n hn
        have := List.find?_some hn
        simp at this; exact this.1
      simp only [rankedGrants, List.findSome?_cons, id] at h
      repeat' split at h
      all_goals simp_all
      all_goals aesop

/-- What a grant does to voice `m`: nothing, or the trim of R136 when its refill waited. -/
theorem grant_voiceAt (s : State) (m : Nat) : voiceAt (grant s) m = voiceAt s m ∨ (m ∈ s.port.refills ∧ m < 8 ∧ voiceAt (grant s) m = trimRun (voiceAt s m)) := by
  unfold grant
  split
  · exact .inl rfl
  · split
    · exact .inl rfl
    · rename_i g hg
      cases g with
      | refill k =>
        simp only [grantTo, grantRefill_voiceAt]
        split
        · rename_i hc; obtain ⟨rfl, hk⟩ := hc
          exact .inr ⟨chooseGrant_refill s _ hg, hk, rfl⟩
        · exact .inl rfl
      | _ => exact .inl rfl

/-- What `settle` does to voice `m`: nothing, or the trim of R136 when it meets R135's conditions. -/
theorem settle_voiceAt (s : State) (m : Nat) :
    voiceAt (settle s) m = voiceAt s m ∨ (m < 8 ∧ wantsRefill (voiceAt s m) = true ∧ inWarn s = false ∧ voiceAt (settle s) m = trimRun (voiceAt s m)) := by
  have hv : ∀ k, voiceAt (recompute (postRefills (takeHead (fillClock s)))) k = voiceAt s k := by intro k; simp [voiceAt]
  unfold settle
  rcases grant_voiceAt (recompute (postRefills (takeHead (fillClock s)))) m with h | ⟨h1, h2, h3⟩
  · left; rw [h, hv]
  · right
    rw [hv] at h3
    have hw : inWarn (takeHead (fillClock s)) = inWarn s := by simp [inWarn]
    simp only [recompute, postRefills, hw] at h1
    split at h1
    · cases h1
    · rename_i hn
      refine ⟨h2, ?_, by simpa using hn, h3⟩
      simp at h1
      have := h1.2
      simpa [voiceAt] using this

/-- R136: a trim touches the run and its offset alone. -/
theorem trimRun_eq (v : Voice) : trimRun v = { v with run := (trimRun v).run, runOffset := (trimRun v).runOffset } := by
  unfold trimRun; split <;> rfl
/-- `settle` changes nothing of a voice but its run and run offset. -/
theorem settle_voiceAt_frame (s : State) (m : Nat) : voiceAt (settle s) m = { voiceAt s m with run := (voiceAt (settle s) m).run, runOffset := (voiceAt (settle s) m).runOffset } := by
  rcases settle_voiceAt s m with h | ⟨_, _, _, h⟩
  · rw [h]
  · rw [h]; exact trimRun_eq _
/-- R135: `settle` leaves an IDLE voice as it is. -/
theorem settle_voiceAt_idle (s : State) (m : Nat) (h : (voiceAt s m).state = .idle) : voiceAt (settle s) m = voiceAt s m := by
  rcases settle_voiceAt s m with e | ⟨_, hw, _, _⟩
  · exact e
  · simp [wantsRefill, h] at hw

/-- The record of voice `m` after voice `n` was replaced. -/
theorem voiceAt_setVoice (n m : Nat) (v : Voice) (s : State) : voiceAt (setVoice n v s) m = if m = n ∧ n < 8 then v else voiceAt s m := by
  simp only [setVoice, voiceAt]
  by_cases hk : n < 8
  · by_cases hm : m = n
    · subst hm; simp [hk]
    · simp [hm, show ¬ n = m by omega]
  · simp [hk, Vector.getElem?_setIfInBounds]
    by_cases hm : n = m
    · subst hm; simp [hk]
    · simp [hm]

end Sys2Proof.Machine
end

