-- ==== Sys2Proof/Tests/Slice0.lean ====
section
/-! SUPPORT. The model's own tests: the well-formedness checks, the frame bytes, one step of each family on the
specification's worked examples, and for every statement with hypotheses a state and operands that meet them. -/

namespace Sys2Proof.Tests

open Sys2Proof.Machine

-- One test after another: each kernel evaluation would otherwise hold a thread and its stack at the same time.
set_option Elab.async false

/-! ## Helpers -/

/-- The state a command leaves. -/
def ran (c : Instr) (s : State) : State :=
  match exec c s with
  | .next t => t
  | _ => {}

/-- The status and payload of the reply that stands. -/
def replyOf (s : State) : Option (Status × List Byte) :=
  match s.link.selection with
  | .replying r _ => some (r.status, r.payload)
  | _ => none

/-- The answer to a request. -/
def answer (k : Kind) (q : Request) (s : State) : Option (Status × List Byte) := replyOf (ran (requestOf k q) s)

/-- The notices that wait, with their counts. -/
def noticesOf (s : State) : List (Nat × Notice) := s.link.queue.map (fun x => (x.count, x.notice))

/-- The accepted entries of the worked example of section 1.8, and its rejected entry 3. -/
def exampleEntries : Vector Entry 24 :=
  ((((((Vector.replicate 24 {}).setIfInBounds 0
    { standing := .accepted, kind := kindSample, level := 1, presentFlag := true, base := 0x10000, length := 0x60000
      present := true }).setIfInBounds 1
    { standing := .accepted, kind := kindSave, level := 1, write := true, presentFlag := true, length := 0x4000
      present := true, writeRight := true }).setIfInBounds 2
    { standing := .accepted, kind := kindDays, presentFlag := true, base := 0x4000, length := 0x40
      present := true }).setIfInBounds 3
    { standing := .rejected, reason := .overlap, kind := kindSave, level := 1, write := true, presentFlag := true
      base := 0x4000, length := 0x1000 }).setIfInBounds 4
    { standing := .accepted, kind := kindAlias, level := 2, write := true, presentFlag := true, base := 0x3000
      length := 0x1000, target := 1, present := true, writeRight := true }).setIfInBounds 5
    { standing := .accepted, kind := kindAlias, level := 2, presentFlag := true, base := 0x20000, length := 0x8000
      present := true }

/-- That cartridge, ready and NORMAL, with regions 1 and 2 VALID, the clock at day 9000, second 100, and the day block
in service. -/
def cart : State :=
  { supply := { state := .normal, phase := 8, retention := .intact, cell := .good, reading := 3000 }
    dir := { result := .loaded, count := 8, rejected := 3, revision := 3, romSize := 0x200000, sramSize := 0x8000
             entries := exampleEntries }
    save := { kept := { mark := true, records := ((Vector.replicate 24 {}).setIfInBounds 1
      { state := .valid, generation := 41 }).setIfInBounds 2 { state := .valid } } }
    clock := { state := .valid, second := 100, day := 9000 }
    days := { inService := true, highDay := some 9000 }
    rumble := { ceiling := 255 } }

/-- A cartridge without a DAYS region. -/
def plain : State :=
  { cart with dir := { cart.dir with entries := exampleEntries.setIfInBounds 2 {} }, days := {} }

/-- Region 1's record in place of the cartridge's. -/
def withRecord (r : Record) (s : State) : State := setRecord 1 r s

/-- The title slot in place of the cartridge's. -/
def withTitle (sl : Slot) (s : State) : State :=
  { s with save := { s.save with kept := { s.save.kept with title := sl } } }

/-- The supply state in place of the cartridge's. -/
def withSupply (st : SupplyState) (s : State) : State := { s with supply := { s.supply with state := st } }

/-- The burst in progress in place of the cartridge's. -/
def withBurst (b : Burst) (s : State) : State := { s with port := { s.port with burst := some b } }

/-- The player and the rest of the driver in place of the cartridge's. -/
def withRumble (r : Rumble) (s : State) : State := { s with rumble := r }

/-- The title slot of a transaction on region 1 with the given staged blocks. -/
def collectingOn (blocks : List StagedBlock) : Slot :=
  { state := .collecting, target := 1, length := 0x4000, selector := 1, level := 1, tag := 0x20#8, blocks := blocks }

/-- A block with every position staged as 07h. -/
def fullBlock : StagedBlock := ⟨0, List.replicate 64 (some 0x07#8)⟩

/-! ## Well-formedness: each check refuses an ill-formed command -/

theorem test_wf_payload : (Instr.ident ⟨0, 0, List.replicate 65 0⟩).wf = false := by decide
theorem test_wf_payload_full : (Instr.rumbleDefine ⟨0, 0, List.replicate 64 0⟩).wf = true := by decide
theorem test_wf_every_request : allKinds.all (fun k => !(requestOf k ⟨0, 0, List.replicate 65 0⟩).wf) = true := by
  decide +kernel
theorem test_wf_unknown_kind : (Instr.unknownKind 0x01#8 ⟨0, 0, []⟩).wf = false := by decide
theorem test_wf_good_frame : (Instr.frameError 0x01#8 0 0 0 [] 0x16#8).wf = false := by decide +kernel
theorem test_wf_frame_length : (Instr.frameError 0x01#8 0 0 2 [] 0x17#8).wf = false := by decide +kernel
theorem test_wf_frame_end : (Instr.frameError 0x01#8 0 0 65 [0] 0#8).wf = false := by decide +kernel
theorem test_wf_first_byte : (Instr.selectionWithoutFrame 0xC3#8).wf = false := by decide
theorem test_wf_warn_level : (Instr.warnEntry 2800).wf = false := by decide
theorem test_wf_off_level : (Instr.supplyOff 2500).wf = false := by decide
theorem test_wf_bus : [Instr.directoryLoadBurstCompletion (List.replicate 17 0), .scanStepCompletion (List.replicate 65 0),
    .refillCompletion (List.replicate 9 0), .linkReadCompletion (List.replicate 61 0),
    .commitStepCompletion (List.replicate 65 0)].all (fun i => !i.wf) = true := by decide

/-! ## Frames (section 12.4) -/

theorem test_ident_frame :
    decodeSelection [0xC3#8, 0x01#8, 0x00#8, 0x00#8, 0x00#8, 0x16#8] = some (.ident ⟨0, 0, []⟩) := by decide +kernel
theorem test_frame_error_frame :
    decodeSelection [0xC3#8, 0x01#8, 0x00#8, 0x00#8, 0x00#8, 0x17#8] = some (.frameError 1 0 0 0 [] 0x17#8) := by
  decide +kernel
theorem test_frame_cut_short : decodeSelection [0xC3#8, 0x01#8, 0x00#8, 0x00#8, 0x00#8] = none := by decide +kernel
theorem test_long_frame_ends_at_its_length :
    decodeSelection [0xC3#8, 0x12#8, 0x05#8, 0x01#8, 0x41#8, 0xAA#8] = some (.frameError 0x12#8 5 1 0x41#8 [] 0#8) := by
  decide +kernel
theorem test_reply_frame : replyFrame ⟨.ok, 0#8, []⟩ = [0x3C#8, 0x00#8, 0x00#8, 0x00#8, 0x00#8] := by decide +kernel
theorem test_no_table_word : decodeTableWord 8 1 = none := by decide


/-! ## The link interface (section 12.4, chapter 11) -/

/-- Section 1.8: "IDENT reports revision 3, ROM 2048 KiB and SRAM 32 KiB." -/
theorem test_ident : answer .ident ⟨0, 0, []⟩ cart = some (.ok,
    [0x44#8, 0xFD#8, 0x01#8, 1#8, 8#8, 3#8, 3#8, 0x00#8, 0x08#8, 0x20#8, 0x00#8, 8#8, 1#8, 0#8, 1#8, 0xB8#8, 0x0B#8]) := by
  decide +kernel

/-- Section 12.4: the broken IDENT is answered FRAME_ERROR, with an empty payload, and empties the latch. -/
theorem test_frame_error :
    (let t := ran (.frameError 1 0 0 0 [] 0x17#8) { cart with link := { latch := some ⟨1, 1⟩ } }
     (replyOf t, t.link.latch)) = (some (.frameError, []), none) := by decide +kernel

/-- R190 step 2: an undefined kind, before any check of its length or level. -/
theorem test_unknown_kind :
    replyOf (ran (.unknownKind 0x05#8 ⟨9, 7, [1, 2]⟩) cart) = some (.unknownKind, []) := by decide +kernel

/-- R186: without a frame the latch stays, and nothing is answered. -/
theorem test_selection_without_frame :
    (let t := ran (.selectionWithoutFrame 0x00#8) { cart with link := { latch := some ⟨1, 1⟩ } }
     (replyOf t, t.link.latch)) = (none, some ⟨1, 1⟩) := by decide +kernel

/-- Section 12.4's reply on LDO, after two bytes of filler: 00h while the reply is awaited; the frame; 00h after it. -/
theorem test_ldo :
    ((List.range 9).map (ldo (ran (.unknownKind 0x05#8 ⟨9, 0, []⟩) cart) 2),
      ldo { cart with link := { selection := .awaiting 9 } } 2 7)
      = ([0#8, 0#8, 0x3C#8, 0x11#8, 9#8, 0#8, crc8 [0x11#8, 9#8, 0#8], 0#8, 0#8].map some, some 0#8) := by decide +kernel

/-- Section 11.6: a second VOICE_END folds into the first one's place, with both voices and the newer reason. -/
theorem test_notices_fold :
    noticesOf (notify (.voiceEnd 0x20#8 .released)
      { cart with link := { queue := [⟨1, .voiceEnd 0x08#8 .ended⟩, ⟨1, .supplyChange .low⟩] } })
      = [(2, .voiceEnd 0x28#8 .released), (1, .supplyChange .low)] := by decide +kernel

/-- Section 11.6: NOTICE_FETCH reports the oldest entry and removes it: kind 9, count 2, set {3, 5}, RELEASED. -/
theorem test_notice_fetch :
    (let t := ran (.noticeFetch ⟨0, 2, []⟩)
      { cart with link := { queue := [⟨2, .voiceEnd 0x28#8 .released⟩, ⟨1, .supplyChange .low⟩] } }
     (replyOf t, noticesOf t, latn t))
      = (some (.ok, [9#8, 2#8, 0x28#8, 1#8]), [(1, .supplyChange .low)], true) := by decide +kernel

/-- Section 11.6: all kinds but VOICE_END; the reply carries the mask before, all ten. -/
theorem test_notice_mask :
    (let t := ran (.noticeMask ⟨0, 2, [0xFF#8, 0x02#8]⟩) cart
     (replyOf t, noticesOf (notify (.voiceEnd 1#8 .ended) t))) = (some (.ok, [0xFF#8, 0x03#8]), []) := by decide +kernel

/-- Section 11.6: "TITLE_RESET; reply OK, then the reset": the queue empties only when the reply has been sent. -/
theorem test_title_reset :
    (let t := ran (.titleReset ⟨0, 1, []⟩) { cart with link := { queue := [⟨1, .supplyChange .low⟩] } }
     (replyOf t, (noticesOf t).length, noticesOf (ran .titleResetTaken t))) = (some (.ok, []), 1, []) := by
  decide +kernel

/-- R189: the reply is lost, the effect stands. -/
theorem test_selection_end :
    (let t := ran .selectionEnd (ran (.masterSet ⟨0, 0, List.replicate 8 1⟩) cart)
     (replyOf t, t.save.kept.master)) = (none, some (List.replicate 8 1)) := by decide +kernel

/-- R198: an assertion of SRST from phase 5 on is a title reset; a frame is not received until its release. -/
theorem test_reset_line :
    (let t := ran .srstAssertion { cart with mixer := { master := 7 } }
     (t.mixer.master, answer .ident ⟨0, 0, []⟩ t, (answer .ident ⟨0, 0, []⟩ (ran .srstRelease t)).isSome))
      = (256, none, true) := by decide +kernel

/-! ## The region directory (section 1.8) -/

/-- REGION_INFO of selector 3: REJECTED, OVERLAP, SAVE, base 4000h, length 1000h, write right none, not present, no
record. -/
theorem test_region_info_rejected : answer .regionInfo ⟨0, 2, [3#8]⟩ cart = some (.ok,
    [3#8, 2#8, 7#8, 2#8, 1#8, 3#8, 0xFF#8, 0#8, 1#8, 0x00#8, 0x40#8, 0#8, 0#8, 0x00#8, 0x10#8, 0#8, 0#8,
     0xFF#8, 0xFF#8, 0xFF#8, 0xFF#8, 0xFF#8, 0xFF#8, 0xFF#8]) := by decide +kernel

/-- REGION_PRESENT of the DAYS region is WRONG_KIND; of region 1 it reports the old flag and clears it. -/
theorem test_region_present :
    (answer .regionPresent ⟨0, 0, [2#8, 0#8]⟩ cart, answer .regionPresent ⟨0, 0, [1#8, 0#8]⟩ cart,
      (entryAt (ran (.regionPresent ⟨0, 0, [1#8, 0#8]⟩) cart) 1).present)
      = (some (.wrongKind, []), some (.ok, [1#8]), false) := by decide +kernel

/-- The burst of the directory's header, on a part in phase 3: the example's sizes and count. -/
theorem test_directory_header :
    (let h := [0x43#8, 0x52#8, 0x54#8, 0x44#8, 8#8, 3#8, 5#8, 1#8, 0#8, 0#8, 0#8, 0#8, 0#8, 0#8, 0#8]
     let t := ran (.directoryLoadBurstCompletion (h ++ [crc8 h]))
      { supply := { phase := 3 }, dir := { loading := some .header }, port := { burst := some (.directory 0) } }
     (t.dir.count, t.dir.revision, t.dir.romSize, t.dir.sramSize, t.port.burst))
      = (8, 3, 2097152, 32768, some (.directory 16)) := by decide +kernel

/-- The burst of the last entry, 7: level 3 is BAD_LEVEL; the aliases are checked, and the load is LOADED, 3 rejected;
with nothing to roll forward phase 5 is reached. -/
theorem test_directory_last_entry :
    (let t := ran (.directoryLoadBurstCompletion [2#8, 3#8, 3#8, 0#8, 0#8, 0x50#8, 0#8, 0#8, 0#8, 0x20#8, 0#8, 0#8])
      { cart with
        supply := { phase := 3 }
        dir := { cart.dir with
          result := .notYet, rejected := 0, loading := some (.entry 7)
          entries := (exampleEntries.setIfInBounds 6 (rejectEntry .secondDays { kind := kindDays })).setIfInBounds 4
            { kind := kindAlias, level := 2, write := true, presentFlag := true, base := 0x3000, length := 0x1000
              target := 1 } }
        port := { burst := some (.directory 128) } }
     ((entryAt t 7).reason, t.dir.result, t.dir.rejected, (entryAt t 4).standing, (entryAt t 4).writeRight,
      t.supply.phase)) = (.badLevel, .loaded, 3, .accepted, true, 5) := by decide +kernel

/-- Entry 3: its first byte lies in the DAYS window of entry 2. -/
theorem test_directory_overlap :
    (checkEntry cart 3 (loadedEntry [2#8, 1#8, 3#8, 0#8, 0#8, 0x40#8, 0#8, 0#8, 0#8, 0x10#8, 0#8, 0#8])).reason
      = .overlap := by decide +kernel

/-! ## The arbiter (section 2.5) -/

/-- A PCM16 voice with `n` bytes ahead. -/
def pcmVoice (n : Nat) : Voice :=
  { state := .playing, format := .pcm16, window := some (0x10000, 0x60000), endPos := 1000
    run := (List.range n).map (fun k => (0x10000 + k, 0#8)) }

/-- The port of section 2.5: voices 0 to 3 urgent (1 byte ahead) or ordinary (4), voice 5 ordinary, a commit step. -/
def heavy (urgent : List Nat) (ordinary : List Nat) (p : Port) : State :=
  { cart with
    voices := ((Vector.range 8).map (fun n =>
      if urgent.contains n then pcmVoice 1 else if ordinary.contains n then pcmVoice 4 else {}))
    port := { p with refills := urgent ++ ordinary, commit := some ⟨.read, 0, []⟩, mark := 4 } }

/-- Grants 1, 4, 5 and 6 of the table: U0; U0 before L, as voice 0 is not yet passed; C, forced; U3. -/
theorem test_grants :
    (chooseGrant (heavy [0, 1, 2, 3] [5] {}),
     chooseGrant (heavy [0, 3] [1, 2, 5] { starvation := 3, linkRead := some ⟨0, 60, 1⟩ }),
     chooseGrant (heavy [3] [0, 1, 2, 5] { starvation := 4, linkRead := some ⟨0, 60, 1⟩, passed := [0] }),
     chooseGrant (heavy [3] [0, 1, 2, 5] { linkRead := some ⟨0, 60, 1⟩, passed := [0] }))
      = (some (.refill 0), some (.refill 0), some (.commit ⟨.read, 0, []⟩), some (.refill 3)) := by decide +kernel

/-! ## Saves (sections 3.8, 4.2, 4.9) -/

theorem test_save_begin :
    (let t := ran (.saveBegin ⟨0x20#8, 1, [1#8]⟩) cart
     (replyOf t, t.save.kept.title.state, t.save.kept.title.length, t.save.kept.title.tag))
      = (some (.ok, []), .collecting, 16384, 0x20#8) := by decide +kernel

/-- "SAVE_WRITE, offset 120, 56 bytes: OK, 2 blocks; 1: 56–63; 2: 0–47". -/
theorem test_save_write :
    (let t := ran (.saveWrite ⟨0x20#8, 1, [120#8, 0#8, 0#8, 0#8] ++ List.replicate 56 9#8⟩) (withTitle (collectingOn []) cart)
     (replyOf t, (List.range 200).map (fun y => (stagedAt t.save.kept.title.blocks y).isSome)))
      = (some (.ok, [2#8]), (List.range 200).map (fun y => decide (120 ≤ y ∧ y < 176))) := by decide +kernel

/-- Through the alias 4, whose window is region 1's bytes 3000h to 3FFFh, a write lands at that offset. -/
theorem test_save_write_alias :
    (let s := ran (.saveBegin ⟨0x20#8, 2, [4#8]⟩) cart
     let t := ran (.saveWrite ⟨0x20#8, 2, [0#8, 0#8, 0#8, 0#8, 9#8]⟩) s
     stagedAt t.save.kept.title.blocks 0x3000) = some 9#8 := by decide +kernel

/-- "SAVE_COMMIT, tag 21h: STARTED", then the engine takes the slot; its first read is posted and granted. -/
theorem test_save_commit :
    (let t := ran (.saveCommit ⟨0x21#8, 1, []⟩) (withTitle (collectingOn [fullBlock]) cart)
     (replyOf t, t.save.kept.title.state, t.save.kept.title.tag, t.port.burst))
      = (some (.started, []), .copying, 0x21#8, some (.commit ⟨.read, 0, List.replicate 64 0#8⟩)) := by decide +kernel

theorem test_save_abandon :
    (let t := ran (.saveAbandon ⟨0x30#8, 1, []⟩) (withTitle (collectingOn [fullBlock]) cart)
     (replyOf t, t.save.kept.title.state, t.save.kept.outcome))
      = (some (.ok, []), .free, some ⟨1, 0x30#8, .commit, .discarded, none⟩) := by decide +kernel

/-- A read of two bytes of region 1 through alias 4 reaches SRAM 3001h. -/
theorem test_save_read :
    (let t := ran (.saveRead ⟨5#8, 2, [4#8, 1#8, 0#8, 0#8, 0#8, 2#8]⟩) cart
     (replyOf t, t.port.burst)) = (none, some (.linkRead ⟨0x3001, 2, 1⟩ false)) := by decide +kernel

theorem test_link_read_completion :
    replyOf (ran (.linkReadCompletion [7#8]) (withBurst (.linkRead ⟨0x3001, 2, 1⟩ false)
      { cart with link := { selection := .awaiting 5#8 }, sram := [(0x3001, 1#8), (0x3002, 2#8)] }))
      = some (.ok, [7#8, 2#8]) := by decide +kernel

/-- Section 4.2: check 1001h, word 1 changed from 9000h to 1234h: running check FFFFh, then 9234h. -/
theorem test_running_check :
    (let rest := List.replicate 60 0x00#8
     let old := [0x00#8, 0x80#8, 0x00#8, 0x90#8] ++ rest
     let new := [0x00#8, 0x80#8, 0x34#8, 0x12#8] ++ rest
     (addBlock 0 old, removeBlock 0x1001 old, addBlock (removeBlock 0x1001 old) new, addBlock 0 new,
       checksEqual 0xFFFF 0)) = (0x1001, 0xFFFF, 0x9234, 0x9234, true) := by decide +kernel

/-- R46, R53: the last block of the pass part of a roll-forward, read: the fresh sum is the record's check, the region is
closed as UNCHECKED, and phase 5 is reached with ROLLED_FORWARD. -/
theorem test_pass_completes_roll_forward :
    (let t := ran (.commitStepCompletion (List.replicate 64 1#8)) (withBurst (.commit ⟨.read, 0x3FC0, []⟩)
      (withTitle { collectingOn [fullBlock] with state := .copying, order := 1, fullPass := true }
        { cart with
          supply := { cart.supply with phase := 4 }
          save := { cart.save with copy := some ⟨.title, .pass 255, .read, 0, 0x1000, [], []⟩ } }))
     ((recordAt t 1).check, (recordAt t 1).state, (recordAt t 1).generation, t.supply.phase,
       t.save.kept.outcome.map OutcomeRecord.outcome))
      = (0x3020, .unchecked, 42, 5, some .rolledForward) := by decide +kernel

/-- The first read of a staged block: the new block takes the staged byte at each written position. -/
theorem test_commit_read :
    (let t := ran (.commitStepCompletion (List.replicate 64 1#8)) (withBurst (.commit ⟨.read, 0, []⟩)
      (withTitle { collectingOn [⟨0, some 9#8 :: List.replicate 63 none⟩] with state := .copying, order := 1 }
        { cart with save := { cart.save with copy := some ⟨.title, .staged 0, .read, 0, 0, [], []⟩ } }))
     t.port.burst) = some (.commit ⟨.write, 0, 9#8 :: List.replicate 63 1#8⟩) := by decide +kernel

/-- Section 4.9: region 2's one scan step does not compare equal: DAMAGED, SCAN_MISMATCH, and the scan ends. -/
theorem test_scan_step :
    (let t := ran (.scanStepCompletion [1#8]) (withBurst (.scan 0x4000) (setRecord 2 { state := .unchecked }
      { cart with supply := { phase := 6 }, save := { cart.save with scan := some ⟨2, 0, 0⟩ } }))
     ((recordAt t 2).state, noticesOf t, t.supply.phase))
      = (.damaged, [(1, .regionState 2 .damaged .scanMismatch)], 7) := by decide +kernel

/-- SAVE_STATUS of a collecting title slot: state 1, not held, kind 0, target 1, tag 20h. -/
theorem test_save_status :
    ((answer .saveStatus ⟨0, 2, []⟩ (withTitle (collectingOn [fullBlock]) cart)).map (fun r => r.2.length)) = some 22 := by
  decide +kernel

/-! ## Locks (section 4.10) -/

/-- P, Q and M of the sequence. -/
def pwP : List Byte := List.replicate 8 0x50#8
def pwQ : List Byte := List.replicate 8 0x51#8
def pwM : List Byte := List.replicate 8 0x4D#8

/-- Region 1 locked with P at HIGH. -/
def lockedCart : State := withRecord { state := .valid, generation := 41, lock := .locked, password := some pwP } cart

theorem test_lock_set :
    (let t := ran (.lockSet ⟨0, 1, 1#8 :: (pwP ++ [0#8])⟩) cart
     (replyOf t, (recordAt t 1).lock, (recordAt t 1).password)) = (some (.ok, []), .opened, some pwP) := by decide +kernel

/-- Through selector 4 at GUEST with Q: PASSWORD, tries 4, of region 1. -/
theorem test_lock_open_wrong :
    (let t := ran (.lockOpen ⟨0, 2, [4#8, 0#8] ++ pwQ⟩) lockedCart
     (replyOf t, triesAt t 1, (recordAt t 1).lock)) = (some (.password, [4#8]), 4, .locked) := by decide +kernel

/-- With M set, LOCK_OPEN 1 in MASTER mode at SHELL: OK, OPEN, the tries as they stand. -/
theorem test_lock_open_master :
    (let t := ran (.lockOpen ⟨0, 0, [1#8, 1#8] ++ pwM⟩) (ran (.masterSet ⟨0, 0, pwM⟩) lockedCart)
     (replyOf t, (recordAt t 1).lock)) = (some (.ok, [2#8, 5#8]), .opened) := by decide +kernel

theorem test_lock_clear :
    (let s := withRecord { state := .valid, lock := .opened, password := some pwP } cart
     (answer .lockClear ⟨0, 1, 1#8 :: pwQ⟩ s, answer .lockClear ⟨0, 1, 1#8 :: pwP⟩ s,
      (recordAt (ran (.lockClear ⟨0, 1, 1#8 :: pwP⟩) s) 1).lock)) = (some (.password, [4#8]), some (.ok, []), .none) := by
  decide +kernel

/-- R76, R75: after LOCK_FREEZE a MASTER_SET is FROZEN. -/
theorem test_lock_freeze :
    answer .masterSet ⟨0, 0, pwM⟩ (ran (.lockFreeze ⟨0, 0, []⟩) cart) = some (.frozen, []) := by
  decide +kernel

/-- R77, R79: an ERASE right after its ERASE_ARM is STARTED; after any other frame it is NOT_ARMED. -/
theorem test_erase :
    (let s := ran .selectionEnd (ran (.eraseArm ⟨0, 1, [1#8]⟩) cart)
     (answer .erase ⟨0, 1, [1#8, 0#8] ++ pwP⟩ s,
      answer .erase ⟨0, 1, [1#8, 0#8] ++ pwP⟩ (ran .selectionEnd (ran (.ident ⟨0, 0, []⟩) s))))
      = (some (.started, []), some (.notArmed, [])) := by decide +kernel

/-! ## The calendar (sections 5.5, 5.7) -/

/-- Day 9000: 22 August 2024, day of year 235, Thursday, leap. -/
theorem test_day_9000 : answer .dayToDate ⟨0, 2, [0x28#8, 0x23#8]⟩ cart
    = some (.ok, [0xE8#8, 0x07#8, 8#8, 22#8, 235#8, 0#8, 4#8, 1#8]) := by decide +kernel

/-- The last day, 36524: 31 December 2099, day of year 365, Thursday, common; 36525 is BAD_VALUE. -/
theorem test_last_day :
    (answer .dayToDate ⟨0, 2, [0xAC#8, 0x8E#8]⟩ cart, answer .dayToDate ⟨0, 2, [0xAD#8, 0x8E#8]⟩ cart)
      = (some (.ok, [0x33#8, 0x08#8, 12#8, 31#8, 0x6D#8, 0x01#8, 4#8, 0#8]), some (.badValue, [])) := by decide +kernel

/-- 1 March 2023: day 8460 (210Ch), day of year 60, Wednesday; 29 February 2023 is BAD_VALUE. -/
theorem test_date_to_day :
    (answer .dateToDay ⟨0, 2, [0xE7#8, 0x07#8, 3#8, 1#8]⟩ cart, answer .dateToDay ⟨0, 2, [0xE7#8, 0x07#8, 2#8, 29#8]⟩ cart)
      = (some (.ok, [0x0C#8, 0x21#8, 60#8, 0#8, 3#8]), some (.badValue, [])) := by decide +kernel

/-- CLOCK_READ at day 9000, second 100: 22 August 2024, 00:01:40, Thursday, day of year 235. -/
theorem test_clock_read : answer .clockRead ⟨0, 2, []⟩ cart = some (.ok,
    [0#8, 0x28#8, 0x23#8, 100#8, 0#8, 0#8, 0#8, 0#8, 0#8, 0xE8#8, 0x07#8, 8#8, 22#8, 0#8, 1#8, 40#8, 4#8, 235#8, 0#8,
     0#8, 0#8, 0x28#8, 0x23#8, 0#8, 0x28#8, 0x23#8, 0#8, 0#8]) := by decide +kernel

/-- Section 5.7: the day form, day 100, second 43200: VALID, SET queued; the day block is then BEHIND. -/
theorem test_clock_set :
    (let t := ran (.clockSet ⟨0, 0, [0#8, 100#8, 0#8, 0xC0#8, 0xA8#8, 0#8, 0#8, 0#8]⟩)
      { cart with clock := { trim := -20 }, days := { cart.days with highDay := some 36520 } }
     ((t.clock.state, t.clock.day, t.clock.second), t.clock.trim, noticesOf t, t.days.highDay))
      = ((.valid, 100, 43200), -20, [(2, .clockState .behind)], some 36520) := by decide +kernel

/-- The date form: 22 August 2024, 10:00:00. -/
theorem test_clock_set_date :
    (let t := ran (.clockSet ⟨0, 0, [1#8, 0xE8#8, 0x07#8, 8#8, 22#8, 10#8, 0#8, 0#8]⟩) cart
     (t.clock.day, t.clock.second)) = (9000, 36000) := by decide +kernel

/-- R91: −200 is clamped to −127; the reply carries the trim before and after. -/
theorem test_clock_trim :
    answer .clockTrim ⟨0, 0, [0x38#8, 0xFF#8]⟩ { cart with clock := { cart.clock with trim := -20 } }
      = some (.ok, [0xEC#8, 0xFF#8, 0x81#8, 0xFF#8]) := by decide +kernel

/-- R83: the tick that wraps to second 120 loads the count with the trim's magnitude; −20 makes intervals of 33. -/
theorem test_minute_boundary :
    (let t := ran .minuteBoundary
      { cart with clock := { cart.clock with subsecond := 1023, second := 119, trim := -20, divider := 32 } }
     (t.clock.subsecond, t.clock.second, t.clock.adjust, tickInterval t.clock)) = (0, 120, 20, 33) := by decide +kernel

/-- R83: an early tick comes at the 31st frame, and not before it. -/
theorem test_clock_tick :
    (let after (n : Nat) := ran .clockTick
      { cart with clock := { cart.clock with subsecond := 7, adjust := 3, early := true, divider := n } }
     [30, 31].map (fun n => ((after n).clock.subsecond, (after n).clock.adjust, (after n).clock.divider)))
      = [(7, 3, 30), (8, 2, 0)] := by decide +kernel

/-- R90: a CLOCK_SET that comes first takes the coinciding tick away, and its frame counts: the next tick is 63 frames
after the last, so 31 after the 32 counted here; one that meets no tick is followed by a tick 32 frames after it. -/
theorem test_set_before_tick :
    (let s (d : Nat) := ran (.clockSet ⟨0, 0, [0#8, 100#8, 0#8, 0xC0#8, 0xA8#8, 0#8, 0#8, 0#8]⟩)
      { cart with clock := { cart.clock with subsecond := 7, divider := d } }
     let after (d k : Nat) := (ran .clockTick ((List.range k).foldl (fun u _ => countFrame u) (s d))).clock.subsecond
     (((ran .clockTick (s 32)).clock.second, after 32 0, after 32 30, after 32 31), after 0 31, after 0 32))
      = ((43200, 0, 0, 1), 0, 1) := by decide +kernel

/-- Section 5.7: the end of range while OFF leaves LIMIT pending, and the trim. -/
theorem test_end_of_range :
    (let t := ran .endOfRange
      { supply := { state := .off, vslot := 0 }
        clock := { state := .valid, subsecond := 1023, second := 86399, day := 36524, trim := -20, divider := 32 } }
     ((t.clock.state, t.clock.day, t.clock.second), t.clock.trim, t.clock.pendingLimit, noticesOf t))
      = ((.unset, 0, 0), -20, true, []) := by decide +kernel

/-- R87, R88: the day turn of turn second 0 at midnight: the game day advances and a cell measurement begins. -/
theorem test_day_turn :
    (let t := ran .dayTurn { cart with clock := { cart.clock with subsecond := 1023, second := 86399, divider := 32 } }
     (t.clock.day, t.clock.second, t.days.highDay, t.supply.measuring)) = (9001, 0, some 9001, true) := by decide +kernel

/-- R88: while the turn second is out of reach the clock counts the day turn, which is handed to nobody. -/
theorem test_day_turn_while_off :
    (let t := ran .dayTurn { supply := { state := .off, vslot := 0 }
                             clock := { state := .valid, subsecond := 1023, second := 14399, divider := 32 } }
     (t.clock.second, t.supply.measuring)) = (14400, false) := by decide +kernel

/-! ## Game days (section 6.8) -/

/-- The counters of the example: 0 and 4 one-shot, 1 and 2 repeating. -/
def exampleCounters : Vector Counter 8 :=
  ((((Vector.replicate 8 {}).setIfInBounds 0 ⟨.armed, 5, 0, 0⟩).setIfInBounds 1 ⟨.armed, 3, 7, 0⟩).setIfInBounds 2
    ⟨.armed, 4, 4, 0⟩).setIfInBounds 4 ⟨.armed, 20, 0, 0⟩

/-- The cartridge of the example, on day 9012 at second 36000, turn second 14400, in START at phase 7. -/
def drawer : State :=
  { cart with
    supply := { cart.supply with state := .start, phase := 7 }
    clock := { state := .valid, day := 9012, second := 36000 }
    days := { handed := some (dayBlockBytes { turnSecond := 14400, highDay := some 9000, counters := exampleCounters }) } }

/-- Phase 7: the counters after a catch-up by 12, DAY_DUE with set {0, 1, 2} and 6 passes, and the clock slot taken. -/
theorem test_drawer :
    (let t := ran .dayBlockLoad drawer
     (((List.range 5).map (counterOf t.days.counters), t.days.highDay, t.days.dirty), noticesOf t,
      t.save.kept.clock.state, t.supply.phase))
      = (([⟨.due, 0, 0, 1⟩, ⟨.armed, 5, 7, 2⟩, ⟨.armed, 4, 4, 3⟩, {}, ⟨.armed, 8, 0, 0⟩], some 9012, false),
         [(1, .dayDue 7#8 6), (1, .supplyChange .normal)], .copying, 8) := by decide +kernel

/-- R118: a block whose counter 0 has an undefined state does not load, and is rebuilt. -/
theorem test_day_block_rebuilt :
    (let t := ran .dayBlockLoad { drawer with days := { handed := some (List.replicate 64 0xFF#8) } }
     (t.save.kept.clock.fullPass, t.days.highDay, noticesOf t))
      = (true, some 9012, [(1, .regionState 2 .valid .rebuilt), (1, .supplyChange .normal)]) := by decide +kernel

/-- R108: remaining 9 over period 7 is clamped to 7. -/
theorem test_counter_arm :
    (answer .counterArm ⟨0, 1, [3#8, 9#8, 0#8, 7#8, 0#8]⟩ cart,
     counterOf (ran (.counterArm ⟨0, 1, [3#8, 9#8, 0#8, 7#8, 0#8]⟩) cart).days.counters 3)
      = (some (.ok, [1#8, 7#8, 0#8, 7#8, 0#8, 0#8]), ⟨.armed, 7, 7, 0⟩) := by decide +kernel

theorem test_counter_disarm_and_ack :
    (let s := { cart with days := { cart.days with counters := (Vector.replicate 8 {}).setIfInBounds 0 ⟨.due, 0, 0, 1⟩ } }
     (counterOf (ran (.counterDisarm ⟨0, 1, [0#8]⟩) s).days.counters 0,
      counterOf (ran (.counterAck ⟨0, 1, [0#8]⟩) s).days.counters 0, answer .counterAck ⟨0, 1, [0#8]⟩ s))
      = (⟨.disarmed, 0, 0, 1⟩, ⟨.disarmed, 0, 0, 0⟩, some (.ok, [1#8])) := by decide +kernel

/-- Section 6.8: after the drawer, COUNTER_READ 1 shows ARMED, 5, period 7, 2 passes, high day 9012, turn second 14400. -/
theorem test_counter_read :
    answer .counterRead ⟨0, 2, [1#8]⟩ (ran .dayBlockLoad drawer) = some (.ok,
      [1#8, 5#8, 0#8, 7#8, 0#8, 2#8, 0x34#8, 0x23#8, 0#8, 0x40#8, 0x38#8, 0#8, 0#8, 0#8]) := by decide +kernel

/-- R113: at second 100 a turn second of 101 leaves game day 8999, behind the high day. -/
theorem test_days_config :
    (let t := ran (.daysConfig ⟨0, 1, [101#8, 0#8, 0#8, 0#8]⟩) cart
     (replyOf t, t.days.turnSecond, t.days.behind)) = (some (.ok, [0#8, 0#8, 0#8, 0#8]), 101, true) := by decide +kernel

/-- R114: day 8999 against game day 9000 is LT; accept set {LT}. With the clock UNSET a strict test is CLOCK_UNSET. -/
theorem test_day_test :
    (answer .dayTest ⟨0, 2, [0#8, 0x27#8, 0x23#8, 0#8, 0#8, 1#8, 1#8]⟩ cart,
     (ran (.dayTest ⟨0, 2, [0#8, 0x27#8, 0x23#8, 0#8, 0#8, 1#8, 1#8]⟩) { cart with clock := {} }).days.sticky)
      = (some (.ok, [1#8, 0#8, 0x28#8, 0x23#8, 0#8, 0#8]), true) := by decide +kernel

/-! ## Voices (section 7.10) -/

/-- Bytes of the samples of the given indexes, in the window at ROM 30000h. -/
def samples (xs : List Nat) : List Host.Cell := xs.map (fun k => (0x30000 + k, BitVec.ofNat 8 k))

/-- The voice of the sequence at 22.5. -/
def loopVoice : Voice :=
  { state := .playing, format := .pcm8, window := some (0x30000, 0x8000), loopStart := 20, endPos := 24, rate := 6144
    index := 22, fraction := 2048, e := 1023, run := samples [16, 17, 18, 19, 20, 21, 22, 23], runOffset := 6 }

/-- R165: MDRV is at the applied strength, and is not driven in OFF. -/
theorem test_motor_drive :
    (mdrv { cart with rumble := { cart.rumble with applied := 96 } }, mdrv { cart with supply := { state := .off } })
      = (some 96, none) := by decide +kernel

/-- "port grants the refill": trimmed to 22 23, 4 bytes from 30014h, and a new request posted. -/
theorem test_loop_grant :
    (let t := grant { cart with
      voices := cart.voices.setIfInBounds 0 loopVoice, port := { refills := [0] } }
     ((voiceAt t 0).run.map Prod.fst, (voiceAt t 0).runOffset, t.port.burst, t.port.refills))
      = ([0x30016, 0x30017], 0, some (.refill 0 0x30014 4 false), [0]) := by decide +kernel

/-- "frame 1": plays sample 22, and wraps to 20.0, with run offset 2. -/
theorem test_loop_frame :
    (let t := ran .frame { cart with
      voices := cart.voices.setIfInBounds 0 { loopVoice with run := samples [22, 23], runOffset := 0 }
      port := { burst := some (.refill 0 0x30014 4 false) } }
     ((voiceAt t 0).index, (voiceAt t 0).fraction, (voiceAt t 0).runOffset, (voiceAt t 0).last, isUrgent t 0))
      = (20, 0, 2, 22 * 256, true) := by decide +kernel

/-- "frame 2": holds the last sample, STARVE on both channels, 21.5. -/
theorem test_loop_starves :
    (let t := ran .frame { cart with
      voices := cart.voices.setIfInBounds 0
        { loopVoice with run := samples [22, 23], runOffset := 2, index := 20, fraction := 0, last := 22 * 256 }
      port := { burst := some (.refill 0 0x30014 4 false) } }
     ((voiceAt t 0).index, (voiceAt t 0).fraction, (voiceAt t 0).last, t.mixer.flags &&& 0x0C#8))
      = (21, 2048, 22 * 256, 0x0C#8) := by decide +kernel

/-- "burst completes": 22 23 20 21 22 23, 3 bytes ahead. -/
theorem test_refill_completion :
    (let t := ran (.refillCompletion [20#8, 21#8, 22#8, 23#8]) { cart with
      voices := cart.voices.setIfInBounds 0
        { loopVoice with run := samples [22, 23], runOffset := 3, index := 21, fraction := 2048 }
      port := { burst := some (.refill 0 0x30014 4 false), refills := [0], mark := 0, commit := some ⟨.read, 0, []⟩ } }
     ((voiceAt t 0).run.map Prod.fst, bytesAhead (voiceAt t 0)))
      = ([0x30016, 0x30017, 0x30014, 0x30015, 0x30016, 0x30017], 3) := by decide +kernel

/-- R123: PCM8 on selector 5: the cached window is ROM 30000h, length 8000h. -/
theorem test_voice_setup :
    answer .voiceSetup ⟨0, 2, [0#8, 0#8, 5#8, 0#8, 0#8, 0#8, 20#8, 0#8, 0#8, 24#8, 0#8, 0#8, 1#8, 4#8]⟩ cart
      = some (.ok, [0#8, 0#8, 3#8, 0#8, 0#8, 0x80#8, 0#8, 0#8]) := by decide +kernel

theorem test_voice_settings :
    (answer .voicePitch ⟨0, 2, [0#8, 0#8, 0#8]⟩ cart, answer .voiceLevel ⟨0, 2, [0#8, 200#8, 129#8]⟩ cart,
     answer .voiceRamp ⟨0, 2, [0#8, 0xFF#8, 0xFF#8, 0#8, 0#8]⟩ cart)
      = (some (.ok, [1#8, 0#8]), some (.ok, [127#8, 128#8]), some (.ok, [0xFF#8, 3#8, 1#8, 0#8])) := by decide +kernel

/-- R127, R128, R130: keyed on, a PCM voice primes and its first burst starts; keyed off it releases; stopped it is IDLE. -/
theorem test_voice_keys :
    (let s := { cart with voices := cart.voices.setIfInBounds 0 { loopVoice with state := .idle, run := [], runOffset := 0 } }
     let on := ran (.voiceKeyOn ⟨0, 2, [0#8]⟩) s
     let off := ran (.voiceKeyOff ⟨0, 2, [0#8, 0#8, 0#8]⟩) on
     (((voiceAt on 0).priming, (voiceAt on 0).index, on.port.burst), (voiceAt off 0).state, (voiceAt off 0).releaseStep,
      answer .voiceStop ⟨0, 2, [0#8]⟩ off))
      = ((true, 0, some (.refill 0 0x30000 8 false)), .releasing, 1, some (.ok, [2#8])) := by decide +kernel

theorem test_voice_read :
    ((answer .voiceRead ⟨0, 2, [7#8]⟩ cart).map (fun r => r.2.length), answer .voiceRead ⟨0, 2, [8#8]⟩ cart)
      = (some 46, some (.badValue, [])) := by decide +kernel

/-- R134: a release that reaches 0 ends the voice, and VOICE_END names it RELEASED. -/
theorem test_envelope :
    (let t := ran .envelopeTick { cart with voices := (cart.voices.setIfInBounds 3
      { state := .releasing, e := 64, releaseStep := 64 }).setIfInBounds 5 { state := .playing, e := 1000, step := 64 } }
     ((voiceAt t 3).state, (voiceAt t 5).e, noticesOf t)) = (.idle, 1023, [(1, .voiceEnd 8#8 .released)]) := by
  decide +kernel

/-! ## The mixer (sections 8.6 to 8.8) -/

/-- A PULSE voice's level is ±16384; section 8.6's voices are PCM16 with samples 12000 and −20000. -/
def mixVoice (s : BitVec 16) (e volume pan : Nat) : Voice :=
  { state := .playing, format := .pcm16, window := some (0, 16), endPos := 4, e := e, volume := volume, pan := pan
    run := [(0, s.setWidth 8), (1, (s >>> 8).setWidth 8), (2, 0#8), (3, 0#8), (4, 0#8), (5, 0#8)] }

/-- Section 8.6 at each rounding mode. -/
def mixCase (mode : Rounding) : State :=
  { cart with
    voices := (cart.voices.setIfInBounds 0 (mixVoice 12000#16 800 100 32)).setIfInBounds 1
      (mixVoice (BitVec.ofInt 16 (-20000)) 1023 127 128)
    mixer := { master := 200, mode := mode, enables := 8#4 } }

theorem test_mix_modes :
    ([Rounding.nearest, .zero, .floor, .ceiling].map (fun m =>
      let t := ran .frame (mixCase m)
      (t.mixer.left, t.mixer.right)))
      = [(4292, -14057), (4291, -14057), (4291, -14058), (4292, -14057)] := by decide +kernel

/-- INEXACT alone, on both channels, and its notice. -/
theorem test_mix_flags_set :
    (let t := ran .frame (mixCase .nearest)
     (t.mixer.flags, noticesOf t)) = (0xC0#8, [(1, .mixFlags 0xC0#8 .inexact)]) := by decide +kernel

/-- Section 8.7: M / 2³² is −259842 exactly, and saturates. Section 8.8: a vanishing sound, sample 1 and −1. -/
theorem test_round_and_saturate :
    ([Rounding.nearest, .zero, .floor, .ceiling].map (fun m =>
      (roundQuotient m (-1116012892127232), roundQuotient m 16384, roundQuotient m (-16384))), saturate (-259842))
      = ([(-259842, 0, 0), (-259842, 0, 0), (-259842, 0, -1), (-259842, 1, 0)], -32768) := by decide +kernel

/-- R148, R149: master 300 is clamped to 256; the enables are replaced; a choice above 15 is BAD_VALUE. -/
theorem test_mix_requests :
    (answer .mixConfig ⟨0, 2, [0x2C#8, 1#8, 2#8, 1#8]⟩ cart,
     answer .mixFlags ⟨0, 2, [0x40#8, 0x0B#8]⟩ { cart with mixer := { flags := 0xCD#8, enables := 3#4 } },
     answer .mixFlags ⟨0, 2, [0#8, 16#8]⟩ cart)
      = (some (.ok, [0#8, 1#8, 2#8, 1#8]),
         some (.ok, [0xCD#8, 0x8D#8, 0x0B#8, 0#8, 1#8, 0#8, 0#8]), some (.badValue, [])) := by decide +kernel

/-! ## Rumble (sections 9.10, 9.11, R163, R164) -/

/-- The patterns of section 9.10: 1, 2 and 3. -/
def examplePatterns : Vector (List PatternStep) 16 :=
  (((Vector.replicate 16 []).setIfInBounds 1 [⟨200, 30⟩]).setIfInBounds 2 [⟨180, 10⟩, ⟨0, 10⟩]).setIfInBounds 3 [⟨255, 100⟩]

/-- The player of section 9.10 before its last four rows. -/
def fullPlayer : Rumble :=
  { patterns := examplePatterns, ceiling := 255, arrival := 5
    current := some ⟨2, 1, 0, 0, 0, 10⟩
    waiting := [⟨1, 1, 2, 1, 0, 0⟩, ⟨1, 1, 1, 4, 0, 0⟩, ⟨1, 0, 1, 2, 0, 0⟩, ⟨2, 0, 1, 3, 0, 0⟩] }

/-- "PLAY 2, priority 0: QUEUE_FULL"; "PLAY 3, priority 1: WAITING 3", #3 DISPLACED; "DEFINE 1: BUSY". -/
theorem test_player_full :
    (let s := withRumble fullPlayer cart
     let t := ran (.rumblePlay ⟨0, 2, [3#8, 1#8, 1#8]⟩) s
     ([answer .rumblePlay ⟨0, 2, [2#8, 0#8, 3#8]⟩ s, replyOf t, answer .rumbleDefine ⟨0, 2, [1#8]⟩ s],
      t.rumble.waiting.map PlayerEntry.arrival, noticesOf t))
      = ([some (.queueFull, []), some (.ok, [2#8, 3#8]), some (.busy, [])], [1, 4, 5, 2],
         [(1, .rumbleState .displaced)]) := by decide +kernel

/-- "PLAY 3, priority 2: PREEMPTED": the endless entry is dropped for good. -/
theorem test_player_preempted :
    (let t := ran (.rumblePlay ⟨0, 2, [3#8, 2#8, 1#8]⟩) (withRumble fullPlayer cart)
     (replyOf t, t.rumble.current.map (fun x => (x.pattern, x.arrival, x.ticksLeft)), t.rumble.waiting.length))
      = (some (.ok, [1#8, 0xFF#8]), some (3, 5, 100), 4) := by decide +kernel

/-- R156: durations 0 and 65535 become 1 and 4095. -/
theorem test_rumble_define :
    (answer .rumbleDefine ⟨0, 2, [0#8, 7#8, 0#8, 0#8, 8#8, 0xFF#8, 0xFF#8]⟩ cart) = some (.ok, [2#8, 0#8, 0x10#8]) := by
  decide +kernel

/-- R161, R162, R168: CANCEL of the current entry starts the head of the list; FOLLOW and HOLD restart the timer. -/
theorem test_rumble_cancel_follow_hold :
    (let s := withRumble { fullPlayer with hold := 3 } cart
     let t := ran (.rumbleCancel ⟨0, 2, [0#8]⟩) s
     (t.rumble.current.map PlayerEntry.arrival, answer .rumbleCancel ⟨0, 2, [1#8]⟩ s,
      (ran (.rumbleFollow ⟨0, 2, [1#8, 2#8, 200#8]⟩) s).rumble.timer,
      (ran (.rumbleHold ⟨0, 2, [0xFF#8, 1#8]⟩) s).rumble.hold))
      = (some 1, some (.ok, [5#8]), some 3072, 255) := by decide +kernel

theorem test_rumble_read : ((answer .rumbleRead ⟨0, 2, []⟩ cart).map (fun r => r.2.length)) = some 35 := by decide +kernel

/-- R163: a voice at e 800 followed with gain 200 gives 156, beside a step of strength 120. -/
theorem test_follow_strength :
    (let t := ran .rumbleTick { withRumble { ceiling := 255, follow := some (0, 200)
                                             patterns := (Vector.replicate 16 []).setIfInBounds 0 [⟨120, 5⟩]
                                             current := some ⟨0, 0, 0, 0, 0, 5⟩ } cart with
      voices := cart.voices.setIfInBounds 0 { state := .playing, e := 800 } }
     (t.rumble.lastFollow, t.rumble.lastDemand, t.rumble.applied)) = (156, 156, 156) := by decide +kernel

/-- R164: the ceilings of NORMAL and of LOW, with nothing, the copy, the output and both reserved. -/
theorem test_ceilings :
    ([false, true].flatMap (fun out => [none, some ⟨.title, .staged 0, .read, 0, 0, [], []⟩].map (fun c =>
      ceilingOf { withSupply .low cart with mixer := { output := out }, save := { cart.save with copy := c } })))
      = [153, 102, 119, 68] := by decide +kernel

/-- Section 9.11: "heat tick 310": 49131 + 159 = 49290, the limiter engages and A is capped at 96. -/
theorem test_heat_tick :
    (let t := ran .heatTick (withRumble { fullPlayer with
      current := some ⟨3, 1, 0, 0, 0, 50⟩, heat := 49131, heatCount := 15, applied := 255, lastDemand := 255 } cart)
     (t.rumble.heat, t.rumble.limiter, t.rumble.applied, noticesOf t))
      = (49290, true, 96, [(1, .rumbleState .limitOn)]) := by decide +kernel

/-- Section 9.10: "At the tick its step ends, it finishes, FINISHED is queued, and #1 starts". -/
theorem test_step_end :
    (let t := ran .stepEnd (withRumble { fullPlayer with current := some ⟨3, 2, 1, 6, 0, 1⟩ } cart)
     (t.rumble.current.map (fun x => (x.arrival, x.ticksLeft)), noticesOf t, t.rumble.applied))
      = (some (1, 30), [(1, .rumbleState .finished)], 255) := by decide +kernel

/-- R169: the hold timer runs out: the player and follow are cleared, and A is 0 at that tick. -/
theorem test_hold_expiry :
    (let t := ran .holdTimerExpiry (withRumble { fullPlayer with timer := some 1, applied := 180 } cart)
     (t.rumble.current, t.rumble.waiting, t.rumble.applied, noticesOf t))
      = (none, [], 0, [(1, .rumbleState .holdExpired)]) := by decide +kernel

/-! ## Supply and start-up (section 10.5) -/

/-- The first measurement, 2650 mV: WEAK, and the mark found intact; the header's burst begins. -/
theorem test_first_measurement :
    (let t := ran (.cellMeasurementCompletion 2655) { State.reset with save := { kept := { mark := true } } }
     (t.supply.phase, t.supply.retention, t.supply.reading, noticesOf t, t.port.burst))
      = (3, .intact, 2650, [(1, .cellState .weak 2650)], some (.directory 0)) := by decide +kernel

/-- From `State.reset` the mark is lost: kept RAM and the clock are rebuilt, CLOCK_STATE UNSET. -/
theorem test_first_power :
    (let t := ran (.cellMeasurementCompletion 3000) State.reset
     (t.supply.retention, t.save.kept.mark, t.clock.state, noticesOf t))
      = (.lost, true, .unset, [(1, .cellState .good 3000), (1, .clockState .unset)]) := by decide +kernel

/-- VSLOT falls to 2.75 V in phase 5, which waits; R170: SHED "whether or not anything was playing". -/
theorem test_warn_entry :
    (let t := ran (.warnEntry 2750) { State.reset with supply := { phase := 5 } }
     (t.supply.state, t.supply.waiting, noticesOf t))
      = (.warn, true, [(1, .supplyChange .warn), (1, .rumbleState .shed)]) := by decide +kernel

/-- "VSLOT ≥ 2.9 V held 64 ms: START, 5, clear": SUPPLY_CHANGE folds, and the passage from phase 4 that waited is made. -/
theorem test_warn_recovery :
    (let t := ran .warnRecovery { cart with
      supply := { state := .warn, vslot := 2950, phase := 4, waiting := true, timers := { warnToStart := true } }
      link := { queue := [⟨1, .supplyChange .warn⟩] } }
     (t.supply.state, t.supply.phase, t.supply.waiting, noticesOf t)) = (.start, 5, false, [(2, .supplyChange .start)]) := by decide +kernel

/-- "phase 7 update; VSLOT 2.95 V: LOW", then, after 64 ms at 3.1 V, NORMAL, and after 8 ms below 3.0 V, LOW. -/
theorem test_ready_low_and_normal :
    (let s := ran .dayBlockLoad { plain with supply := { plain.supply with state := .start, phase := 7, vslot := 2950 } }
     let t := ran .lowToNormal (ran (.vslotThresholdChange 3100) s)
     (s.supply.state, s.rumble.ceiling, t.supply.state, (ran .normalToLow (ran (.vslotThresholdChange 2999) t)).supply.state))
      = (.low, 153, .normal, .low) := by decide +kernel

/-- R185, R182: SUPPLY_OFF loses the slot domain and keeps the clock and kept RAM; OFF to START begins phase 1. -/
theorem test_off_and_on :
    (let t := ran (.supplyOff 2400) (withSupply .warn cart)
     let u := ran (.offToStart true) (ran (.vslotThresholdChange 3000) t)
     (t.supply.state, t.dir.result, t.clock.day, (recordAt t 1).generation, u.supply.state, u.supply.phase,
      u.supply.measuring)) = (.off, .notYet, 9000, 41, .start, 1, true) := by decide +kernel

/-- R182: phase 5 opens the link; with nothing to scan phase 7 follows. -/
theorem test_link_open :
    (let s := { cart with supply := { phase := 5 } }
     ((ran .linkOpen s).supply.phase, (ran .linkOpen (withRecord { state := .unchecked } s)).supply.phase,
      (ran .linkOpen (withRecord { state := .unchecked } s)).port.burst)) = (7, 6, some (.scan 0)) := by decide +kernel

/-- SUPPLY_READ in LOW: budget 45; CELL_CHECK is STARTED. -/
theorem test_supply_requests :
    (answer .supplyRead ⟨0, 2, []⟩ (withSupply .low cart), answer .cellCheck ⟨0, 2, []⟩ cart)
      = (some (.ok, [3#8, 45#8, 8#8, 1#8, 0#8, 1#8, 0xB8#8, 0x0B#8, 0#8, 0#8]), some (.started, [])) := by decide +kernel

/-- R183: before phase 5 a SAVE_BEGIN is NOT_READY and SUPPLY_READ is taken. -/
theorem test_not_ready :
    (answer .saveBegin ⟨0, 1, [1#8]⟩ State.reset, (answer .supplyRead ⟨0, 2, []⟩ State.reset).map Prod.fst)
      = (some (.notReady, []), some .ok) := by decide +kernel

/-- The empty queue idles; the front command is taken first. -/
theorem test_step :
    (match step { cart with pending := [.clockTick, .frame], clock := { cart.clock with divider := 32 } } with
     | .next t => (t.pending, t.clock.subsecond)
     | _ => ([], 0)) = ([.frame], 1) := by decide +kernel

/-! ## States and operands that meet the statements' hypotheses

One theorem for each statement that has hypotheses, one conjunct for each of its clauses. -/

/-- A request. -/
def rq (level : Byte) (p : List Byte) : Request := ⟨0, level, p⟩

/-- SelectionsDecodeToTheirCommand: a full payload, an undefined kind, a frame too long, a selection without a frame. -/
theorem test_hyps_SelectionsDecodeToTheirCommand :
    (∀ i ∈ [Instr.rumbleDefine (rq 2 (List.replicate 64 0)), .unknownKind 0x05#8 (rq 2 []),
        .frameError 0x12#8 0 0 65#8 [] 0#8, .frameError 0x01#8 0 0 0 [] 0x17#8, .selectionWithoutFrame 0#8],
      i.wf = true ∧ (encodeSelection i).isSome = true) := by decide +kernel

/-- A frame too long, a bad check byte, an undefined kind and another first byte; a reply awaited; and a reply that
stands, of seven bytes on LDO, before, at both ends of, and after its frame. -/
theorem test_hyps_BrokenTransfersAnswered :
    hears cart = true ∧ cart.link.selection = .none ∧ 64 < (65#8).toNat
    ∧ (0x17#8 ≠ crc8 [0x01#8, 0#8, 0#8, 0#8]) ∧ (∀ k : Kind, kindCode k ≠ 0x05#8) ∧ (0x00#8 ≠ 0xC3#8)
    ∧ ({ cart with link := { selection := .awaiting 5#8 } } : State).link.selection = .awaiting 5#8
    ∧ (let s := ran (.regionPresent ⟨5, 0, [1, 0]⟩) cart
       s.link.selection = .replying ⟨.ok, 5, [1]⟩ false
        ∧ [0x00#8, 5#8, 1#8, 1#8] = statusCode .ok :: 5#8 :: BitVec.ofNat 8 1 :: [1#8]
        ∧ 1 < 2 ∧ 2 ≤ 2 ∧ 7 < 2 + 4 + 2 ∧ 2 + 4 + 2 ≤ 8) := by
  refine ⟨?_, ?_, ?_, ?_, fun k => ?_, ?_, ?_, ?_⟩ <;> first | decide +kernel | (cases k <;> decide)

/-- A length, a level above 2, a level not trusted enough, and a phase below the kind's. -/
theorem test_hyps_LinkRefusesInOrder :
    hears State.reset = true ∧ State.reset.link.selection = .none
    ∧ lengthSuits .saveWrite 61 = false ∧ lengthSuits .saveWrite 4 = false
    ∧ (lengthSuits .ident 0 = true ∧ leastTrusted .ident < (3#8).toNat)
    ∧ (lengthSuits .lockFreeze 0 = true ∧ leastTrusted .lockFreeze < (1#8).toNat)
    ∧ (lengthSuits .clockRead 0 = true ∧ (2#8).toNat ≤ leastTrusted .clockRead
      ∧ State.reset.supply.phase < takenFromPhase .clockRead (hasDays State.reset)) := by
  and_intros <;> decide +kernel

theorem test_hyps_FramesEmptyTheLatch :
    hears { cart with link := { latch := some ⟨1, 1⟩ } } = true ∧ Kind.erase ≠ Kind.eraseArm
    ∧ ∃ t, exec (requestOf .erase (rq 1 [])) { cart with link := { latch := some ⟨1, 1⟩ } } = .next t :=
  ⟨by decide +kernel, by decide, _, rfl⟩

theorem test_hyps_SelectionEndLosesTheReply :
    slotUp cart = true ∧ cart.link.selection = .none
    ∧ ({ cart with link := { selection := .quiet } } : State).link.selection = .quiet
    ∧ (ran (.ident (rq 2 [])) cart).link.selection = .replying ⟨.ok, 0, identPayload cart⟩ false
    ∧ (ran (.titleReset (rq 1 [])) cart).link.selection = .replying ⟨.ok, 0, []⟩ true
    ∧ ((ran (.saveRead (rq 1 [1, 0, 0, 0, 0, 60])) cart).link.selection = .awaiting 0
      ∧ (ran (.saveRead (rq 1 [1, 0, 0, 0, 0, 60])) cart).port.burst = some (.linkRead ⟨0, 60, 1⟩ false)) := by
  and_intros <;> decide +kernel

theorem test_hyps_ReportsChangeNothing :
    Takes .ident (rq 2 []) cart ∧ (Takes .regionInfo (rq 2 [23]) cart ∧ (23#8).toNat ≤ 23)
    ∧ Takes .saveStatus (rq 2 []) cart ∧ Takes .clockRead (rq 2 []) cart
    ∧ (Takes .counterRead (rq 2 [7]) cart ∧ hasDays cart = true ∧ (7#8).toNat ≤ 7)
    ∧ (Takes .voiceRead (rq 2 [7]) cart ∧ (7#8).toNat ≤ 7)
    ∧ (Takes .regionInfo (rq 2 [24]) cart ∧ 23 < (24#8).toNat)
    ∧ (Takes .voiceRead (rq 2 [8]) cart ∧ Takes .counterRead (rq 2 [8]) cart ∧ 7 < (8#8).toNat)
    ∧ (Takes .counterRead (rq 2 [0]) plain ∧ hasDays plain = false)
    ∧ ((entryAt cart 0).kind = kindSample ∧ (entryAt cart 1).kind = kindSave ∧ (entryAt cart 1).standing = .accepted
      ∧ (entryAt cart 4).kind = kindAlias ∧ (entryAt cart 4).standing = .accepted
      ∧ (entryAt cart (entryAt cart 4).target).kind = kindSave
      ∧ (entryAt cart 5).kind = kindAlias ∧ (entryAt cart (entryAt cart 5).target).kind ≠ kindSave
      ∧ (entryAt cart 3).standing ≠ .accepted)
    ∧ Takes .rumbleRead (rq 2 []) cart ∧ Takes .supplyRead (rq 2 []) State.reset := by
  unfold Takes; and_intros <;> decide +kernel

/-- Two notices of different kinds. -/
def twoNotices : List NoticeEntry := [⟨255, .voiceEnd 0x08#8 .ended⟩, ⟨1, .supplyChange .low⟩]

/-- The two other kinds with sets. -/
def setNotices : List NoticeEntry := [⟨1, .dayDue 1#8 2⟩, ⟨1, .mixFlags 1#8 .clip⟩]

theorem test_hyps_NoticeRequests :
    (Takes .noticeFetch (rq 2 []) cart ∧ cart.link.queue = [])
    ∧ (Takes .noticeFetch (rq 2 []) { cart with link := { queue := twoNotices } }
      ∧ ({ cart with link := { queue := twoNotices } } : State).link.queue
          = ⟨255, .voiceEnd 0x08#8 .ended⟩ :: [⟨1, .supplyChange .low⟩])
    ∧ (Takes .noticeMask (rq 2 [0xFF, 3]) cart ∧ (3#8).toNat < 4)
    ∧ (Takes .noticeMask (rq 2 [0, 4]) cart ∧ ¬ (4#8).toNat < 4) := by
  unfold Takes; and_intros <;> decide +kernel

/-- Masked; a kind with no entry; a kind whose entry stands second with count 255; each kind with a set, and one without. -/
theorem test_hyps_NoticesFoldByKind :
    ({ cart with link := { mask := 0x3FE#10 } } : State).link.mask.getLsbD (noticeKind (.supplyChange .warn) - 1) = false
    ∧ (cart.link.mask.getLsbD (noticeKind (.supplyChange .warn) - 1) = true
      ∧ ∀ x ∈ cart.link.queue, noticeKind x.notice ≠ noticeKind (.supplyChange .warn))
    ∧ (twoNotices.reverse = [⟨1, .supplyChange .low⟩] ++ ⟨255, .voiceEnd 0x08#8 .ended⟩ :: []
      ∧ noticeKind (.voiceEnd 0x08#8 .ended) = noticeKind (.voiceEnd 1#8 .released)
      ∧ ∀ y ∈ [(⟨1, .supplyChange .low⟩ : NoticeEntry)], noticeKind y.notice ≠ noticeKind (.voiceEnd 1#8 .released))
    ∧ (setNotices = [] ++ ⟨1, .dayDue 1#8 2⟩ :: [⟨1, .mixFlags 1#8 .clip⟩]
      ∧ noticeKind (.dayDue 1#8 2) = noticeKind (.dayDue 0x82#8 9))
    ∧ (setNotices = [⟨1, .dayDue 1#8 2⟩] ++ ⟨1, .mixFlags 1#8 .clip⟩ :: []
      ∧ noticeKind (.mixFlags 1#8 .clip) = noticeKind (.mixFlags 0x80#8 .inexact)
      ∧ noticeKind (.dayDue 1#8 2) ≠ noticeKind (.mixFlags 0x80#8 .inexact))
    ∧ (noticeKind (.supplyChange .warn) ≠ 5 ∧ noticeKind (.supplyChange .warn) ≠ 8
      ∧ noticeKind (.supplyChange .warn) ≠ 9 ∧ noticeKind (.supplyChange .low) = noticeKind (.supplyChange .warn)) := by
  and_intros <;> decide +kernel

theorem test_hyps_NoticeQueueInvariant :
    QueueOk twoNotices ∧ ∃ t, step { cart with link := { queue := twoNotices }, pending := [.envelopeTick] } = .next t :=
  ⟨by unfold QueueOk; decide +kernel, _, rfl⟩

theorem test_hyps_TitleResetTakenAfterReply :
    Takes .titleReset (rq 1 []) cart
    ∧ (ran (.titleReset (rq 1 [])) cart).link.selection = .replying ⟨.ok, 0, []⟩ true := by
  unfold Takes; and_intros <;> decide +kernel

/-- COLLECTING, and FREE; an OPEN lock of a record in use, and a LOCKED one; a record place of no region. -/
theorem test_hyps_TitleResetDiscardsCollecting :
    (withTitle (collectingOn [fullBlock]) cart).save.kept.title.state = .collecting
    ∧ cart.save.kept.title.state ≠ .collecting
    ∧ (inUse (withRecord { state := .valid, lock := .opened } cart) 1 = true
      ∧ (recordAt (withRecord { state := .valid, lock := .opened } cart) 1).lock = .opened)
    ∧ inUse cart 23 = false ∧ (recordAt lockedCart 1).lock ≠ .opened := by
  and_intros <;> decide +kernel

theorem test_hyps_ResetLineResetsTheTitle :
    (slotUp cart = true ∧ cart.link.selection = .none ∧ cart.srst = false ∧ 5 ≤ cart.supply.phase)
    ∧ (slotUp State.reset = true ∧ State.reset.srst = false ∧ ¬ 5 ≤ State.reset.supply.phase)
    ∧ ({ cart with srst := true } : State).srst = true := by
  and_intros <;> decide +kernel

/-! ### The region directory -/

/-- An EMPTY entry, the DAYS region, value 2, and value 1 for region 1. -/
theorem test_hyps_RegionPresentSetsTheFlag :
    Takes .regionPresent (rq 0 [23, 1]) cart ∧ isAccepted cart 23 = false ∧ isAccepted cart 255 = false
    ∧ (isAccepted cart 2 = true ∧ (entryAt cart 2).kind = kindDays)
    ∧ (isAccepted cart 1 = true ∧ (entryAt cart 1).kind ≠ kindDays ∧ 1 < (2#8).toNat ∧ (1#8).toNat ≤ 1) := by
  unfold Takes; and_intros <;> decide +kernel

/-- The part in phase 3 with a directory burst in progress. -/
def loading (st : LoadStep) (count : Nat) : State :=
  { supply := { phase := 3 }, dir := { loading := some st, count := count, romSize := 65536, sramSize := 32768 }
    port := { burst := some (.directory 0) } }

/-- A header with a good check byte. -/
def goodHeader : List Byte :=
  let h := [0x43#8, 0x52#8, 0x54#8, 0x44#8, 24#8, 0#8, 8#8, 3#8, 0#8, 0#8, 0#8, 0#8, 0#8, 0#8, 0#8]
  h ++ [crc8 h]

/-- An accepted header with the greatest count and sizes, an absent one, a broken one; an entry before the last, and
the last place, 23, as the last entry; at the end of the load, a COLLECTING slot, one to roll forward, and none. -/
theorem test_hyps_DirectoryBurstsBuildTheTable :
    ((loading .header 0).port.burst = some (.directory 0) ∧ (loading .header 0).dir.loading = some .header
      ∧ headerAccepted (burstBytes (loading .header 0).rom 0 16 goodHeader) = true
      ∧ headerAccepted (burstBytes (loading .header 0).rom 0 16 []) = false
      ∧ headerAccepted (burstBytes (loading .header 0).rom 0 16 [0x43#8]) = false)
    ∧ ((∃ j, j < 3 ∧ (entryAt cart j).standing = .accepted ∧ (entryAt cart j).kind = kindDays
        ∧ 0x4000 < (entryAt cart j).base + (entryAt cart j).length ∧ (entryAt cart j).base < 0x4000 + 64)
      ∧ ¬ (∃ j, j < 0 ∧ (entryAt cart j).kind = kindDays) ∧ ¬ (0x4040 < 0x4000 + 64))
    ∧ ((loading (.entry 22) 24).dir.loading = some (.entry 22) ∧ 22 + 1 < (loading (.entry 22) 24).dir.count)
    ∧ ((loading (.entry 23) 24).dir.loading = some (.entry 23) ∧ (loading (.entry 23) 24).dir.count ≤ 23 + 1)
    ∧ ((withTitle (collectingOn []) (loading (.entry 23) 24)).save.kept.title.state = .collecting
      ∧ SlotId.title ∉ (withTitle (collectingOn []) (loading (.entry 23) 24)).save.kept.queue
      ∧ ToRoll { collectingOn [fullBlock] with state := .copying } ∧ ToRoll { collectingOn [fullBlock] with state := .pending }
      ∧ ¬ ToRoll (collectingOn []) ∧ ¬ ToRoll (loading (.entry 23) 24).save.kept.title) := by
  unfold ToRoll; and_intros <;> decide +kernel

/-- A SAVE entry of one block at SRAM 4040h, after the DAYS window; and a DAYS entry on a cartridge without one. -/
theorem test_hyps_AcceptedWindowsAreDisjoint :
    (let t := takeEntry 23 [2#8, 1#8, 3#8, 0#8, 0x40#8, 0x40#8, 0#8, 0#8, 0x40#8, 0#8, 0#8, 0#8] cart
     (entryAt t 23).standing = .accepted ∧ (entryAt t 23).kind = kindSave)
    ∧ ((entryAt cart 2).standing = .accepted ∧ (entryAt cart 2).kind = kindDays)
    ∧ (let t := takeEntry 23 [3#8, 1#8, 2#8, 0#8, 0#8, 0x40#8, 0#8, 0#8, 0x40#8, 0#8, 0#8, 0#8] plain
     (entryAt t 23).standing = .accepted ∧ (entryAt t 23).kind = kindDays) := by
  and_intros <;> decide +kernel

/-- What is refused is no window. -/
theorem not_window {x : Resolution} {st : Status} (h : x = .refused st) (w : Window) : x ≠ .window w := by
  subst h
  exact fun e => nomatch e

/-- One selector for each refusal: an EMPTY entry; a region and an alias's target not present; too low a level; the DAYS
region; the alias of a SAMPLE; an UNCHECKED region; a LOCKED one; and a window out of bounds. -/
theorem test_hyps_ResolutionPassesEveryCheck :
    let gone := ran (.regionPresent ⟨0, 0, [1#8, 0#8]⟩) cart
    let all : Window → Bool := fun _ => true
    let test : RecordTest := .uncheckedAndLocked
    (∀ w, resolve cart 23 2 kindSave false test all ≠ .window w)
    ∧ (∀ w, resolve gone 1 1 kindSave false test all ≠ .window w)
    ∧ (∀ w, resolve cart 1 2 kindSave false test all ≠ .window w)
    ∧ (∀ w, resolve gone 4 2 kindSave false test all ≠ .window w)
    ∧ (∀ w, resolve cart 2 0 kindSave false test all ≠ .window w)
    ∧ (∀ w, resolve cart 5 2 kindSample true .none all ≠ .window w)
    ∧ (∀ w, resolve (withRecord { state := .unchecked } cart) 4 2 kindSave true test all ≠ .window w)
    ∧ (∀ w, resolve lockedCart 4 2 kindSave true test all ≠ .window w)
    ∧ (∀ w, resolve cart 4 2 kindSave true test (fun w => decide (0x1001 ≤ w.length)) ≠ .window w) := by
  intro gone all test
  exact ⟨not_window (st := .noEntry) (by decide +kernel), not_window (st := .notPresent) (by decide +kernel),
    not_window (st := .denied) (by decide +kernel), not_window (st := .notPresent) (by decide +kernel),
    not_window (st := .wrongKind) (by decide +kernel), not_window (st := .readOnly) (by decide +kernel),
    not_window (st := .notReady) (by decide +kernel), not_window (st := .locked) (by decide +kernel),
    not_window (st := .outOfBounds) (by decide +kernel)⟩

/-! ### Saves -/

/-- Through the alias, at its own level: a window; through entry 3: NO_ENTRY; the slot taken; WARN. -/
theorem test_hyps_SaveBeginAndAbandon :
    (Takes .saveBegin (rq 2 [4]) cart
      ∧ resolveSave cart (4#8).toNat (2#8).toNat true (fun _ => true)
          = .window ⟨4, 2, 1, .sram, 0x3000, 0x1000, 0x3000, true⟩)
    ∧ resolveSave cart (3#8).toNat (2#8).toNat true (fun _ => true) = .refused .noEntry
    ∧ (withTitle (collectingOn []) cart).save.kept.title.state ≠ .free
    ∧ (Takes .saveBegin (rq 2 [4]) (withSupply .warn cart) ∧ (withSupply .warn cart).save.kept.title.state = .free
      ∧ (withSupply .warn cart).supply.state = .warn)
    ∧ (Takes .saveAbandon (rq 2 []) cart ∧ cart.save.kept.title.state = .free)
    ∧ (Takes .saveAbandon (rq 2 []) (withTitle (collectingOn []) cart)
      ∧ (withTitle (collectingOn []) cart).save.kept.title.level < (2#8).toNat)
    ∧ (Takes .saveAbandon (rq 1 []) (withTitle { collectingOn [] with state := .copying } cart)
      ∧ committable (withTitle { collectingOn [] with state := .copying } cart).save.kept.title = false)
    ∧ (Takes .saveAbandon (rq 1 []) (withTitle { collectingOn [] with state := .pending, held := true } cart)
      ∧ committable (withTitle { collectingOn [] with state := .pending, held := true } cart).save.kept.title = true
      ∧ committable (collectingOn []) = true) := by
  unfold Takes; and_intros <;> decide +kernel

/-- Blocks 1 to `n`, each whole. -/
def blocksUpTo (n : Nat) : List StagedBlock := (List.range n).map (fun k => ⟨k + 1, List.replicate 64 (some 0#8)⟩)

/-- The last 56 bytes of the window, one byte beyond, a 31st block, and two blocks beyond the 30th. -/
theorem test_hyps_SaveWriteStagesItsBytes :
    let p (o : Nat) (n : Nat) := BitVec.ofNat 8 o :: BitVec.ofNat 8 (o / 256) :: 0#8 :: 0#8 :: List.replicate n 5#8
    (Takes .saveWrite (rq 1 (p 0 56)) cart ∧ cart.save.kept.title.state ≠ .collecting
      ∧ ∀ b ∈ cart.save.kept.title.blocks, b.bytes.length = 64)
    ∧ (Takes .saveWrite (rq 2 (p 0 1)) (withTitle (collectingOn []) cart) ∧ (collectingOn []).level < (2#8).toNat)
    ∧ (Takes .saveWrite (rq 1 (p 16329 56)) (withTitle (collectingOn []) cart)
      ∧ (collectingOn []).length < leNat [0xC9#8, 0x3F#8, 0#8, 0#8] + 56)
    ∧ leNat [0xC8#8, 0x3F#8, 0#8, 0#8] + 56 ≤ (collectingOn []).length
    ∧ (Takes .saveWrite (rq 1 (p 16320 1)) (withTitle (collectingOn (blocksUpTo 30)) cart)
      ∧ (∀ b ∈ (collectingOn (blocksUpTo 30)).blocks, b.bytes.length = 64)
      ∧ (blocksUpTo 30).length + (newBlocks (blocksUpTo 30) 16320 1).length ≤ 31)
    ∧ (Takes .saveWrite (rq 1 (p 16319 2)) (withTitle (collectingOn (blocksUpTo 30)) cart)
      ∧ 31 < (blocksUpTo 30).length + (newBlocks (blocksUpTo 30) 16319 2).length) := by
  intro p; unfold Takes; and_intros <;> decide +kernel

/-- The title slot held after a verify fault. -/
def heldTitle : Slot :=
  { collectingOn [fullBlock] with state := .pending, held := true, faults := 1, order := 1, fullPass := true }

/-- A copy of the clock slot in progress. -/
def clockCopying (s : State) : State :=
  { s with save := { s.save with
      copy := some ⟨.clock, .staged 0, .read, 0, 0, [], []⟩
      kept := { s.save.kept with clock := { state := .copying, target := 2, length := 64, order := 1, blocks := [fullBlock] } } } }

theorem test_hyps_SaveCommitQueuesTheTransaction :
    (Takes .saveCommit (rq 1 []) cart ∧ committable cart.save.kept.title = false)
    ∧ (Takes .saveCommit (rq 2 []) (withTitle heldTitle cart) ∧ committable heldTitle = true
      ∧ heldTitle.level < (2#8).toNat)
    ∧ (Takes .saveCommit (rq 1 []) (withSupply .warn (withTitle heldTitle cart)))
    ∧ (Takes .saveCommit (rq 1 []) (withTitle heldTitle lockedCart)
      ∧ reresolve (withTitle heldTitle lockedCart) heldTitle = .refused .locked)
    ∧ (Takes .saveCommit (rq 1 []) (withTitle heldTitle cart)
      ∧ reresolve (withTitle heldTitle cart) heldTitle = .window ⟨1, 1, 1, .sram, 0, 0x4000, 0, true⟩)
    ∧ (committable (collectingOn []) = true ∧ (collectingOn []).blocks = []
      ∧ reresolve (withTitle (collectingOn []) cart) (collectingOn []) = .window ⟨1, 1, 1, .sram, 0, 0x4000, 0, true⟩)
    ∧ ((collectingOn [fullBlock]).state = .collecting ∧ (collectingOn [fullBlock]).blocks ≠ [])
    ∧ (cart.save.copy = none ∧ cart.save.kept.queue = []) ∧ (clockCopying cart).save.copy ≠ none := by
  unfold Takes; and_intros <;> decide +kernel

/-- The last 60 bytes of region 1 and one beyond; counts 0 and 61; a BLANK region; a standing and a lost read. -/
theorem test_hyps_SaveReadReturnsTheBytes :
    (Takes .saveRead (rq 2 [4, 0xC4, 0x0F, 0, 0, 60]) cart
      ∧ resolveSave cart 4 2 false (fun w => decide (leNat [0xC4#8, 0x0F#8, 0#8, 0#8] + 60 ≤ w.length))
          = .window ⟨4, 2, 1, .sram, 0x3000, 0x1000, 0x3000, true⟩
      ∧ resolveSave cart 4 2 false (fun w => decide (leNat [0xC5#8, 0x0F#8, 0#8, 0#8] + 60 ≤ w.length))
          = .refused .outOfBounds)
    ∧ ((0#8).toNat = 0 ∧ 60 < (61#8).toNat ∧ 1 ≤ (60#8).toNat ∧ (60#8).toNat ≤ 60)
    ∧ ((recordAt (withRecord {} cart) 1).state = .blank
      ∧ resolveSave (withRecord {} cart) 1 2 false (fun w => decide (0 + 60 ≤ w.length)) = .refused .denied
      ∧ resolveSave (withRecord {} cart) 1 1 false (fun w => decide (0 + 60 ≤ w.length))
          = .window ⟨1, 1, 1, .sram, 0, 0x4000, 0, true⟩)
    ∧ (recordAt cart 1).state ≠ .blank
    ∧ ((withBurst (.linkRead ⟨0, 60, 1⟩ false) cart).port.burst = some (.linkRead ⟨0, 60, 1⟩ false)
      ∧ ({ cart with link := { selection := .awaiting 5#8 } } : State).link.selection = .awaiting 5#8)
    ∧ (withBurst (.linkRead ⟨0, 60, 1⟩ true) cart).port.burst = some (.linkRead ⟨0, 60, 1⟩ true) := by
  unfold Takes; and_intros <;> decide +kernel

/-! ### The commit engine -/

/-- A title copy of block 0 in progress, with its step in flight. -/
def copying (d : StepDir) (part : CopyPart) (data : List Byte) (sl : Slot) (s : State) : State :=
  withBurst (.commit ⟨d, 0, data⟩) (withTitle { sl with state := .copying, order := 1 }
    { s with save := { s.save with copy := some ⟨.title, part, d, 0, 0, List.replicate 64 0, data⟩ } })

/-- 64 bytes of 07h, as `fullBlock` stages them. -/
def sevens : List Byte := List.replicate 64 0x07#8

theorem test_hyps_CommitStepsWriteTheBlock :
    (let s := copying .read (.staged 0) [] (collectingOn [fullBlock]) cart
     s.port.burst = some (.commit ⟨.read, 0, []⟩)
      ∧ s.save.copy = some ⟨.title, .staged 0, .read, 0, 0, List.replicate 64 0, []⟩
      ∧ (stagedBytes (slotAt s .title) 0).length = 64)
    ∧ (let s := copying .write (.staged 0) sevens (collectingOn [fullBlock]) cart
     s.port.burst = some (.commit ⟨.write, 0, sevens⟩) ∧ sevens.length = 64 ∧ Memory.wf s.sram = true
      ∧ s.save.copy = some ⟨.title, .staged 0, .write, 0, 0, List.replicate 64 0, sevens⟩)
    ∧ (let s := copying .readBack (.staged 0) sevens (collectingOn (fullBlock :: blocksUpTo 30)) cart
     sevens = burstBytes s.sram 0 64 sevens ∧ 0 + 1 < (slotAt s .title).blocks.length
      ∧ s.save.copy = some ⟨.title, .staged 0, .readBack, 0, 0, List.replicate 64 0, sevens⟩
      ∧ (stagedBytes (slotAt s .title) (0 + 1)).length = 64)
    ∧ (let s := copying .readBack (.staged 0) sevens heldTitle cart
     (slotAt s .title).blocks.length ≤ 0 + 1 ∧ (slotAt s .title).fullPass = true ∧ 0 < regionLength s (slotAt s .title))
    ∧ (let s := copying .read (.pass 254) [] { heldTitle with zeroBase := true } cart
     s.port.burst = some (.commit ⟨.read, 0, []⟩) ∧ 64 * (254 + 1) < regionLength s (slotAt s .title)
      ∧ s.save.copy = some ⟨.title, .pass 254, .read, 0, 0, List.replicate 64 0, []⟩
      ∧ (slotAt s .title).zeroBase = true ∧ (∀ x ∈ (slotAt s .title).blocks, x.index ≠ 254 + 1)
      ∧ heldTitle.kind ≠ .erase ∧ heldTitle.zeroBase ≠ true) := by
  and_intros <;> decide +kernel

/-- The last staged block without a full pass; the last block of a pass, read, and read back of an erase slot; phase 4;
both slots to roll forward, in pending order; and no slot. -/
theorem test_hyps_LastReadBackCompletesTheCopy :
    (let s := copying .readBack (.staged 0) sevens (collectingOn [fullBlock]) cart
     s.save.copy = some ⟨.title, .staged 0, .readBack, 0, 0, List.replicate 64 0, sevens⟩
      ∧ (slotAt s .title).blocks.length ≤ 0 + 1 ∧ (slotAt s .title).fullPass = false
      ∧ (slotAt s .title).kind = .write ∧ (slotAt s .title).target < 24
      ∧ sevens = burstBytes s.sram 0 64 sevens ∧ s.supply.phase ≠ 4)
    ∧ (let s := copying .read (.pass 255) [] heldTitle { cart with supply := { phase := 4 } }
     s.port.burst = some (.commit ⟨.read, 0, []⟩) ∧ regionLength s (slotAt s .title) ≤ 64 * (255 + 1)
      ∧ s.save.copy = some ⟨.title, .pass 255, .read, 0, 0, List.replicate 64 0, []⟩ ∧ s.supply.phase = 4)
    ∧ (let s := copying .readBack (.pass 255) sevens { heldTitle with kind := .erase } cart
     s.save.copy = some ⟨.title, .pass 255, .readBack, 0, 0, List.replicate 64 0, sevens⟩
      ∧ (slotAt s .title).kind = .erase)
    ∧ (let d := withTitle { heldTitle with order := 2 } (clockCopying cart)
     ToRoll (slotAt d .clock) ∧ ToRoll (slotAt d .title) ∧ (slotAt d .clock).order < (slotAt d .title).order)
    ∧ (ToRoll heldTitle ∧ ¬ ToRoll cart.save.kept.title ∧ ¬ ToRoll cart.save.kept.clock)
    ∧ (inUse cart 1 = true ∧ inUse cart 23 = false) := by
  unfold ToRoll; and_intros <;> decide +kernel

/-- `JournalOk` of that state. -/
theorem test_hyps_JournalOk : JournalOk (copying .readBack (.staged 0) sevens (collectingOn [fullBlock]) cart) := by
  refine ⟨?_, ?_, ?_, ?_⟩
  · unfold QueueLists; decide +kernel
  · unfold PoolOk; decide +kernel
  · intro c h
    cases h
    decide +kernel
  · intro h
    exact absurd h (by decide +kernel)

/-- A difference at position 63, with fault count 0 and 1, of the title slot and of the clock slot, and in phase 4. -/
theorem test_hyps_ReadBackMismatchStopsTheCopy :
    let s := copying .readBack (.staged 0) sevens (collectingOn [fullBlock]) cart
    let bus := sevens.set 63 0#8
    (s.port.burst = some (.commit ⟨.readBack, 0, sevens⟩)
      ∧ s.save.copy = some ⟨.title, .staged 0, .readBack, 0, 0, List.replicate 64 0, sevens⟩
      ∧ s.save.kept.title.target < 24 ∧ s.supply.phase ≠ 4 ∧ s.save.kept.queue = []
      ∧ (∀ i, i < 63 → sevens[i]? = (burstBytes s.sram 0 64 bus)[i]?) ∧ sevens.length = 64
      ∧ sevens[63]? ≠ (burstBytes s.sram 0 64 bus)[63]?)
    ∧ s.save.kept.title.faults = 0
    ∧ (copying .readBack (.staged 0) sevens heldTitle cart).save.kept.title.faults ≠ 0
    ∧ (let u := clockCopying (copying .readBack (.staged 0) sevens heldTitle cart)
       let v := { u with save := { u.save with copy := some ⟨.clock, .staged 0, .readBack, 0, 0, [], sevens⟩ } }
       v.port.burst = some (.commit ⟨.readBack, 0, sevens⟩)
        ∧ v.save.copy = some ⟨.clock, .staged 0, .readBack, 0, 0, [], sevens⟩
        ∧ (slotAt v .clock).target < 24 ∧ (slotAt v .clock).faults = 0 ∧ v.days.inService = true
        ∧ (slotAt (setSlot .clock { slotAt v .clock with faults := 1 } v) .clock).faults ≠ 0)
    ∧ ({ s with supply := { phase := 4 } } : State).supply.phase = 4 := by
  intro s bus; and_intros <;> decide +kernel

theorem test_hyps_RunningCheckFollowsTheBlock : (0xFFFF : Nat) ≤ 0xFFFF := by decide

theorem test_hyps_OnlyBlockWritesChangeSram :
    ∃ t, exec (.supplyOff 2499) (withBurst (.commit ⟨.write, 0, sevens⟩) (withSupply .warn cart)) = .next t := ⟨_, rfl⟩

theorem test_hyps_MemoryAndJournalInvariant :
    (Memory.wf State.reset.rom = true ∧ Memory.wf State.reset.sram = true)
    ∧ ∃ t, step { State.reset with pending := [.cellMeasurementCompletion 3990] } = .next t :=
  ⟨by decide, _, rfl⟩

/-! ### Locks -/

/-- A password set through the alias, unless frozen, LOCKED, in a transaction, or at a lock level of 2. -/
theorem test_hyps_PasswordsAreStored :
    (pwP.length = 8 ∧ Takes .lockSet (rq 1 (1#8 :: (pwP ++ [1#8]))) cart
      ∧ resolveLock cart 1 1 true = .window ⟨1, 1, 1, .sram, 0, 0x4000, 0, true⟩
      ∧ resolveLock cart 2 1 true = .refused .denied)
    ∧ ((recordAt lockedCart 1).lock = .locked ∧ (withTitle (collectingOn []) cart).save.kept.title.state ≠ .free
      ∧ (withTitle (collectingOn []) cart).save.kept.title.target = 1 ∧ 1 < (2#8).toNat)
    ∧ (Takes .masterSet (rq 0 pwM) cart ∧ Takes .lockFreeze (rq 0 []) cart) := by
  unfold Takes; and_intros <;> decide +kernel

/-- Region 1 open under P, with one try left, and with none. -/
def lastTry : State := setTries 1 1 (withRecord { state := .valid, lock := .opened, password := some pwP } cart)

theorem test_hyps_LockRequestsCheckThePassword :
    (Takes .lockOpen (rq 2 (4#8 :: 0#8 :: pwP)) lockedCart
      ∧ resolveLock lockedCart 4 2 false = .window ⟨4, 2, 1, .sram, 0x3000, 0x1000, 0x3000, true⟩
      ∧ resolveLock lockedCart 0 2 false = .refused .denied
      ∧ resolveLock lockedCart 0 1 false = .refused .wrongKind)
    ∧ ((recordAt lockedCart 1).lock = .locked ∧ (recordAt lockedCart 1).lockLevel = .high ∧ triesAt lockedCart 1 = 5)
    ∧ (Takes .lockClear (rq 1 (1#8 :: pwQ)) lastTry
      ∧ resolveLock lastTry 1 1 true = .window ⟨1, 1, 1, .sram, 0, 0x4000, 0, true⟩
      ∧ resolveLock lastTry 5 1 true = .refused .wrongKind)
    ∧ ((recordAt lastTry 1).lock = .opened ∧ (recordAt lastTry 1).password = some pwP ∧ triesAt lastTry 1 = 1) := by
  unfold Takes; and_intros <;> decide +kernel

/-- With the arm of exactly its selector and level. -/
def armed (s : State) : State := { s with link := { latch := some ⟨1, 1⟩ } }

theorem test_hyps_EraseNeedsItsArm :
    (Takes .eraseArm (rq 1 [1]) cart ∧ resolveLock cart 1 1 true = .window ⟨1, 1, 1, .sram, 0, 0x4000, 0, true⟩
      ∧ resolveLock cart 3 1 true = .refused .noEntry)
    ∧ (Takes .erase (rq 1 (1#8 :: 1#8 :: pwM)) (armed cart) ∧ (armed cart).link.latch = some ⟨(1#8).toNat, (1#8).toNat⟩
      ∧ (armed cart).save.frozen = false ∧ (armed cart).save.kept.title.state = .free
      ∧ (armed cart).supply.state ≠ .warn ∧ (recordAt (armed cart) 1).lock ≠ .locked)
    ∧ cart.link.latch ≠ some ⟨(1#8).toNat, (1#8).toNat⟩
    ∧ ({ armed cart with save := { cart.save with frozen := true } } : State).save.frozen = true
    ∧ (armed (withTitle heldTitle cart)).save.kept.title.state ≠ .free
    ∧ (Takes .erase (rq 1 (1#8 :: 1#8 :: pwM)) (armed (withSupply .warn cart))
      ∧ (armed (withSupply .warn cart)).supply.state = .warn)
    ∧ (Takes .erase (rq 1 (1#8 :: 0#8 :: pwP)) (armed lockedCart)
      ∧ resolveLock (armed lockedCart) 1 1 true = .window ⟨1, 1, 1, .sram, 0, 0x4000, 0, true⟩
      ∧ (recordAt (armed lockedCart) 1).lock = .locked ∧ triesAt (setTries 1 0 (armed lockedCart)) 1 = 0
      ∧ triesAt (armed lockedCart) 1 ≠ 0 ∧ 1 < (2#8).toNat
      ∧ (recordAt (armed lockedCart) 1).password ≠ some pwQ ∧ (recordAt (armed lockedCart) 1).password = some pwP) := by
  unfold Takes; and_intros <;> decide +kernel

/-! ### The calendar -/

/-- The first and the last day, and a leap day; day 36525. -/
theorem test_hyps_DatesConvertBothWays :
    validDate 2000 1 1 = true ∧ validDate 2099 12 31 = true ∧ validDate 2096 2 29 = true
    ∧ Takes .dayToDate (rq 2 [0xAD, 0x8E]) cart ∧ Takes .dateToDay (rq 2 [0x33, 8, 12, 31]) cart
    ∧ (Takes .clockRead (rq 2 []) cart ∧ cart.clock.state = .valid) := by
  unfold Takes; and_intros <;> decide +kernel

theorem test_hyps_ClockSetAndTrim :
    (Takes .clockSet (rq 0 [0, 0xAC, 0x8E, 0x7F, 0x51, 1, 0, 0]) cart
      ∧ leNat [0xAC#8, 0x8E#8] ≤ 36524 ∧ leNat [0x7F#8, 0x51#8, 1#8, 0#8] ≤ 86399
      ∧ 32 ≤ ({ cart with clock := { cart.clock with divider := 32 } } : State).clock.divider ∧ cart.clock.divider < 32
      ∧ 36524 < leNat [0xAD#8, 0x8E#8] ∧ 86399 < leNat [0x80#8, 0x51#8, 1#8, 0#8])
    ∧ (Takes .clockSet (rq 0 [1, 0x33, 8, 12, 31, 23, 59, 59]) cart
      ∧ validDate (leNat [0x33#8, 8#8]) (12#8).toNat (31#8).toNat = true ∧ (23#8).toNat ≤ 23 ∧ (59#8).toNat ≤ 59
      ∧ validDate (leNat [0xE7#8, 7#8]) (2#8).toNat (29#8).toNat = false ∧ 23 < (24#8).toNat)
    ∧ (Takes .clockSet (rq 0 [2, 0, 0, 0, 0, 0, 0, 0]) cart ∧ 1 < (2#8).toNat)
    ∧ (Takes .clockTrim (rq 0 [0x7F, 0]) cart ∧ ((0#8 ++ 0x7F#8 : BitVec 16).toInt ≤ 127)
      ∧ 127 < (0#8 ++ 0x80#8 : BitVec 16).toInt ∧ (0xFF#8 ++ 0x80#8 : BitVec 16).toInt < -127
      ∧ (0xFF#8 ++ 0x81#8 : BitVec 16).toInt = -127) := by
  unfold Takes; and_intros <;> decide +kernel

/-- The clock just before a carry, at the frame of its tick. -/
def atCarry (second day : Nat) (s : State) : State :=
  { s with clock := { s.clock with subsecond := 1023, second := second, day := day, divider := 32 } }

/-- A tick not yet due, late and early, and one due; an UNSET clock; below the carry; a carry that is no day turn, one
that is a minute boundary while the turn second is out of reach, one in phase 7; and the end of range. -/
theorem test_hyps_TicksAdvanceTheClock :
    (State.reset.clock.divider < (if State.reset.clock.adjust = 0 then 32 else if State.reset.clock.early = true then 31 else 33)
      ∧ (32 : Nat) < (if (1 : Nat) = 0 then 32 else if false = true then 31 else 33)
      ∧ (30 : Nat) < (if (1 : Nat) = 0 then 32 else if true = true then 31 else 33))
    ∧ (State.reset.clock.state = .unset ∧ (atCarry 0 0 State.reset).clock.adjust = 0
      ∧ 32 ≤ (atCarry 0 0 State.reset).clock.divider)
    ∧ ({ cart with clock := { cart.clock with subsecond := 1022, divider := 32 } } : State).clock.subsecond < 1023
    ∧ ((atCarry 100 36524 cart).clock.state = .valid ∧ (101 : Nat) ≠ turnSecond (atCarry 100 36524 cart)
      ∧ (36524 : Nat) ≤ 36524 ∧ ¬ 101 % 60 = 0)
    ∧ ((atCarry 86399 36523 (withSupply .off cart)).supply.state = .off ∧ (36523 + 1 : Nat) ≤ 36524 ∧ 0 % 60 = 0)
    ∧ (let s := atCarry 14399 0 { cart with supply := { phase := 7 }, days := {} }
     (14400 : Nat) ≠ turnSecond s ∧ s.days.inService = false ∧ hasDays s = true ∧ s.supply.phase ≠ 8)
    ∧ ((atCarry 86399 36524 cart).clock.state = .valid ∧ (atCarry 86399 36524 cart).clock.day = 36524
      ∧ (atCarry 86399 36524 cart).supply.state ≠ .off
      ∧ (atCarry 86399 36524 (withSupply .off cart)).supply.state = .off) := by
  and_intros <;> decide +kernel

theorem test_hyps_DayTurnIsHandedOn :
    let s := atCarry 86399 36523 { cart with save := { cart.save with kept := { cart.save.kept with
      clock := { state := .pending, held := true, target := 2, length := 64, order := 1, blocks := [fullBlock] } } } }
    s.clock.state = .valid ∧ s.clock.subsecond = 1023 ∧ s.supply.phase = 8 ∧ s.supply.state ≠ .off
    ∧ s.clock.adjust = 0 ∧ 32 ≤ s.clock.divider ∧ s.clock.day < 36524 ∧ 0 = turnSecond s ∧ s.save.kept.clock.state = .pending ∧ s.save.kept.clock.held = true := by
  intro s; and_intros <;> decide +kernel

/-- Not in service; no high day; below, at, and above the high day, with and without a counter that comes due. -/
theorem test_hyps_CatchUpFollowsTheHighDay :
    State.reset.days.inService = false
    ∧ (cart.clock.state = .valid ∧ cart.days.inService = true ∧ cart.days.turnSecond ≤ cart.clock.second)
    ∧ ({ cart with days := { inService := true } } : State).days.highDay = none
    ∧ (cart.days.highDay = some 9000 ∧ (9000 : Int) < 9001 ∧ (9001 : Int) = 9000 + (1 : Nat))
    ∧ (∀ i, i < 8 → (counterOf cart.days.counters i).state = .armed → 1 < (counterOf cart.days.counters i).remaining)
    ∧ (∃ i, i < 8 ∧ (counterOf exampleCounters i).state = .armed ∧ (counterOf exampleCounters i).remaining ≤ 3) := by
  refine ⟨by decide +kernel, by decide +kernel, by decide +kernel, by decide +kernel, by decide +kernel, 1, ?_⟩
  decide +kernel

/-- A one-shot and a repeating counter at remaining 65535 and 1, before and at their due. -/
theorem test_hyps_CountersAdvanceAsDaysPass :
    (counterLoads ⟨.armed, 65535, 0, 255⟩ = true ∧ (65534 : Nat) < 65535)
    ∧ (counterLoads ⟨.armed, 1, 0, 0⟩ = true ∧ (1 : Nat) ≤ 1)
    ∧ (counterLoads ⟨.armed, 65535, 65535, 255⟩ = true ∧ (65535 : Nat) ≠ 0)
    ∧ counterLoads ⟨.due, 0, 0, 1⟩ = true ∧ counterLoads {} = true := by
  and_intros <;> decide +kernel

theorem test_hyps_CounterRequestsChangeTheirCounter :
    (Takes .counterArm (rq 1 [7, 0xFF, 0xFF, 0xFF, 0xFF]) cart ∧ hasDays cart = true ∧ (7#8).toNat ≤ 7
      ∧ cart.days.inService = true)
    ∧ (Takes .counterArm (rq 1 [8, 0, 0, 0, 0]) cart ∧ 7 < (8#8).toNat)
    ∧ (Takes .counterArm (rq 1 [0, 0, 0, 0, 0]) plain ∧ hasDays plain = false)
    ∧ Takes .counterDisarm (rq 1 [7]) cart ∧ Takes .counterAck (rq 1 [7]) cart
    ∧ Takes .counterDisarm (rq 1 [8]) cart ∧ Takes .counterAck (rq 1 [0]) plain
    ∧ ((counterOf cart.days.counters 7).passes = 0 ∧ (counterOf cart.days.counters 7).state ≠ .due
      ∧ cart.days.dirty = false) := by
  unfold Takes; and_intros <;> decide +kernel

theorem test_hyps_DaysConfigAndDayTest :
    (Takes .daysConfig (rq 1 [0x7F, 0x51, 1, 0]) cart ∧ hasDays cart = true ∧ leNat [0x7F#8, 0x51#8, 1#8, 0#8] ≤ 86399
      ∧ 86399 < leNat [0x80#8, 0x51#8, 1#8, 0#8])
    ∧ (Takes .daysConfig (rq 1 [0, 0, 0, 0]) plain ∧ hasDays plain = false)
    ∧ (Takes .dayTest (rq 2 [0, 0xAC, 0x8E, 0, 0, 15, 1]) cart ∧ leNat [0xAC#8, 0x8E#8] ≤ 36524 ∧ (15#8).toNat ≤ 15
      ∧ 36524 < leNat [0xAD#8, 0x8E#8] ∧ 15 < (16#8).toNat ∧ 1 < (2#8).toNat)
    ∧ (Takes .dayTest (rq 2 [1, 0x33, 8, 12, 31, 0, 0]) cart ∧ validDate (leNat [0x33#8, 8#8]) 12 31 = true)
    ∧ (turnSecond cart ≤ cart.clock.second ∧ cart.clock.state ≠ .unset)
    ∧ (Takes .dayTest (rq 2 [0, 0, 0, 0, 0, 8, 1]) { cart with clock := {} }
      ∧ ({ cart with clock := {} } : State).clock.state = .unset) := by
  unfold Takes; and_intros <;> decide +kernel

/-- The greatest turn second, the least high day, and counters at their bounds; a fill, with each of its conditions, and
each of them failing. -/
theorem test_hyps_DayBlockRoundTrips :
    let d : Days := { turnSecond := 86399, highDay := some (-1)
                      counters := (Vector.replicate 8 {}).setIfInBounds 7 ⟨.armed, 65535, 65535, 255⟩ }
    let s : State := { cart with days := { d with inService := true, dirty := true } }
    (d.turnSecond ≤ 86399 ∧ d.highDay = some (-1))
    ∧ (∀ i, i < 8 → counterLoads (counterOf d.counters i) = true
        ∧ (counterOf d.counters i).remaining ≤ 65535 ∧ (counterOf d.counters i).period ≤ 65535)
    ∧ (s.days.inService = true ∧ s.days.dirty = true ∧ s.save.kept.clock.state = .free ∧ s.supply.state ≠ .warn
      ∧ s.supply.state ≠ .off ∧ daysRegion s = some 2)
    ∧ (State.reset.days.inService = false ∧ cart.days.dirty = false ∧ (clockCopying s).save.kept.clock.state ≠ .free
      ∧ (withSupply .warn s).supply.state = .warn ∧ (withSupply .off s).supply.state = .off ∧ daysRegion plain = none) := by
  intro d s; and_intros <;> decide +kernel

/-- `ClockOk` and `DaysOk` at the end of the range, and a step. -/
theorem test_hyps_CalendarInvariant :
    ClockOk (atCarry 86399 36524 cart).clock ∧ DaysOk (atCarry 86399 36524 cart).days
    ∧ ∃ t, step { atCarry 86399 36524 cart with pending := [.endOfRange] } = .next t := by
  refine ⟨by unfold ClockOk; decide +kernel, ⟨by decide +kernel, fun h e => ?_, by decide +kernel⟩, _, rfl⟩
  cases e
  decide

/-! ### Voices -/

theorem test_hyps_VoiceSettingsAreClamped :
    Takes .voicePitch (rq 2 [7, 0, 0]) cart ∧ Takes .voiceLevel (rq 2 [8, 0xFF, 0xFF]) cart
    ∧ Takes .voiceRamp (rq 2 [0, 0, 0, 0, 0]) cart := by
  unfold Takes; and_intros <;> decide +kernel

/-- The cartridge with voice 7 keyed. -/
def voice7 (v : Voice) : State := { cart with voices := cart.voices.setIfInBounds 7 v }

/-- PCM16 over the whole of selector 5's window, and one sample more; a busy voice; a generated format whose end does
not lie beyond its start; voice 8, format 4 and looping 2. -/
theorem test_hyps_VoiceSetupChecksInOrder :
    (Takes .voiceSetup (rq 2 [7, 1, 5, 0xFF, 0x3F, 0, 0, 0, 0, 0, 0x40, 0, 1, 0]) cart
      ∧ leNat [0xFF#8, 0x3F#8, 0#8] = 16383 ∧ leNat [0#8, 0x40#8, 0#8] = 16384
      ∧ resolve cart 5 2 kindSample false .none
          (fun w => decide (16383 < 16384 ∧ 0 < 16384 ∧ 16384 * (if (1#8) = 0#8 then 1 else 2) ≤ w.length))
          = .window ⟨5, 2, 0, .rom, 0x30000, 0x8000, 0x20000, false⟩
      ∧ resolve cart 5 2 kindSample false .none
          (fun w => decide (16383 < 16385 ∧ 0 < 16385 ∧ 16385 * (if (1#8) = 0#8 then 1 else 2) ≤ w.length))
          = .refused .outOfBounds)
    ∧ ((voiceAt (voice7 loopVoice) 7).state ≠ .idle ∧ (voiceAt cart 7).state = .idle)
    ∧ ((withBurst (.refill 7 0x30014 4 false) cart).port.burst = some (.refill (7#8).toNat 0x30014 4 false))
    ∧ ((2#8).toNat = 2 ∧ (8 : Nat) ≤ 8) ∧ (1 < (2#8).toNat ∧ 3 < (4#8).toNat ∧ 7 < (8#8).toNat) := by
  unfold Takes; and_intros <;> decide +kernel

theorem test_hyps_KeysStartAndStopVoices :
    (Takes .voiceKeyOn (rq 2 [7]) (voice7 loopVoice) ∧ (7#8).toNat ≤ 7 ∧ 7 < (8#8).toNat)
    ∧ Takes .voiceKeyOff (rq 2 [7, 0xFF, 0xFF]) (voice7 loopVoice)
    ∧ (Takes .voiceStop (rq 2 [7]) (voice7 loopVoice) ∧ (voiceAt (voice7 loopVoice) 7).state ≠ .idle)
    ∧ (Takes .voiceStop (rq 2 [7]) cart ∧ (voiceAt cart 7).state = .idle)
    ∧ (withBurst (.refill 7 0x30014 4 false) (voice7 loopVoice)).port.burst = some (.refill 7 0x30014 4 false) := by
  unfold Takes; and_intros <;> decide +kernel

/-- Voices below, above and at their targets; a release of 65 and of 64 by steps of 64. -/
theorem test_hyps_EnvelopesMoveAndRefillsArrive :
    ((withSupply .warn cart).supply.state = .warn ∧ (withSupply .off cart).supply.state = .off
      ∧ cart.supply.state ≠ .off ∧ cart.supply.state ≠ .warn)
    ∧ ((voiceAt (voice7 { loopVoice with e := 1022 }) 7).e < 1023 ∧ (1022 : Nat) < 1023
      ∧ (voiceAt (voice7 loopVoice) 7).e = (voiceAt (voice7 loopVoice) 7).target)
    ∧ ((64 : Nat) < 65 ∧ (64 : Nat) ≤ 64
      ∧ (voiceAt (voice7 { state := .releasing, e := 64 }) 7).e
          ≤ (voiceAt (voice7 { state := .releasing, e := 64 }) 7).releaseStep)
    ∧ (withBurst (.refill 7 0x30014 4 false) (voice7 loopVoice)).port.burst = some (.refill 7 0x30014 4 false)
    ∧ ((withBurst (.refill 7 0x30014 4 false) (voice7 { state := .releasing, e := 64, releaseStep := 64 })).port.burst
        = some (.refill 7 0x30014 4 false)
      ∧ (voiceAt (voice7 { state := .releasing, e := 64, releaseStep := 64 }) 7).e ≤ 64)
    ∧ (withBurst (.refill 7 0x30014 4 true) cart).port.burst = some (.refill 7 0x30014 4 true)
    ∧ cart.port.burst = none := by
  and_intros <;> decide +kernel

/-- Voice 7 playing in its window, with its whole run consumed; it waits for a refill. -/
def hungry : State := postRefills (voice7 { loopVoice with run := [], runOffset := 0 })

theorem hungry_voices : VoicesOk hungry :=
  ⟨by unfold VoiceOk; decide +kernel, by unfold RefillsCurrent; decide +kernel, trivial⟩

/-- A voice other than 7 generates its samples, and voice 7's end, 24, and index lie in its window. -/
theorem hungry_windows : WindowsOk hungry := by
  refine ⟨fun n hn h => ?_, trivial⟩
  have hp : ∀ n, n < 8 → n = 7 ∨ isPcm (voiceAt hungry n).format = false := by decide +kernel
  obtain rfl | hf := hp n hn
  · exact ⟨0x30000, 0x8000, by decide +kernel⟩
  · rw [hf] at h; cases h

/-- A refill in progress for voice 7, to its end boundary; and a step. -/
theorem test_hyps_VoicesInvariant :
    (VoicesOk hungry ∧ WindowsOk hungry ∧ hungry.port.starvation ≤ 4)
    ∧ (VoicesOk (withBurst (.refill 7 0x30014 4 false) hungry) ∧ WindowsOk (withBurst (.refill 7 0x30014 4 false) hungry))
    ∧ ∃ t, step { hungry with pending := [.frame] } = .next t :=
  ⟨⟨hungry_voices, hungry_windows, by decide +kernel⟩,
    ⟨⟨hungry_voices.1, by unfold RefillsCurrent; decide +kernel, by decide +kernel, by decide +kernel, by decide⟩,
      hungry_windows.1, by decide, 0x30000, 0x8000, by decide +kernel⟩, _, rfl⟩

/-- One case of each class: WARN; the forced grant; the lowest urgent voice, with and without a read that waits; a read
whose urgent rivals have passed; a commit step, a scan step, the first ordinary voice after the mark, a directory burst; and
what is chosen then. -/
theorem test_hyps_GrantsFollowTheClasses :
    inWarn (withSupply .warn cart) = true
    ∧ (inWarn (heavy [3] [] { starvation := 4 }) = false ∧ 4 ≤ (heavy [3] [] { starvation := 4 }).port.starvation
      ∧ (heavy [3] [] { starvation := 4 }).port.commit = some ⟨.read, 0, []⟩)
    ∧ (let s := heavy [0, 3] [5] { starvation := 3, linkRead := some ⟨0, 60, 1⟩, passed := [0] }
     3 ∈ s.port.refills ∧ bytesAhead (voiceAt s 3) < 2 ∧ 3 ∉ s.port.passed
      ∧ (∀ m, m < 3 → m ∈ s.port.refills → bytesAhead (voiceAt s m) < 2 → m ∈ s.port.passed))
    ∧ (let s := heavy [0, 3] [5] { linkRead := some ⟨0, 60, 1⟩, passed := [3, 0] }
     ∀ n, n < 8 → n ∈ s.port.refills → bytesAhead (voiceAt s n) < 2 → n ∈ s.port.passed)
    ∧ (let s := heavy [] [5] {}
     s.port.linkRead = none ∧ ∀ n, n < 8 → n ∈ s.port.refills → 2 ≤ bytesAhead (voiceAt s n))
    ∧ (5 = (4 + 1 + 0) % 8 ∧ 3 = (4 + 1 + 6) % 8 ∧ ∀ j, j < 6 → (4 + 1 + j) % 8 ∉ [3])
    ∧ (∀ n, n < 8 → n ∉ cart.port.refills)
    ∧ (chooseGrant cart = none ∧ cart.port.burst = none ∧ chooseGrant hungry = some (.refill 7) ∧ hungry.port.burst = none
      ∧ chooseGrant (heavy [3] [] { starvation := 4 }) = some (.commit ⟨.read, 0, []⟩)
      ∧ chooseGrant { cart with port := { linkRead := some ⟨0, 60, 1⟩ } } = some (.linkRead ⟨0, 60, 1⟩)
      ∧ chooseGrant { cart with port := { scan := some 64 } } = some (.scan 64)
      ∧ chooseGrant { cart with port := { directory := some 16 } } = some (.directory 16))
    ∧ VoicesOk hungry ∧ WindowsOk hungry := by
  refine ⟨by decide +kernel, by decide +kernel, by decide +kernel, by decide +kernel, by decide +kernel,
    by decide +kernel, by decide +kernel, by decide +kernel, hungry_voices, hungry_windows⟩

/-! ### The mixer -/

theorem test_hyps_MixRequestsChangeTheSettings :
    (Takes .mixConfig (rq 2 [0, 1, 3, 1]) cart ∧ (3#8).toNat ≤ 3 ∧ (1#8).toNat ≤ 1 ∧ 3 < (4#8).toNat ∧ 1 < (2#8).toNat)
    ∧ (Takes .mixFlags (rq 2 [0xFF, 0xFF]) cart ∧ (15#8).toNat = (15#4).toNat ∧ 15 < (16#8).toNat ∧ 16#8 ≠ 0xFF#8) := by
  unfold Takes; and_intros <;> decide +kernel

/-- A half, either way: 2^31 over 2^32. -/
theorem test_hyps_RoundingAndSaturation :
    2 * (2147483648 - roundQuotient .nearest 2147483648 * 4294967296) = 4294967296
    ∧ 2 * (-2147483648 - roundQuotient .nearest (-2147483648) * 4294967296) = -4294967296
    ∧ (0 : Int) ≤ 0 ∧ (32767 : Int) < 32768 ∧ (-32769 : Int) < -32768 := by
  and_intros <;> decide +kernel

/-- A voice that plays on, one that loops and one that ends; sums 0; a voice that starves; each format's sample. -/
theorem test_hyps_FramesStepVoicesAndMix :
    (cart.supply.state ≠ .off ∧ cart.supply.state ≠ .warn ∧ (withSupply .warn cart).supply.state = .warn)
    ∧ ((voiceAt (voice7 loopVoice) 7).state ≠ .idle ∧ loopVoice.priming = false
      ∧ (loopVoice.fraction + loopVoice.rate) / 4096 = 2 ∧ loopVoice.endPos ≤ loopVoice.index + 2 ∧ loopVoice.looping = true)
    ∧ (20 + 2 < loopVoice.endPos) ∧ ({ loopVoice with looping := false } : Voice).looping = false
    ∧ (voiceAt (voice7 { loopVoice with priming := true }) 7).priming = true
    ∧ ((withBurst (.refill 7 0x30014 4 false) (voice7 { loopVoice with looping := false })).port.burst
        = some (.refill 7 0x30014 4 false) ∧ frameEnds { loopVoice with looping := false } = true)
    ∧ (∀ n, n < 8 → frameEnds (voiceAt (voice7 loopVoice) n) = false)
    ∧ ((cart.mixer.flags &&& ~~~cart.mixer.flags &&& enabledFlags cart.mixer.enables) = 0#8)
    ∧ (loopVoice.format = .pcm8 ∧ loopVoice.run[6]? = some (0x30016, 22#8) ∧ loopVoice.runOffset = 6)
    ∧ ((mixVoice 12000#16 1 1 1).format = .pcm16 ∧ (mixVoice 12000#16 1 1 1).run[1]? = some (1, 0x2E#8))
    ∧ ({ loopVoice with run := [], runOffset := 0 } : Voice).run.length ≤ 0
    ∧ ({ loopVoice with format := .pulse } : Voice).format = .pulse
    ∧ ({ loopVoice with format := .noise } : Voice).format = .noise := by
  and_intros <;> decide +kernel

/-! ### Rumble -/

/-- Sixteen steps for pattern 15, one more, and a held pattern; both scopes of CANCEL, with and without entries. -/
theorem test_hyps_RumbleRequestsSetTheDriver :
    (Takes .rumbleDefine (rq 2 (15#8 :: List.replicate 48 0)) cart
      ∧ ((List.replicate 16 ((0 : Byte), (0 : Byte), (0 : Byte))).map (fun x => [x.1, x.2.1, x.2.2])).flatten
          = List.replicate 48 0
      ∧ Takes .rumbleDefine (rq 2 (0#8 :: List.replicate 51 0)) cart ∧ 15 < (16#8).toNat)
    ∧ (¬ ∃ x, (cart.rumble.current = some x ∨ x ∈ cart.rumble.waiting) ∧ x.pattern = 15)
    ∧ (Takes .rumbleCancel (rq 2 [0]) (withRumble fullPlayer cart)
      ∧ (withRumble fullPlayer cart).rumble.waiting
          = ⟨1, 1, 2, 1, 0, 0⟩ :: [⟨1, 1, 1, 4, 0, 0⟩, ⟨1, 0, 1, 2, 0, 0⟩, ⟨2, 0, 1, 3, 0, 0⟩])
    ∧ (cart.rumble.current = none ∧ cart.rumble.waiting = [] ∧ 1 < (2#8).toNat)
    ∧ Takes .rumbleFollow (rq 2 [1, 7, 0xFF]) cart ∧ Takes .rumbleFollow (rq 2 [1, 8, 0]) (withSupply .warn cart)
    ∧ Takes .rumbleHold (rq 2 [0, 1]) cart := by
  unfold Takes
  refine ⟨by decide +kernel, ?_, by decide +kernel, by decide +kernel, by decide +kernel, by decide +kernel,
    by decide +kernel⟩
  rintro ⟨x, h | h, -⟩ <;> cases h

/-- The last pattern and the highest priority; an empty player; each placement, at a list of 3 and of 4. -/
theorem test_hyps_RumblePlayPlacesTheEntry :
    let three := { fullPlayer with waiting := fullPlayer.waiting.take 3 }
    (Takes .rumblePlay (rq 2 [3, 3, 0]) (withRumble fullPlayer cart) ∧ (3#8).toNat ≤ 3 ∧ patternAt fullPlayer 3 ≠ []
      ∧ (withRumble fullPlayer cart).rumble.current = some ⟨2, 1, 0, 0, 0, 10⟩)
    ∧ (15 < (16#8).toNat ∧ 3 < (4#8).toNat ∧ patternAt fullPlayer 15 = [] ∧ cart.rumble.current = none)
    ∧ (three.waiting.length < 4
      ∧ three.waiting = [⟨1, 1, 2, 1, 0, 0⟩, ⟨1, 1, 1, 4, 0, 0⟩] ++ [⟨1, 0, 1, 2, 0, 0⟩]
      ∧ (∀ y ∈ [(⟨1, 1, 2, 1, 0, 0⟩ : PlayerEntry), ⟨1, 1, 1, 4, 0, 0⟩], 1 ≤ y.priority)
      ∧ (∀ y, [(⟨1, 0, 1, 2, 0, 0⟩ : PlayerEntry)].head? = some y → y.priority < 1))
    ∧ (fullPlayer.waiting = three.waiting ++ [⟨2, 0, 1, 3, 0, 0⟩] ∧ three.waiting.length = 3)
    ∧ (withSupply .warn cart).supply.state = .warn := by
  intro three
  refine ⟨by unfold Takes; decide +kernel, by decide +kernel, ⟨by decide +kernel, by decide +kernel, by decide +kernel, ?_⟩,
    by decide +kernel, by decide +kernel⟩
  intro y h
  cases h
  decide

/-- A heat tick, a timer at 1 and at 2, an entry with 2 ticks left, and with 1 at a step before the last, at the last of
more plays, and at the last of the last play. -/
theorem test_hyps_TicksDriveTheMotor :
    ((withSupply .off cart).supply.state = .off ∧ cart.supply.state ≠ .off)
    ∧ ((withRumble { fullPlayer with heatCount := 15 } cart).rumble.heatCount = 15 ∧ fullPlayer.heatCount ≠ 15)
    ∧ ({ fullPlayer with timer := some 1 } : Rumble).timer = some 1 ∧ (1 : Nat) ≤ 1 ∧ (1 : Nat) < 2
    ∧ (∀ x, ({ fullPlayer with current := some ⟨2, 1, 3, 0, 0, 1⟩ } : Rumble).current = some x →
        x.ticksLeft = 1 ∧ x.stepIndex + 1 < (patternAt fullPlayer x.pattern).length)
    ∧ (∀ x, ({ fullPlayer with current := some ⟨2, 1, 3, 0, 1, 1⟩ } : Rumble).current = some x →
        (patternAt fullPlayer x.pattern).length ≤ x.stepIndex + 1 ∧ x.playsLeft ≠ 1)
    ∧ (∀ x, ({ fullPlayer with current := some ⟨3, 1, 1, 0, 0, 1⟩ } : Rumble).current = some x →
        (patternAt fullPlayer x.pattern).length ≤ x.stepIndex + 1 ∧ x.playsLeft = 1) := by
  refine ⟨by decide +kernel, by decide +kernel, rfl, by decide, by decide, ?_, ?_, ?_⟩ <;>
    (intro x h; cases h; decide +kernel)

theorem test_hyps_RumbleInvariant :
    RumbleCurrent cart ∧ PlayerOk { fullPlayer with waiting := fullPlayer.waiting.take 1 }
    ∧ ∃ t, step { cart with pending := [.rumbleTick] } = .next t := by
  refine ⟨by unfold RumbleCurrent; decide +kernel, ⟨by decide +kernel, ?_, ?_⟩, _, rfl⟩
  · exact List.pairwise_singleton _ _
  · intro x h
    obtain rfl : x = ⟨1, 1, 2, 1, 0, 0⟩ := List.mem_singleton.mp h
    exact ⟨by decide, ⟨2, 1, 0, 0, 0, 10⟩, rfl, by decide⟩

/-! ### Supply and start-up -/

theorem test_hyps_SupplyFollowsVslot :
    ((withSupply .warn cart).supply.state = .warn ∧ (2500 : Nat) ≤ 2500 ∧ cart.supply.state = .normal ∧ (2800 : Nat) ≤ 2800)
    ∧ (State.reset.supply.state = .start ∧ (2500 : Nat) ≤ 2799 ∧ (2799 : Nat) < 2800) ∧ (2499 : Nat) < 2500
    ∧ ((∀ c, cart.port.burst = some (.commit c) → c.dir ≠ .write) ∧ cart.port.commit = none
      ∧ cart.save.kept.queue = []) := by
  refine ⟨by decide +kernel, by decide +kernel, by decide, ⟨fun c h => ?_, by decide +kernel, by decide +kernel⟩⟩
  cases h

/-- The supply in a state and phase, with the timers of a level. -/
def timed (st : SupplyState) (mv phase : Nat) : Supply :=
  { state := st, vslot := mv, phase := phase, timers := timersFor st mv phase }

/-- Each timer, running in the state it leaves, and none. -/
theorem test_hyps_TimedSupplyTransitions :
    ((timed .normal 2999 8).state = .normal ∧ (timed .normal 2999 8).timers.normalToLow = true)
    ∧ ((timed .low 3100 8).state = .low ∧ (timed .low 3100 8).timers.lowToNormal = true)
    ∧ ((timed .warn 2900 8).state = .warn ∧ (timed .warn 2900 8).timers.warnToLow = true)
    ∧ ((timed .warn 2900 6).state = .warn ∧ (timed .warn 2900 6).timers.warnToStart = true)
    ∧ ((timed .off 3000 1).state = .off ∧ (timed .off 3000 1).timers.offToStart = true) ∧ cart.supply.timers = {} := by
  and_intros <;> decide +kernel

theorem test_hyps_MeasurementsComplete :
    Takes .cellCheck (rq 2 []) cart
    ∧ (cart.supply.measuring = false ∧ cart.supply.state ≠ .off ∧ cart.supply.phase ≠ 1)
    ∧ (State.reset.supply.measuring = true ∧ State.reset.supply.phase = 1 ∧ State.reset.supply.state ≠ .off
      ∧ State.reset.save.kept.mark = false ∧ State.reset.days.inService = false)
    ∧ (({ State.reset with save := { kept := { mark := true } } } : State).save.kept.mark = true
      ∧ ({ State.reset with save := { kept := { mark := true } } } : State).days.inService = false)
    ∧ (ran (.cellCheck (rq 2 [])) cart).supply.measuring = true := by
  unfold Takes; and_intros <;> decide +kernel

/-- Phase 5 with region 1 UNCHECKED, and with none; a scan of region 2's one block, which is the DAYS region's, and of region 1's first and last. -/
theorem test_hyps_ScanJudgesTheRegions :
    let s := withRecord { state := .unchecked } { cart with supply := { phase := 5 } }
    (s.supply.state = .start ∧ s.supply.phase = 5 ∧ nextUnchecked s 0 = some 1)
    ∧ nextUnchecked { cart with supply := { phase := 5 } } 0 = none ∧ cart.supply.phase ≠ 5
    ∧ (64 * (0 + 1) < (entryAt s 1).length ∧ (entryAt s 1).length ≤ 64 * (255 + 1)
      ∧ (entryAt s 2).length ≤ 64 * (0 + 1) ∧ daysRegion s = some 2 ∧ daysRegion s ≠ some 1
      ∧ ({ s with days := {} } : State).days.inService = false)
    ∧ (nextUnchecked s (0 + 1) = some 1 ∧ nextUnchecked s (1 + 1) = none)
    ∧ (withBurst (.scan 0x3FC0) { s with save := { s.save with scan := some ⟨1, 255, 0⟩ } }).port.burst
        = some (.scan 0x3FC0) := by
  intro s; and_intros <;> decide +kernel

theorem test_hyps_DayBlockLoadMakesReady :
    (drawer.supply.phase = 7 ∧ drawer.supply.state = .start ∧ daysRegion drawer = some 2
      ∧ (recordAt drawer 2).state = .valid ∧ drawer.days.handed.bind loadDayBlock
          = some (14400, some 9000, exampleCounters)
      ∧ drawer.save.kept.clock.state = .free
      ∧ (catchUp { drawer with days := { inService := true, turnSecond := 14400, highDay := some 9000,
                                         counters := exampleCounters } }).days.dirty = true)
    ∧ daysRegion plain = none
    ∧ (recordAt (setRecord 2 { state := .damaged } drawer) 2).state ≠ .valid := by
  and_intros <;> decide +kernel

end Sys2Proof.Tests
end

section
/-! The advance of one day counter (R105): an equation for each case of the rule, the load checks it keeps, and two
advances in a row as one. -/

namespace Sys2Proof.Machine

/-! ## The cases of an advance -/

theorem advanceCounter_of_not_armed {c : Counter} (h : c.state ≠ .armed) (k : Nat) : advanceCounter k c = c := by
  simp only [advanceCounter, if_pos h]

section AdvanceArmed

variable {k r p : Nat} (n : Nat)

theorem advanceCounter_armed_of_lt (hk : k < r) :
    advanceCounter k ⟨.armed, r, p, n⟩ = ⟨.armed, r - k, p, n⟩ := by
  simp [advanceCounter, hk]

theorem advanceCounter_oneShot_of_le (hk : r ≤ k) :
    advanceCounter k ⟨.armed, r, 0, n⟩ = ⟨.due, 0, 0, min 255 (n + 1)⟩ := by
  simp [advanceCounter, hk.not_gt]

theorem advanceCounter_repeating_of_le (hk : r ≤ k) (hp : p ≠ 0) :
    advanceCounter k ⟨.armed, r, p, n⟩
      = ⟨.armed, p - (k - r) % p, p, min 255 (n + 1 + (k - r) / p)⟩ := by
  simp [advanceCounter, hk.not_gt, hp]

end AdvanceArmed

/-! ## The load checks of an ARMED counter, and what an advance keeps of them -/

theorem counterLoads_armed_iff {r p n : Nat} :
    counterLoads ⟨.armed, r, p, n⟩ = true ↔ n ≤ 255 ∧ 1 ≤ r ∧ (p = 0 ∨ r ≤ p) := by
  simp [counterLoads]

/-- A repeating counter stays ARMED, between 1 and its period. -/
theorem advanceCounter_repeating_bounds {r p n : Nat} (hc : counterLoads ⟨.armed, r, p, n⟩ = true) (hp : p ≠ 0)
    (k : Nat) :
    (advanceCounter k ⟨.armed, r, p, n⟩).state = .armed
      ∧ 1 ≤ (advanceCounter k ⟨.armed, r, p, n⟩).remaining
      ∧ (advanceCounter k ⟨.armed, r, p, n⟩).remaining ≤ p := by
  obtain ⟨-, -, hperiod⟩ := counterLoads_armed_iff.mp hc
  rcases Nat.lt_or_ge k r with hk | hk
  · rw [advanceCounter_armed_of_lt n hk]
    exact ⟨rfl, Nat.sub_pos_of_lt hk, (Nat.sub_le ..).trans (hperiod.resolve_left hp)⟩
  · have hmod : (k - r) % p < p := Nat.mod_lt _ (Nat.pos_of_ne_zero hp)
    rw [advanceCounter_repeating_of_le n hk hp]
    exact ⟨rfl, Nat.sub_pos_of_lt hmod, Nat.sub_le ..⟩

/-- A one-shot counter is DUE exactly when no day remains. -/
theorem advanceCounter_oneShot_due_iff (k r n : Nat) :
    (advanceCounter k ⟨.armed, r, 0, n⟩).state = .due ↔ (advanceCounter k ⟨.armed, r, 0, n⟩).remaining = 0 := by
  rcases Nat.lt_or_ge k r with hk | hk
  · simp [advanceCounter_armed_of_lt n hk, Nat.sub_ne_zero_of_lt hk]
  · simp [advanceCounter_oneShot_of_le n hk]

/-- A counter that R100 admits is still one after an advance. -/
theorem counterLoads_advanceCounter {c : Counter} (hc : counterLoads c = true) (k : Nat) :
    counterLoads (advanceCounter k c) = true := by
  match c with
  | ⟨.disarmed, _, _, _⟩ | ⟨.due, _, _, _⟩ => rwa [advanceCounter_of_not_armed (by simp)]
  | ⟨.armed, r, p, n⟩ =>
    obtain ⟨hpasses, -, hperiod⟩ := counterLoads_armed_iff.mp hc
    rcases Nat.lt_or_ge k r with hk | hk
    · rw [advanceCounter_armed_of_lt n hk]
      exact counterLoads_armed_iff.mpr ⟨hpasses, by omega, by omega⟩
    · by_cases hp : p = 0
      · subst hp
        simp [advanceCounter_oneShot_of_le n hk, counterLoads]
      · obtain ⟨-, hlow, hhigh⟩ := advanceCounter_repeating_bounds hc hp k
        rw [advanceCounter_repeating_of_le n hk hp] at hlow hhigh ⊢
        exact counterLoads_armed_iff.mpr ⟨Nat.min_le_left .., hlow, Or.inr hhigh⟩

/-! ## An overshoot in two parts

With `o` days counted in periods of `p`, `p - o % p` days of the present period remain. -/

section Overshoot

variable {o b p : Nat}

/-- `b` further days stay within the present period. -/
theorem overshoot_add_within (hb : b < p - o % p) : (o + b) / p = o / p ∧ (o + b) % p = o % p + b := by
  have hlt : o % p + b < p := by omega
  have hsum : o + b = (o % p + b) + p * (o / p) := by have := Nat.mod_add_div o p; omega
  rw [hsum, Nat.add_mul_div_left _ _ (by omega), Nat.add_mul_mod_self_left, Nat.div_eq_of_lt hlt,
    Nat.mod_eq_of_lt hlt]
  exact ⟨Nat.zero_add _, rfl⟩

/-- `b` further days complete the present period, and the rest of them is a new overshoot. -/
theorem overshoot_add_past (hp : p ≠ 0) (hb : p - o % p ≤ b) :
    (o + b) / p = o / p + 1 + (b - (p - o % p)) / p ∧ (o + b) % p = (b - (p - o % p)) % p := by
  have hpos : 0 < p := Nat.pos_of_ne_zero hp
  have hsum : o + b = (b - (p - o % p)) + p * (o / p + 1) := by
    have := Nat.mod_add_div o p
    have := Nat.mod_lt o hpos
    rw [Nat.mul_succ]; omega
  rw [hsum, Nat.add_mul_div_left _ _ hpos, Nat.add_mul_mod_self_left]
  exact ⟨Nat.add_comm _ _, rfl⟩

end Overshoot

/-! ## Two advances in a row -/

section TwoAdvances

variable {a r : Nat} (b p n : Nat)

/-- The counter does not come due in the first part. -/
theorem advanceCounter_advanceCounter_of_lt (ha : a < r) :
    advanceCounter b (advanceCounter a ⟨.armed, r, p, n⟩) = advanceCounter (a + b) ⟨.armed, r, p, n⟩ := by
  rw [advanceCounter_armed_of_lt n ha]
  rcases Nat.lt_or_ge (a + b) r with hab | hab
  · rw [advanceCounter_armed_of_lt n hab, advanceCounter_armed_of_lt n (by omega), Nat.sub_sub]
  · have hb : r - a ≤ b := by omega
    by_cases hp : p = 0
    · subst hp
      rw [advanceCounter_oneShot_of_le n hab, advanceCounter_oneShot_of_le n hb]
    · have hover : b - (r - a) = a + b - r := by omega
      rw [advanceCounter_repeating_of_le n hab hp, advanceCounter_repeating_of_le n hb hp, hover]

/-- A one-shot counter that comes due in the first part is not counted in the second. -/
theorem advanceCounter_advanceCounter_oneShot (ha : r ≤ a) :
    advanceCounter b (advanceCounter a ⟨.armed, r, 0, n⟩) = advanceCounter (a + b) ⟨.armed, r, 0, n⟩ := by
  rw [advanceCounter_oneShot_of_le n ha, advanceCounter_oneShot_of_le n (by omega),
    advanceCounter_of_not_armed (by simp)]

/-- A repeating counter that comes due in the first part carries its overshoot into the second. -/
theorem advanceCounter_advanceCounter_repeating {p : Nat} (ha : r ≤ a) (hp : p ≠ 0) :
    advanceCounter b (advanceCounter a ⟨.armed, r, p, n⟩) = advanceCounter (a + b) ⟨.armed, r, p, n⟩ := by
  have hover : a + b - r = a - r + b := by omega
  rw [advanceCounter_repeating_of_le n ha hp, advanceCounter_repeating_of_le n (by omega) hp, hover]
  rcases Nat.lt_or_ge b (p - (a - r) % p) with hb | hb
  · obtain ⟨hdiv, hmod⟩ := overshoot_add_within hb
    rw [advanceCounter_armed_of_lt _ hb, hdiv, hmod, Nat.sub_sub]
  · obtain ⟨hdiv, hmod⟩ := overshoot_add_past hp hb
    have hsat (x y z : Nat) : min 255 (min 255 (x + y) + 1 + z) = min 255 (x + (y + 1 + z)) := by omega
    rw [advanceCounter_repeating_of_le _ hb hp, hdiv, hmod, hsat]

end TwoAdvances

/-- R105: advancing by `a` and then by `b` is advancing once by `a + b`. -/
theorem advanceCounter_advanceCounter (a b : Nat) (c : Counter) :
    advanceCounter b (advanceCounter a c) = advanceCounter (a + b) c := by
  match c with
  | ⟨.disarmed, _, _, _⟩ | ⟨.due, _, _, _⟩ => rfl
  | ⟨.armed, r, p, n⟩ =>
    rcases Nat.lt_or_ge a r with ha | ha
    · exact advanceCounter_advanceCounter_of_lt b p n ha
    · by_cases hp : p = 0
      · subst hp
        exact advanceCounter_advanceCounter_oneShot b n ha
      · exact advanceCounter_advanceCounter_repeating b n ha hp

/-- Settles O37: the cases of R105, the checks of R100 kept, and two advances in a row as one. -/
theorem countersAdvanceAsDaysPass : Obligations.CountersAdvanceAsDaysPass := by
  rintro ⟨state, r, p, n⟩ hc a b - -
  refine ⟨advanceCounter_advanceCounter a b _, counterLoads_advanceCounter hc a, ?_, ?_,
    (advanceCounter_of_not_armed · a), ?_, ?_, ?_⟩
  · rintro ⟨⟩ hp
    exact advanceCounter_repeating_bounds hc hp a
  · rintro ⟨⟩ ⟨⟩
    exact advanceCounter_oneShot_due_iff a r n
  · rintro ⟨⟩ ha
    exact advanceCounter_armed_of_lt n ha
  · rintro ⟨⟩ ha ⟨⟩
    exact advanceCounter_oneShot_of_le n ha
  · rintro ⟨⟩ ha hp
    exact advanceCounter_repeating_of_le n ha hp

end Sys2Proof.Machine
end

section
/-! PROOF. Stages 5 and 6 of the mix (R143, R144): what each rounding mode answers, and saturation. -/

namespace Sys2Proof.Machine

/-! ### Stage 5: one description of each rounding mode -/

/-- FLOOR is the quotient of the division that rounds down. -/
theorem roundQuotient_floor (m : Int) : roundQuotient .floor m = m / 4294967296 := rfl

theorem roundQuotient_ceiling (m : Int) :
    roundQuotient .ceiling m = if m % 4294967296 = 0 then m / 4294967296 else m / 4294967296 + 1 := rfl

theorem roundQuotient_zero (m : Int) :
    roundQuotient .zero m
      = if m % 4294967296 = 0 ∨ 0 ≤ m then m / 4294967296 else m / 4294967296 + 1 := rfl

theorem roundQuotient_nearest (m : Int) :
    roundQuotient .nearest m
      = if 2 * (m % 4294967296) < 4294967296 then m / 4294967296
        else if 4294967296 < 2 * (m % 4294967296) then m / 4294967296 + 1
        else if m / 4294967296 % 2 = 0 then m / 4294967296 else m / 4294967296 + 1 := rfl

theorem roundQuotient_nearest_of_lt_half {m : Int} (h : 2 * (m % 4294967296) < 4294967296) :
    roundQuotient .nearest m = m / 4294967296 := by
  rw [roundQuotient_nearest, if_pos h]

theorem roundQuotient_nearest_of_half_lt {m : Int} (h : 4294967296 < 2 * (m % 4294967296)) :
    roundQuotient .nearest m = m / 4294967296 + 1 := by
  rw [roundQuotient_nearest, if_neg h.not_gt, if_pos h]

/-- At a half NEAREST takes the even one of the two integers beside the quotient. -/
theorem roundQuotient_nearest_of_half {m : Int} (h : 2 * (m % 4294967296) = 4294967296) :
    roundQuotient .nearest m = if m / 4294967296 % 2 = 0 then m / 4294967296 else m / 4294967296 + 1 := by
  rw [roundQuotient_nearest, if_neg h.not_lt, if_neg h.not_gt]

/-! ### Stage 5: the laws of R143 -/

theorem zero_eq_floor_of_nonneg {m : Int} (h : 0 ≤ m) : roundQuotient .zero m = roundQuotient .floor m := by
  rw [roundQuotient_zero, roundQuotient_floor, if_pos (.inr h)]

/-- At 0 itself the remainder is 0, and ZERO and CEILING agree there too. -/
theorem zero_eq_ceiling_of_nonpos {m : Int} (h : m ≤ 0) : roundQuotient .zero m = roundQuotient .ceiling m := by
  have hcond : (m % 4294967296 = 0 ∨ 0 ≤ m) ↔ m % 4294967296 = 0 := by omega
  rw [roundQuotient_zero, roundQuotient_ceiling]
  simp only [hcond]

/-- FLOOR is the greatest integer not above the quotient. -/
theorem floor_bounds (m : Int) :
    roundQuotient .floor m * 4294967296 ≤ m ∧ m < (roundQuotient .floor m + 1) * 4294967296 := by
  rw [roundQuotient_floor]
  omega

/-- CEILING is the least integer not below the quotient. -/
theorem ceiling_bounds (m : Int) :
    m ≤ roundQuotient .ceiling m * 4294967296 ∧ (roundQuotient .ceiling m - 1) * 4294967296 < m := by
  rw [roundQuotient_ceiling]
  split <;> omega

/-- NEAREST is at most half a unit away from the quotient. -/
theorem nearest_within_half (m : Int) :
    -4294967296 ≤ 2 * (m - roundQuotient .nearest m * 4294967296)
      ∧ 2 * (m - roundQuotient .nearest m * 4294967296) ≤ 4294967296 := by
  rcases lt_trichotomy (2 * (m % 4294967296)) 4294967296 with h | h | h
  · rw [roundQuotient_nearest_of_lt_half h]
    omega
  · rw [roundQuotient_nearest_of_half h]
    split <;> omega
  · rw [roundQuotient_nearest_of_half_lt h]
    omega

/-- A distance of exactly half a unit, on either side, comes from a remainder of exactly one half. -/
theorem nearest_even_of_half {m : Int}
    (h : 2 * (m - roundQuotient .nearest m * 4294967296) = 4294967296
      ∨ 2 * (m - roundQuotient .nearest m * 4294967296) = -4294967296) :
    roundQuotient .nearest m % 2 = 0 := by
  have hhalf : 2 * (m % 4294967296) = 4294967296 := by omega
  rw [roundQuotient_nearest_of_half hhalf]
  split <;> omega

theorem floor_le_ceiling (m : Int) : roundQuotient .floor m ≤ roundQuotient .ceiling m := by
  rw [roundQuotient_floor, roundQuotient_ceiling]
  split <;> omega

/-- Every mode answers one of the two integers beside the quotient, and so lies from FLOOR to CEILING. -/
theorem floor_le_roundQuotient_le_ceiling (mode : Rounding) (m : Int) :
    roundQuotient .floor m ≤ roundQuotient mode m ∧ roundQuotient mode m ≤ roundQuotient .ceiling m := by
  have hle := floor_le_ceiling m
  cases mode with
  | floor => exact ⟨le_rfl, hle⟩
  | ceiling => exact ⟨hle, le_rfl⟩
  | zero =>
    rcases le_total 0 m with h | h
    · rw [zero_eq_floor_of_nonneg h]
      exact ⟨le_rfl, hle⟩
    · rw [zero_eq_ceiling_of_nonpos h]
      exact ⟨hle, le_rfl⟩
  | nearest =>
    have hfloor := floor_bounds m
    have hceiling := ceiling_bounds m
    have hnear := nearest_within_half m
    omega

/-- R142's bound on M is 259842 · 2³² exactly, so no mode leaves −259842 … 259842. -/
theorem roundQuotient_bounded (mode : Rounding) {m : Int} (hlo : -1116012892127232 ≤ m)
    (hhi : m ≤ 1116012892127232) : -259842 ≤ roundQuotient mode m ∧ roundQuotient mode m ≤ 259842 := by
  obtain ⟨hfloor, hceiling⟩ := floor_le_roundQuotient_le_ceiling mode m
  have hf := (floor_bounds m).2
  have hc := (ceiling_bounds m).2
  omega

/-! ### Stage 6: saturation -/

theorem saturate_of_above {v : Int} (h : 32767 < v) : saturate v = 32767 := if_pos h

theorem saturate_of_below {v : Int} (h : v < -32768) : saturate v = -32768 := by
  rw [saturate, if_neg (by omega), if_pos h]

theorem saturate_of_mem {v : Int} (hlo : -32768 ≤ v) (hhi : v ≤ 32767) : saturate v = v := by
  rw [saturate, if_neg (not_lt_of_ge hhi), if_neg (not_lt_of_ge hlo)]

theorem saturate_bounds (v : Int) : -32768 ≤ saturate v ∧ saturate v ≤ 32767 := by
  unfold saturate
  split_ifs <;> omega

/-- Settles O49: both channels through the one mode, then the laws of stage 5 and of stage 6. -/
theorem roundingAndSaturation : Obligations.RoundingAndSaturation :=
  ⟨fun _ => ⟨rfl, rfl⟩, fun m =>
    ⟨floor_bounds m, ceiling_bounds m, zero_eq_floor_of_nonneg, zero_eq_ceiling_of_nonpos,
      nearest_within_half m, nearest_even_of_half, fun mode => roundQuotient_bounded mode,
      saturate_bounds m, saturate_of_mem, saturate_of_above, saturate_of_below⟩⟩

end Sys2Proof.Machine
end

section
/-! PROOFS OF THE FAMILY 'OTHER'. The proofs from here on are elaborated one after another: with many of them in flight,
every task that waits for one reserves a thread's stack, and together these pass the check's memory limit. -/
set_option Elab.async false

section
/-! What a command that is no request can do to the state, said once, and the induction that every invariant of the steps
follows from. -/

namespace Sys2Proof.Machine

/-- The states that a command other than a request can lead to from `s`, with the conditions under which it does. -/
inductive EventEffect (s : State) : State → Prop
  | nothing : EventEffect s s
  | resetTaken (r : Reply) (hsel : s.link.selection = .replying r true) :
      EventEffect s { titleReset s with link := { (titleReset s).link with selection := .replying r false } }
  | selection (l : Link) (hqueue : l.queue = (endSelection s).link.queue) (hmask : l.mask = (endSelection s).link.mask) :
      EventEffect s { endSelection s with link := l }
  | resetLine (b : Bool) : EventEffect s { s with srst := b }
  | resetLineEnds (hup : slotUp s = true) : EventEffect s { endSelection s with srst := true }
  | resetLineTitle (hup : slotUp s = true) (hphase : 5 ≤ s.supply.phase) :
      EventEffect s (titleReset { endSelection s with srst := true })
  | vslot (mv : Nat) : EventEffect s (vslotBecomes mv s)
  | offToStart (retained : Bool) (hoff : s.supply.state = .off) : EventEffect s (comeUp retained s)
  | normalToLow (hst : s.supply.state = .normal) : EventEffect s (settle (changeSupply .low s))
  | lowToNormal (hst : s.supply.state = .low) : EventEffect s (settle (changeSupply .normal s))
  | warnRecovery (hwarn : inWarn s = true) :
      EventEffect s (settle (passOn (changeSupply (recoveryState s) s)))
  | measured (mv : Nat) (hup : slotUp s = true) (hm : s.supply.measuring = true) :
      EventEffect s (afterMeasurement (completeMeasurement mv s))
  | directoryBurst (a : Nat) (bytes : List Byte) (hb : s.port.burst = some (.directory a)) :
      EventEffect s (settle (loadBurst bytes (freeBus s)))
  | linkOpen (hphase : s.supply.phase = 5) (hup : slotUp s = true) (hwarn : inWarn s = false) :
      EventEffect s (settle (scanFrom 0 { s with supply := { s.supply with phase := 6, waiting := false } }))
  | scanStep (a : Nat) (bytes : List Byte) (hb : s.port.burst = some (.scan a)) :
      EventEffect s (settle (scanTakes bytes (freeBus s)))
  | dayBlock (hphase : s.supply.phase = 7) (hst : s.supply.state = .start) :
      EventEffect s (settle (becomeReady (catchUp (loadDays s))))
  | refill (n a c : Nat) (stale : Bool) (bytes : List Byte) (hb : s.port.burst = some (.refill n a c stale))
      (hlen : bytes.length = c) : EventEffect s (settle (deliverRefill n a stale bytes (freeBus s)))
  | linkRead (r : LinkRead) (stale : Bool) (bytes : List Byte) (hb : s.port.burst = some (.linkRead r stale)) :
      EventEffect s (settle (deliverRead r stale bytes (freeBus s)))
  | commitStep (cs : CommitStep) (bytes : List Byte) (hb : s.port.burst = some (.commit cs)) :
      EventEffect s (settle (engineTakes bytes (burstStores cs (freeBus s))))
  | tick : EventEffect s (clockTick s)
  | frameCounted : EventEffect s (countFrame s)
  | frame (hup : slotUp s = true) (hwarn : inWarn s = false) : EventEffect s (soundFrame (countFrame s))
  | envelopes (hup : slotUp s = true) (hwarn : inWarn s = false) : EventEffect s (moveEnvelopes s)
  | driver (hup : slotUp s = true) : EventEffect s (tickWork s)

namespace EventEffect

variable {s t : State}

/-- A guarded change is one of its two branches. -/
theorem of_ite {c : Prop} [Decidable c] (h : c → EventEffect s t) : EventEffect s (if c then t else s) := by
  split
  · exact h ‹_›
  · exact .nothing

theorem endSelection (s : State) : EventEffect s (Machine.endSelection s) :=
  .selection (Machine.endSelection s).link rfl rfl

theorem takeTick (named : Bool) (s : State) : EventEffect s (Machine.takeTick named s) := by
  rcases takeTick_cases named s with h | ⟨-, -, h⟩ <;> rw [h]
  · exact .nothing
  · exact .tick

theorem srstAssertion (h : exec .srstAssertion s = .next t) : EventEffect s t := by
  cases h
  split
  · exact .nothing
  · split
    · exact .resetLine true
    · rename_i hup
      have hup : slotUp s = true := by simpa using hup
      dsimp only
      split
      · exact .resetLineTitle hup ‹_›
      · exact .resetLineEnds hup

end EventEffect

/-- Every command that is no request has one of the effects listed. -/
theorem exec_effect {c : Instr} {s t : State} (hc : c.request = none) (h : exec c s = .next t) : EventEffect s t := by
  cases c with
  | titleResetTaken =>
    simp only [exec, execTitleResetTaken] at h
    split at h <;> cases h
    · exact .resetTaken _ ‹_›
    · exact .nothing
  | unknownKind | frameError | selectionWithoutFrame => cases h; exact .of_ite fun _ => .selection _ rfl rfl
  | selectionEnd => cases h; exact .of_ite fun _ => .endSelection s
  | srstAssertion => exact .srstAssertion h
  | srstRelease => cases h; exact .resetLine false
  | vslotThresholdChange => cases h; exact .vslot _
  | warnEntry | supplyOff => cases h; exact .of_ite fun _ => .vslot _
  | offToStart => cases h; exact .of_ite fun hg => .offToStart _ hg.1
  | normalToLow => cases h; exact .of_ite fun hg => .normalToLow hg.1
  | lowToNormal => cases h; exact .of_ite fun hg => .lowToNormal hg.1
  | warnRecovery => cases h; exact .of_ite fun hg => .warnRecovery hg.1
  | cellMeasurementCompletion => cases h; exact .of_ite fun hg => .measured _ hg.1 hg.2
  | directoryLoadBurstCompletion =>
    simp only [exec, execDirectoryLoadBurstCompletion] at h
    split at h <;> cases h
    · exact .directoryBurst _ _ ‹_›
    · exact .nothing
  | linkOpen => cases h; exact .of_ite fun hg => .linkOpen hg.1 hg.2.1 (by simpa using hg.2.2)
  | scanStepCompletion =>
    simp only [exec, execScanStepCompletion] at h
    split at h <;> cases h
    · exact .scanStep _ _ ‹_›
    · exact .nothing
  | dayBlockLoad => cases h; exact .of_ite fun hg => .dayBlock hg.1 hg.2
  | refillCompletion =>
    simp only [exec, execRefillCompletion] at h
    split at h <;> cases h
    · exact .refill _ _ _ _ _ ‹_› (burstBytes_length ..)
    · exact .nothing
  | linkReadCompletion =>
    simp only [exec, execLinkReadCompletion] at h
    split at h <;> cases h
    · exact .linkRead _ _ _ ‹_›
    · exact .nothing
  | commitStepCompletion =>
    simp only [exec, execCommitStepCompletion] at h
    split at h <;> cases h
    · exact .commitStep _ _ ‹_›
    · exact .nothing
  | clockTick | minuteBoundary | endOfRange | dayTurn => cases h; exact .takeTick _ s
  | frame =>
    cases h
    split
    · rename_i hg
      simp only [Bool.and_eq_true, Bool.not_eq_true'] at hg
      exact .frame hg.1 hg.2
    · exact .frameCounted
  | envelopeTick =>
    cases h
    refine .of_ite fun hg => ?_
    simp only [Bool.and_eq_true, Bool.not_eq_true'] at hg
    exact .envelopes hg.1 hg.2
  | rumbleTick => cases h; exact .of_ite fun hg => .driver hg
  | heatTick | holdTimerExpiry | stepEnd =>
    cases h
    exact .of_ite fun hg => .driver (Bool.and_eq_true .. ▸ hg).1
  | _ => simp [Instr.request] at hc

/-- A property that the queue of commands, the latch and the selection do not touch is kept by every step, if the end of
a selection, every owner's answer and every effect of an event keep it. -/
theorem step_keeps {P : State → Prop} (hpend : ∀ s p, P s → P { s with pending := p })
    (hlink : ∀ s l, l.queue = s.link.queue → l.mask = s.link.mask → P s → P { s with link := l })
    (hend : ∀ s, P s → P (endSelection s)) (hown : ∀ k q arm s, P s → P (ownerOf k q arm s).state)
    (hevent : ∀ s t, P s → EventEffect s t → P t) {s t : State} (h : step s = .next t) (hs : P s) : P t :=
  step_induction hpend
    (exec_induction hlink hend hown fun _ s t hc hs h => hevent s t hs (exec_effect hc h)) s t hs h

end Sys2Proof.Machine
end

section
/-! The way of a request that the link takes, and the bytes of fields and replies, as the statements write them. -/

namespace Sys2Proof.Machine

/-- R188: a request that the link takes is answered by its owner's answer. -/
theorem exec_of_takes {k : Kind} {q : Request} {s : State} {a : Answer} (h : Takes k q s)
    (ha : ownerOf k q s.link.latch (heard s) = a) : exec (requestOf k q) s = .next (a.reply q.tag) := by
  rw [exec_requestOf, serve_of_takes _ h, ha]

/-- An owner that refuses the request, or reports, changes nothing. -/
theorem exec_of_takes_now {k : Kind} {q : Request} {s : State} {st : Status} {p : List Byte} (h : Takes k q s)
    (ha : ownerOf k q s.link.latch (heard s) = .now (heard s) st p) :
    exec (requestOf k q) s = .next (answered st q.tag p s) :=
  exec_of_takes h ha

/-- A request that the link refuses is answered with the status, and changes nothing. -/
theorem exec_of_linkRefusal {k : Kind} {q : Request} {s : State} {st : Status} (hh : hears s = true)
    (hsel : s.link.selection = .none) (hr : linkRefusal k q (heard s) = some st) :
    exec (requestOf k q) s = .next (answered st q.tag [] s) := by
  rw [exec_requestOf, serve_of_refused _ hh hsel hr]

/-! ## Bytes -/

@[simp] theorem leBytes_one (v : Nat) : leBytes 1 v = [BitVec.ofNat 8 v] := rfl

theorem leBytes_two (v : Nat) : leBytes 2 v = [BitVec.ofNat 8 v, BitVec.ofNat 8 (v / 256)] := rfl

@[simp] theorem ofNat_flagCode (b : Bool) : BitVec.ofNat 8 (flagCode b) = if b then 1#8 else 0#8 := by
  cases b <;> rfl

@[simp] theorem absentField_one : absentField 1 = [0xFF#8] := rfl

theorem leNat_lt_of_length {bs : List Byte} {n : Nat} (h : bs.length = n) : leNat bs < 256 ^ n := h ▸ leNat_lt bs

/-- A byte's number fits a byte. -/
@[simp] theorem ofNat_toNat_byte (b : Byte) : BitVec.ofNat 8 b.toNat = b := by simp

theorem byte_eq_ofNat_iff {b : Byte} {n : Nat} (hn : n < 256) : b = BitVec.ofNat 8 n ↔ b.toNat = n := by
  rw [← BitVec.toNat_inj, BitVec.toNat_ofNat, Nat.mod_eq_of_lt (by simpa using hn)]

/-- A choice field is malformed above 1. -/
theorem choice_eq_none_iff {v : Nat} : choice v = none ↔ 1 < v := by
  unfold choice; split_ifs <;> simp <;> omega

theorem choice_byte {b : Byte} (h : b.toNat ≤ 1) : choice b.toNat = some (b == 1#8) := by
  have hb : b = 0#8 ∨ b = 1#8 := by
    rw [byte_eq_ofNat_iff (by decide), byte_eq_ofNat_iff (by decide)]; omega
  rcases hb with rfl | rfl <;> rfl

end Sys2Proof.Machine
end

section
/-! PROOF. Dates and day numbers (R93 to R95): the months of a year tile its days, and the two conversions are inverse. -/

namespace Sys2Proof.Machine

/-! ## The months of a year -/

/-- A month ends where the next begins. -/
theorem daysBefore_succ (leap : Bool) {m : Nat} (h1 : 1 ≤ m) (h2 : m < 12) :
    daysBefore leap (m + 1) = daysBefore leap m + monthLength leap m := by
  cases leap <;> interval_cases m <;> rfl

theorem daysBefore_one (leap : Bool) : daysBefore leap 1 = 0 := by cases leap <;> rfl

/-- The year ends with month 12. -/
theorem daysBefore_twelve (leap : Bool) :
    daysBefore leap 12 + monthLength leap 12 = if leap then 366 else 365 := by cases leap <;> rfl

theorem monthLength_pos (leap : Bool) {m : Nat} (h1 : 1 ≤ m) (h2 : m ≤ 12) : 1 ≤ monthLength leap m := by
  cases leap <;> interval_cases m <;> decide

/-- A later month begins no earlier than this one ends. -/
theorem daysBefore_le (leap : Bool) {m n : Nat} (h1 : 1 ≤ m) (hmn : m < n) (hn : n ≤ 12) :
    daysBefore leap m + monthLength leap m ≤ daysBefore leap n := by
  induction n with
  | zero => omega
  | succ n ih =>
    have hstep := daysBefore_succ leap (m := n) (by omega) (by omega)
    rcases Nat.lt_or_ge m n with h | h
    · have := ih h (by omega)
      omega
    · obtain rfl : m = n := by omega
      omega

theorem monthOf_range (leap : Bool) (y n : Nat) : 1 ≤ monthOf leap y n ∧ monthOf leap y n ≤ max 1 n := by
  induction n with
  | zero => simp [monthOf]
  | succ n ih =>
    unfold monthOf
    split <;> omega

theorem daysBefore_monthOf_le (leap : Bool) (y n : Nat) : daysBefore leap (monthOf leap y n) ≤ y := by
  induction n with
  | zero => simp [monthOf, daysBefore_one]
  | succ n ih =>
    unfold monthOf
    split
    · assumption
    · exact ih

/-- The month after the one found begins later than day `y`. -/
theorem lt_daysBefore_succ_monthOf (leap : Bool) (y n : Nat) (h : monthOf leap y n < n) :
    y < daysBefore leap (monthOf leap y n + 1) := by
  induction n with
  | zero => omega
  | succ n ih =>
    unfold monthOf at h ⊢
    split
    · rename_i hle
      rw [if_pos hle] at h
      omega
    · rename_i hgt
      rw [if_neg hgt] at h
      rcases Nat.lt_or_ge (monthOf leap y n) n with hlt | hge
      · exact ih hlt
      · have hn := (monthOf_range leap y n).2
        rcases Nat.eq_zero_or_pos n with rfl | hpos
        · simp [daysBefore_one] at hgt
        · rw [show monthOf leap y n = n by omega]
          omega

/-- A day of the year lies in its month. -/
theorem day_in_monthOf (leap : Bool) {y : Nat} (hy : y < if leap then 366 else 365) :
    y < daysBefore leap (monthOf leap y 12) + monthLength leap (monthOf leap y 12) := by
  obtain ⟨h1, h12⟩ := monthOf_range leap y 12
  rcases Nat.lt_or_ge (monthOf leap y 12) 12 with h | h
  · rw [← daysBefore_succ leap h1 h]
    exact lt_daysBefore_succ_monthOf leap y 12 h
  · rw [show monthOf leap y 12 = 12 by omega, daysBefore_twelve]
    exact hy

/-- The month that holds a day is the one found. -/
theorem monthOf_eq (leap : Bool) {m y : Nat} (h1 : 1 ≤ m) (h12 : m ≤ 12) (hlo : daysBefore leap m ≤ y)
    (hhi : y < daysBefore leap m + monthLength leap m) : monthOf leap y 12 = m := by
  obtain ⟨hf1, hf12⟩ := monthOf_range leap y 12
  have hfound := daysBefore_monthOf_le leap y 12
  have hyear : y < if leap then 366 else 365 := by
    have hend := daysBefore_twelve leap
    rcases Nat.lt_or_ge m 12 with h | h
    · have := daysBefore_le leap h1 h le_rfl
      omega
    · obtain rfl : m = 12 := by omega
      omega
  have hin := day_in_monthOf leap hyear
  rcases lt_trichotomy (monthOf leap y 12) m with h | h | h
  · have := daysBefore_le leap hf1 h h12
    omega
  · exact h
  · have := daysBefore_le leap h1 h (by omega)
    omega

/-! ## Years in blocks of four -/

theorem validDate_iff {y m d : Nat} : validDate y m d = true ↔
    2000 ≤ y ∧ y ≤ 2099 ∧ 1 ≤ m ∧ m ≤ 12 ∧ 1 ≤ d ∧ d ≤ monthLength (isLeap y) m := by
  simp [validDate]

theorem isLeap_iff {y : Nat} : isLeap y = true ↔ y % 4 = 0 := by simp [isLeap]

/-- A day of a block of four years: the year within the block, and the day within the year. -/
theorem dateOf_eq {b k y : Nat} (hk : k < 4) (hy : y < if k = 0 then 366 else 365) (d : Nat)
    (hd : d = if k = 0 then 1461 * b + y else 1461 * b + 366 + 365 * (k - 1) + y) :
    dateOf d = ⟨2000 + 4 * b + k, monthOf (k == 0) y 12,
      y - daysBefore (k == 0) (monthOf (k == 0) y 12) + 1, y + 1, k == 0⟩ := by
  have hblock : d / 1461 = b := by split at hd <;> split at hy <;> omega
  have hyear : (if d % 1461 < 366 then 0 else 1 + (d % 1461 - 366) / 365) = k := by
    split_ifs at hd hy ⊢ <;> omega
  have hday : (if d % 1461 < 366 then d % 1461 else (d % 1461 - 366) % 365) = y := by
    split_ifs at hd hy ⊢ <;> omega
  simp only [dateOf, hblock, hyear, hday]

/-- Every day number is a day of a year of a block. -/
theorem exists_block_day (d : Nat) : ∃ b k y : Nat, k < 4 ∧ (y < if k = 0 then 366 else 365)
    ∧ d = if k = 0 then 1461 * b + y else 1461 * b + 366 + 365 * (k - 1) + y := by
  rcases Nat.lt_or_ge (d % 1461) 366 with h | h
  · exact ⟨d / 1461, 0, d % 1461, by omega, by simpa using h, by simp; omega⟩
  · refine ⟨d / 1461, 1 + (d % 1461 - 366) / 365, (d % 1461 - 366) % 365, by omega, ?_, ?_⟩
    · rw [if_neg (by omega)]
      omega
    · rw [if_neg (by omega)]
      omega

theorem isLeap_block {b k : Nat} (hk : k < 4) : isLeap (2000 + 4 * b + k) = (k == 0) := by
  rw [Bool.eq_iff_iff, isLeap_iff, beq_iff_eq]
  omega

/-- R94: the day number of a date of a block of four years. -/
theorem dayNumberOf_block {b k m d : Nat} (hk : k < 4) :
    dayNumberOf (2000 + 4 * b + k) m d = if k = 0 then 1461 * b + (daysBefore (k == 0) m + d - 1)
      else 1461 * b + 366 + 365 * (k - 1) + (daysBefore (k == 0) m + d - 1) := by
  have hk' : (2000 + 4 * b + k - 2000) % 4 = k := by omega
  have hb : (2000 + 4 * b + k - 2000 - k) / 4 = b := by omega
  simp only [dayNumberOf, dayInYear, hk', hb, isLeap_block hk]

/-- R93: every day number of the range has a valid date, whose day number it is. -/
theorem dateOf_valid {d : Nat} (hd : d ≤ 36524) :
    validDate (dateOf d).year (dateOf d).month (dateOf d).day = true
      ∧ dayNumberOf (dateOf d).year (dateOf d).month (dateOf d).day = d
      ∧ (dateOf d).dayOfYear = dayInYear (dateOf d).year (dateOf d).month (dateOf d).day + 1
      ∧ ((dateOf d).leap = true ↔ (dateOf d).year % 4 = 0) := by
  obtain ⟨b, k, y, hk, hy, hblock⟩ := exists_block_day d
  have hy' : y < if (k == 0) = true then 366 else 365 := by simpa using hy
  have hlo := daysBefore_monthOf_le (k == 0) y 12
  have hhi := day_in_monthOf (k == 0) hy'
  obtain ⟨h1, h12⟩ := monthOf_range (k == 0) y 12
  have hinv : daysBefore (k == 0) (monthOf (k == 0) y 12)
      + (y - daysBefore (k == 0) (monthOf (k == 0) y 12) + 1) - 1 = y := by omega
  rw [dateOf_eq hk hy d hblock]
  refine ⟨?_, ?_, ?_, ?_⟩
  · rw [validDate_iff, isLeap_block hk]
    dsimp only
    refine ⟨by omega, ?_, h1, by omega, by omega, by omega⟩
    split at hblock <;> omega
  · rw [dayNumberOf_block hk, hinv, hblock]
  · rw [dayInYear, isLeap_block hk, hinv]
  · rw [← isLeap_iff, isLeap_block hk]

/-- R94: every valid date has a day number of the range, whose date it is. -/
theorem dayNumberOf_valid {y m d : Nat} (h : validDate y m d = true) :
    dayNumberOf y m d ≤ 36524 ∧ (dateOf (dayNumberOf y m d)).year = y ∧ (dateOf (dayNumberOf y m d)).month = m
      ∧ (dateOf (dayNumberOf y m d)).day = d := by
  obtain ⟨hy0, hy99, hm1, hm12, hd1, hd⟩ := validDate_iff.mp h
  obtain ⟨b, k, hk, rfl⟩ : ∃ b k : Nat, k < 4 ∧ y = 2000 + 4 * b + k :=
    ⟨(y - 2000) / 4, (y - 2000) % 4, by omega, by omega⟩
  rw [isLeap_block hk] at hd
  have hyear : daysBefore (k == 0) m + monthLength (k == 0) m ≤ if k = 0 then 366 else 365 := by
    have hend := daysBefore_twelve (k == 0)
    simp only [beq_iff_eq] at hend
    rcases Nat.lt_or_ge m 12 with hlt | hge
    · have := daysBefore_le (k == 0) hm1 hlt le_rfl
      omega
    · obtain rfl : m = 12 := by omega
      omega
  have hmonth : monthOf (k == 0) (daysBefore (k == 0) m + d - 1) 12 = m :=
    monthOf_eq _ hm1 hm12 (by omega) (by omega)
  rw [dateOf_eq (y := daysBefore (k == 0) m + d - 1) hk (by omega) _ (dayNumberOf_block hk), hmonth]
  refine ⟨?_, rfl, rfl, by dsimp only; omega⟩
  rw [dayNumberOf_block hk]
  split_ifs at hyear ⊢ <;> omega

/-! ## The requests -/

/-- R95: the weekday is byte 16 of a VALID clock's report. -/
theorem clockReadPayload_weekday {s : State} (h : s.clock.state = .valid) :
    (clockReadPayload s)[16]? = some (BitVec.ofNat 8 ((s.clock.day + 6) % 7)) := by
  simp [clockReadPayload, clockDateBytes, h, dateBytes, leBytes, weekdayOf]

/-- Settles O32: the conversions by blocks of four years, and the three requests that report them. -/
theorem datesConvertBothWays : Obligations.DatesConvertBothWays := by
  refine ⟨fun d => dateOf_valid, fun y m d => dayNumberOf_valid, ?_, ?_, ?_⟩
  · intro tag level lo hi s h
    refine (exec_of_takes h rfl).trans (congrArg _ ?_)
    simp only [ownerOf, answerDayToDate, word_zero]
    split
    · rfl
    · simp [dateBytes, weekdayOf]
  · intro tag level y0 y1 m d s h
    refine (exec_of_takes h rfl).trans (congrArg _ ?_)
    simp only [ownerOf, answerDateToDay, word_zero, byte_two, byte_three]
    split
    · simp [weekdayOf]
    · rfl
  · exact fun tag level s h hv => ⟨_, clockReadPayload_weekday hv, exec_of_takes_now h rfl⟩

end Sys2Proof.Machine
end

section
/-! What an owner's answer can do to the state, over all kinds at once: with the effects of the events, all that a step of
an invariant's proof has to look at. -/

namespace Sys2Proof.Machine

/-- A resolved window passes the bounds test. -/
theorem fits_of_resolve {s : State} {i q need : Nat} {write : Bool} {test : RecordTest} {fits : Window → Bool}
    {w : Window} (h : resolve s i q need write test fits = .window w) : fits w = true := by
  simp only [resolve] at h
  split at h <;> try cases h
  split at h <;> try cases h
  split at h <;> try cases h
  split at h <;> try cases h
  split at h <;> try cases h
  split at h <;> try cases h
  split at h
  · cases h
  · split at h
    · cases h
      assumption
    · cases h

/-- R14, R122: the cached window of a PCM set-up holds its end boundary, and its positions lie before its end. -/
def WindowFits (u : Setup) (win : Option (Nat × Nat)) : Prop :=
  ∀ f, formatOf u.format = some f → isPcm f = true → ∃ b len, win = some (b, len)
    ∧ u.endPos * sampleBytes f ≤ len ∧ u.startPos < u.endPos ∧ u.loopStart < u.endPos

/-- R122: what an accepted VOICE_SETUP has been checked for. -/
def SetupOk (u : Setup) (win : Option (Nat × Nat)) : Prop := (∃ f, formatOf u.format = some f) ∧ WindowFits u win

theorem finishSetup_state {u : Setup} {win : Option (Nat × Nat)} {s : State} (hwin : WindowFits u win) :
    (finishSetup u win s).state = s ∨ (u.voice ≤ 7 ∧ (voiceAt s u.voice).state = .idle ∧ SetupOk u win
      ∧ (finishSetup u win s).state
        = settle (staleRefill u.voice (setVoice u.voice (setUpVoice u win (voiceAt s u.voice)) s))) := by
  unfold finishSetup
  split
  · exact .inl rfl
  · rename_i hno
    unfold setupRefusal at hno
    split at hno
    · cases hno
    · rename_i hidle
      split at hno
      · cases hno
      · split at hno
        · cases hno
        · rename_i hvalues
          simp only [not_or, not_lt] at hvalues
          obtain ⟨hvoice, hformat, -⟩ := hvalues
          exact .inr ⟨hvoice, by tauto, ⟨Option.ne_none_iff_exists'.mp hformat, hwin⟩, rfl⟩

/-- R122: what VOICE_SETUP can do, with the checks that an accepted one has passed. -/
theorem answerVoiceSetup_effect (q : Request) (s : State) :
    (answerVoiceSetup q s).state = s ∨ ∃ u win, u.voice ≤ 7 ∧ (voiceAt s u.voice).state = .idle ∧ SetupOk u win
      ∧ (answerVoiceSetup q s).state
        = settle (staleRefill u.voice (setVoice u.voice (setUpVoice u win (voiceAt s u.voice)) s)) := by
  unfold answerVoiceSetup
  split
  · exact .inl rfl
  · rename_i w hw
    have hwin : WindowFits (setupOf q) (some (w.base, w.length)) := by
      intro f hf hpcm
      simp only [setupResolution, hf, hpcm, if_true, Option.some.injEq] at hw
      have hfits := fits_of_resolve hw
      simp only [setupFits, decide_eq_true_eq] at hfits
      obtain ⟨h1, h2, h3⟩ := hfits
      exact ⟨_, _, rfl, h3, h1, h2⟩
    exact (finishSetup_state hwin).imp_right fun h => ⟨_, _, h⟩
  · rename_i hnone
    have hwin : WindowFits (setupOf q) none := by
      intro f hf hpcm
      simp [setupResolution, hf, hpcm] at hnone
    exact (finishSetup_state hwin).imp_right fun h => ⟨_, _, h⟩

/-- R89: an accepted CLOCK_SET's day and second are in range. -/
theorem clockSetTarget_ranges {q : Request} {day second : Nat} (h : clockSetTarget q = some (day, second)) :
    day ≤ 36524 ∧ second ≤ 86399 := by
  unfold clockSetTarget at h
  split at h
  · split at h
    · rename_i hc
      cases h
      exact hc
    · cases h
  · split at h
    · split at h
      · rename_i hc
        simp only [Option.some.injEq, Prod.mk.injEq] at h
        obtain ⟨rfl, rfl⟩ := h
        exact ⟨(dayNumberOf_valid hc.1).1, by omega⟩
      · cases h
    · cases h

/-- The states that an owner's answer can leave, with the conditions under which it does. -/
inductive AnswerEffect (k : Kind) (s : State) : State → Prop
  | nothing : AnswerEffect k s s
  | noticeTaken (x : NoticeEntry) (rest : List NoticeEntry) (hq : s.link.queue = x :: rest) :
      AnswerEffect k s { s with link := { s.link with queue := rest } }
  | linkSet (l : Link) (hq : l.queue = s.link.queue) (hlatch : k ≠ .eraseArm → l.latch = s.link.latch) :
      AnswerEffect k s { s with link := l }
  | presentSet (i : Nat) (p : Bool) : AnswerEffect k s (setPresent i p s)
  | readPosted (r : LinkRead) : AnswerEffect k s (grant (postLinkRead r s))
  | saveBegun (w : Window) (tag : Byte) (hfree : s.save.kept.title.state = .free) (hwarn : inWarn s = false) :
      AnswerEffect k s (setSlot .title (collectingSlot w tag s.save.kept.title) s)
  | saveWritten (y : Nat) (data : List Byte) (hcoll : s.save.kept.title.state = .collecting)
      (hroom : s.save.kept.title.blocks.length + (newBlocks s.save.kept.title.blocks y data.length).length ≤ 31) :
      AnswerEffect k s (setSlot .title { s.save.kept.title with blocks := mergeWrite y data s.save.kept.title.blocks } s)
  | emptyEnded (tag : Byte) (hcoll : s.save.kept.title.state = .collecting) : AnswerEffect k s (endEmpty tag s)
  | titleQueued (tag : Byte) (full : Bool) (hcomm : committable s.save.kept.title = true) (hwarn : inWarn s = false) :
      AnswerEffect k s (settle (queueTitle tag full s))
  | abandoned (r : OutcomeRecord) (hcomm : committable s.save.kept.title = true) :
      AnswerEffect k s (setOutcome r (freeSlot .title s))
  | recordSet (i : Nat) (r : Record) : AnswerEffect k s (setRecord i r s)
  | tryTaken (i : Nat) : AnswerEffect k s (setTries i (triesAt s i - 1) s)
  | masterSet (pw : List Byte) : AnswerEffect k s (setKept { s.save.kept with master := some pw } s)
  | locksFrozen : AnswerEffect k s { s with save := { s.save with frozen := true } }
  | eraseQueued (w : Window) (tag : Byte) (hfree : s.save.kept.title.state = .free) (hwarn : inWarn s = false) :
      AnswerEffect k s (settle (queueErase w tag s))
  | clockSet (day second : Nat) (hday : day ≤ 36524) (hsecond : second ≤ 86399) :
      AnswerEffect k s (settle (catchUp (notify (.clockState .set) { s with clock := setClock day second s.clock })))
  | trimSet (v : Int) : AnswerEffect k s { s with clock := { s.clock with trim := clampTrim v } }
  | counterArmed (i r p : Nat) (hr : r ≤ 65535) (hp : p ≤ 65535) :
      AnswerEffect k s (settle (putCounter i (armedCounter r p) true s))
  | counterDisarmed (i : Nat) (dirty : Bool) :
      AnswerEffect k s (settle (putCounter i { counterAt s i with state := .disarmed } dirty s))
  | counterAcked (i : Nat) (dirty : Bool) :
      AnswerEffect k s (settle (putCounter i (ackedCounter (counterAt s i)) dirty s))
  | turnSet (turn : Nat) (hturn : turn ≤ 86399) :
      AnswerEffect k s (settle (catchUp (setDays { s.days with turnSecond := turn, dirty := true } s)))
  | unorderedTest (x : Nat) : AnswerEffect k s (unordered x s)
  | voiceSetUp (u : Setup) (win : Option (Nat × Nat)) (hn : u.voice ≤ 7)
      (hidle : (voiceAt s u.voice).state = .idle) (hok : SetupOk u win) :
      AnswerEffect k s (settle (staleRefill u.voice (setVoice u.voice (setUpVoice u win (voiceAt s u.voice)) s)))
  | pitchSet (n rate : Nat) : AnswerEffect k s (setVoice n { voiceAt s n with rate := rate } s)
  | levelSet (n volume pan : Nat) : AnswerEffect k s (setVoice n { voiceAt s n with volume := volume, pan := pan } s)
  | rampSet (n target step : Nat) : AnswerEffect k s (setVoice n { voiceAt s n with target := target, step := step } s)
  | keyOn (n : Nat) (hn : n ≤ 7) :
      AnswerEffect k s (settle (staleRefill n (setVoice n (keyedOn (voiceAt s n)) s)))
  | keyOff (n step : Nat) : AnswerEffect k s (setVoice n (keyedOff step (voiceAt s n)) s)
  | voiceStopped (n : Nat) (hn : n ≤ 7) : AnswerEffect k s (stopVoice n s)
  | mixConfigured (m : Mixer) : AnswerEffect k s (recompute { s with mixer := m })
  | flagsSet (m : Mixer) (hout : m.output = s.mixer.output) : AnswerEffect k s { s with mixer := m }
  | patternSet (p : Nat) (steps : List PatternStep) :
      AnswerEffect k s (setRumble { s.rumble with patterns := s.rumble.patterns.setIfInBounds p steps } s)
  | played (q : Request) (hno : playRefusal q s = none) :
      AnswerEffect k s (place (newEntry s.rumble (q.byte 0) (q.byte 1) (q.byte 2)) (playing s)).1
  | currentCancelled : AnswerEffect k s (setRumble (startNext s.rumble) s)
  | allCancelled : AnswerEffect k s (setRumble { s.rumble with current := none, waiting := [] } s)
  | followSet (f : Option (Nat × Nat)) : AnswerEffect k s (setRumble { restartTimer s.rumble with follow := f } s)
  | holdSet (h : Nat) : AnswerEffect k s (setRumble (restartTimer { s.rumble with hold := h }) s)
  | cellChecked : AnswerEffect k s { s with supply := { s.supply with measuring := true, checkWaiting := true } }

/-! ## What an accepted RUMBLE_PLAY's own records leave -/

@[simp] theorem playing_pending (s : State) : (playing s).pending = s.pending := rfl
@[simp] theorem playing_free (s : State) : (playing s).free = s.free := rfl
@[simp] theorem playing_srst (s : State) : (playing s).srst = s.srst := rfl
@[simp] theorem playing_rom (s : State) : (playing s).rom = s.rom := rfl
@[simp] theorem playing_sram (s : State) : (playing s).sram = s.sram := rfl
@[simp] theorem playing_supply (s : State) : (playing s).supply = s.supply := rfl
@[simp] theorem playing_link (s : State) : (playing s).link = s.link := rfl
@[simp] theorem playing_dir (s : State) : (playing s).dir = s.dir := rfl
@[simp] theorem playing_port (s : State) : (playing s).port = s.port := rfl
@[simp] theorem playing_save (s : State) : (playing s).save = s.save := rfl
@[simp] theorem playing_clock (s : State) : (playing s).clock = s.clock := rfl
@[simp] theorem playing_days (s : State) : (playing s).days = s.days := rfl
@[simp] theorem playing_voices (s : State) : (playing s).voices = s.voices := rfl
@[simp] theorem playing_mixer (s : State) : (playing s).mixer = s.mixer := rfl

/-- Every owner's answer has one of the effects listed. -/
theorem answer_effect (k : Kind) (q : Request) (arm : Option Arm) (s : State) :
    AnswerEffect k s (ownerOf k q arm s).state := by
  cases k with
  | noticeFetch =>
    rcases answerNoticeFetch_cases s with h | ⟨x, rest, hq, h⟩ <;> rw [ownerOf, h]
    exacts [.nothing, .noticeTaken x rest hq]
  | noticeMask =>
    rcases answerNoticeMask_cases q s with h | h <;> rw [ownerOf, h]
    exacts [.nothing, .linkSet _ rfl fun _ => rfl]
  | regionPresent =>
    rcases answerRegionPresent_cases q s with h | ⟨p, h⟩ <;> rw [ownerOf, h]
    exacts [.nothing, .presentSet _ p]
  | saveRead =>
    rcases answerSaveRead_cases q s with h | ⟨r, h⟩ <;> rw [ownerOf, h]
    exacts [.nothing, .readPosted r]
  | saveBegin =>
    rcases answerSaveBegin_cases q s with h | ⟨w, hfree, hwarn, -, h⟩ <;> rw [ownerOf, h]
    exacts [.nothing, .saveBegun w _ hfree hwarn]
  | saveWrite =>
    rcases answerSaveWrite_cases q s with h | ⟨⟨hcoll, hroom⟩, h⟩ <;> rw [ownerOf, h]
    exacts [.nothing, .saveWritten _ _ hcoll hroom]
  | saveCommit =>
    rcases answerSaveCommit_cases q s with h | ⟨hcomm, hwarn, ⟨h, hcoll⟩ | ⟨full, h⟩⟩ <;> rw [ownerOf, h]
    exacts [.nothing, .emptyEnded _ hcoll, .titleQueued _ full hcomm hwarn]
  | saveAbandon =>
    rcases answerSaveAbandon_cases q s with h | ⟨hcomm, h⟩ <;> rw [ownerOf, h]
    exacts [.nothing, .abandoned _ hcomm]
  | lockSet =>
    rcases answerLockSet_cases q s with h | ⟨w, lv, -, h⟩ <;> rw [ownerOf, h]
    exacts [.nothing, .recordSet _ _]
  | lockOpen =>
    rcases answerLockOpen_cases q s with h | ⟨r, h⟩ | ⟨r, h⟩ <;> rw [ownerOf, h]
    exacts [.nothing, .recordSet _ _, .tryTaken r]
  | lockClear =>
    rcases answerLockClear_cases q s with h | ⟨r, h⟩ | ⟨r, h⟩ <;> rw [ownerOf, h]
    exacts [.nothing, .recordSet _ _, .tryTaken r]
  | masterSet =>
    rcases answerMasterSet_cases q s with h | h <;> rw [ownerOf, h]
    exacts [.nothing, .masterSet _]
  | lockFreeze => exact .locksFrozen
  | eraseArm =>
    rcases answerEraseArm_cases q s with h | h <;> rw [ownerOf, h]
    exacts [.nothing, .linkSet _ rfl fun hne => absurd rfl hne]
  | erase =>
    rcases answerErase_cases q arm s with h | ⟨r, h⟩ | ⟨w, hfree, hwarn, h⟩ <;> rw [ownerOf, h]
    exacts [.nothing, .tryTaken r, .eraseQueued w _ hfree hwarn]
  | clockSet =>
    rcases answerClockSet_cases q s with h | ⟨day, second, ht, h⟩ <;> rw [ownerOf, h]
    exacts [.nothing, .clockSet day second (clockSetTarget_ranges ht).1 (clockSetTarget_ranges ht).2]
  | clockTrim => exact .trimSet _
  | counterArm =>
    rcases answerCounterArm_cases q s with h | h <;> rw [ownerOf, h]
    exacts [.nothing, .counterArmed _ _ _ (Nat.le_of_lt_succ (field_lt q.payload 1 2))
      (Nat.le_of_lt_succ (field_lt q.payload 3 2))]
  | counterDisarm =>
    rcases answerCounterDisarm_cases q s with h | ⟨d, h⟩ <;> rw [ownerOf, h]
    exacts [.nothing, .counterDisarmed _ d]
  | counterAck =>
    rcases answerCounterAck_cases q s with h | ⟨d, h⟩ <;> rw [ownerOf, h]
    exacts [.nothing, .counterAcked _ d]
  | daysConfig =>
    rcases answerDaysConfig_cases q s with h | ⟨hturn, h⟩ <;> rw [ownerOf, h]
    exacts [.nothing, .turnSet _ hturn]
  | dayTest =>
    rcases answerDayTest_cases q s with h | ⟨x, h⟩ <;> rw [ownerOf, h]
    exacts [.nothing, .unorderedTest x]
  | voiceSetup =>
    rcases answerVoiceSetup_effect q s with h | ⟨u, win, hn, hidle, hok, h⟩ <;> rw [ownerOf, h]
    exacts [.nothing, .voiceSetUp u win hn hidle hok]
  | voicePitch =>
    rcases answerVoicePitch_cases q s with h | h <;> rw [ownerOf, h]
    exacts [.nothing, .pitchSet _ _]
  | voiceLevel =>
    rcases answerVoiceLevel_cases q s with h | h <;> rw [ownerOf, h]
    exacts [.nothing, .levelSet _ _ _]
  | voiceRamp =>
    rcases answerVoiceRamp_cases q s with h | h <;> rw [ownerOf, h]
    exacts [.nothing, .rampSet _ _ _]
  | voiceKeyOn =>
    rcases answerVoiceKeyOn_cases q s with h | ⟨hn, h⟩ <;> rw [ownerOf, h]
    exacts [.nothing, .keyOn _ hn]
  | voiceKeyOff =>
    rcases answerVoiceKeyOff_cases q s with h | h <;> rw [ownerOf, h]
    exacts [.nothing, .keyOff _ _]
  | voiceStop =>
    rcases answerVoiceStop_cases q s with h | ⟨hn, h⟩ <;> rw [ownerOf, h]
    exacts [.nothing, .voiceStopped _ hn]
  | mixConfig =>
    rcases answerMixConfig_cases q s with h | ⟨m, h⟩ <;> rw [ownerOf, h]
    exacts [.nothing, .mixConfigured m]
  | mixFlags =>
    rcases answerMixFlags_cases q s with h | ⟨m, hout, h⟩ <;> rw [ownerOf, h]
    exacts [.nothing, .flagsSet m hout]
  | rumbleDefine =>
    rcases answerRumbleDefine_cases q s with h | ⟨p, steps, -, h⟩ <;> rw [ownerOf, h]
    exacts [.nothing, .patternSet p steps]
  | rumblePlay =>
    rcases answerRumblePlay_cases q s with h | ⟨hno, h⟩ <;> rw [ownerOf, h]
    exacts [.nothing, .played q hno]
  | rumbleCancel =>
    rcases answerRumbleCancel_cases q s with h | h | h <;> rw [ownerOf, h]
    exacts [.nothing, .currentCancelled, .allCancelled]
  | rumbleFollow =>
    rcases answerRumbleFollow_cases q s with h | ⟨f, h⟩ <;> rw [ownerOf, h]
    exacts [.nothing, .followSet f]
  | rumbleHold => exact .holdSet _
  | cellCheck => exact .cellChecked
  | regionInfo => rw [ownerOf, answerRegionInfo_state]; exact .nothing
  | counterRead => rw [ownerOf, answerCounterRead_state]; exact .nothing
  | voiceRead => rw [ownerOf, answerVoiceRead_state]; exact .nothing
  | dayToDate => rw [ownerOf, answerDayToDate_state]; exact .nothing
  | dateToDay => rw [ownerOf, answerDateToDay_state]; exact .nothing
  | _ => exact .nothing

/-- A property that the queue of commands and the link's records do not touch is kept by every step, if the end of a
selection and the effects of answers and events keep it. -/
theorem step_keeps_effects {P : State → Prop} (hpend : ∀ s p, P s → P { s with pending := p })
    (hlink : ∀ s l, P s → P { s with link := l }) (hend : ∀ s, P s → P (endSelection s))
    (hanswer : ∀ k s t, P s → AnswerEffect k s t → P t) (hevent : ∀ s t, P s → EventEffect s t → P t) {s t : State}
    (h : step s = .next t) (hs : P s) : P t :=
  step_keeps hpend (fun s l _ _ => hlink s l) hend (fun k q arm s hs => hanswer k s _ hs (answer_effect k q arm s)) hevent
    h hs

end Sys2Proof.Machine
end

section
/-! PROOF. The notice queue (R192): what queueing a notice does, and that every step keeps at most one entry of a kind. -/

namespace Sys2Proof.Machine

/-! ## Queueing a notice -/

theorem noticeKind_range (n : Notice) : 1 ≤ noticeKind n ∧ noticeKind n ≤ 10 := by
  cases n <;> simp [noticeKind]

/-- A notice folds into an entry of its own kind. -/
theorem noticeKind_foldNotice {old new : Notice} (h : noticeKind old = noticeKind new) :
    noticeKind (foldNotice old new) = noticeKind new := by
  cases new <;> cases old <;> rfl

theorem enqueue_of_new {q : List NoticeEntry} {n : Notice} (h : ∀ x ∈ q, noticeKind x.notice ≠ noticeKind n) :
    enqueue q n = q ++ [⟨1, n⟩] := by
  induction q with
  | nil => rfl
  | cons x q ih =>
    obtain ⟨hx, hq⟩ := List.forall_mem_cons.mp h
    rw [enqueue, if_neg hx, ih hq, List.cons_append]

theorem enqueue_of_pending {before after : List NoticeEntry} {x : NoticeEntry} {n : Notice}
    (hx : noticeKind x.notice = noticeKind n) (h : ∀ y ∈ before, noticeKind y.notice ≠ noticeKind n) :
    enqueue (before ++ x :: after) n = before ++ ⟨min 255 (x.count + 1), foldNotice x.notice n⟩ :: after := by
  induction before with
  | nil => rw [List.nil_append, enqueue, if_pos hx, List.nil_append]
  | cons y before ih =>
    obtain ⟨hy, hb⟩ := List.forall_mem_cons.mp h
    rw [List.cons_append, enqueue, if_neg hy, ih hb, List.cons_append]

/-- A queue either holds no entry of a kind, or a first one. -/
theorem exists_pending_or_new (q : List NoticeEntry) (n : Notice) :
    (∀ x ∈ q, noticeKind x.notice ≠ noticeKind n)
      ∨ ∃ before x after, q = before ++ x :: after ∧ noticeKind x.notice = noticeKind n
        ∧ ∀ y ∈ before, noticeKind y.notice ≠ noticeKind n := by
  induction q with
  | nil => exact .inl (by simp)
  | cons x q ih =>
    by_cases hx : noticeKind x.notice = noticeKind n
    · exact .inr ⟨[], x, q, rfl, hx, by simp⟩
    · rcases ih with h | ⟨before, y, after, rfl, hy, hb⟩
      · exact .inl (List.forall_mem_cons.mpr ⟨hx, h⟩)
      · exact .inr ⟨x :: before, y, after, rfl, hy, List.forall_mem_cons.mpr ⟨hx, hb⟩⟩

/-- A detail whose notice carries no set is the newest. -/
theorem foldNotice_of_scalar {old new : Notice} (h5 : noticeKind new ≠ 5) (h8 : noticeKind new ≠ 8)
    (h9 : noticeKind new ≠ 9) : foldNotice old new = new := by
  cases new <;> first | contradiction | cases old <;> rfl

theorem notify_eq (n : Notice) (s : State) :
    notify n s = { s with link := { s.link with queue := (notify n s).link.queue } } := by
  unfold notify; split <;> rfl

theorem notify_of_masked {n : Notice} {s : State} (h : s.link.mask.getLsbD (noticeKind n - 1) = false) :
    notify n s = s := by
  simp [notify, h]

theorem notify_queue_of_unmasked {n : Notice} {s : State} (h : s.link.mask.getLsbD (noticeKind n - 1) = true) :
    (notify n s).link.queue = enqueue s.link.queue n := by
  simp [notify, h]

/-- Settles O10: discarded, added at the tail, or folded into the first entry of the kind. -/
theorem noticesFoldByKind : Obligations.NoticesFoldByKind := by
  refine fun n s => ⟨notify_eq n s, notify_of_masked, fun hmask => ?_⟩
  rw [notify_queue_of_unmasked hmask]
  refine ⟨enqueue_of_new, ?_⟩
  rintro before after x hq hx hb
  rw [hq, enqueue_of_pending hx hb]
  refine ⟨_, rfl, ?_, ?_, ?_, foldNotice_of_scalar⟩
  · rintro c p c' p' hold rfl
    rw [hold]; rfl
  · rintro f k f' k' hold rfl
    rw [hold]; rfl
  · rintro v w v' w' hold rfl
    rw [hold]; rfl

/-! ## The invariant of the queue -/

theorem queueOk_nil : QueueOk [] := ⟨List.nodup_nil, by simp⟩

theorem queueOk_tail {x : NoticeEntry} {q : List NoticeEntry} (h : QueueOk (x :: q)) : QueueOk q :=
  ⟨(List.nodup_cons.mp h.1).2, (List.forall_mem_cons.mp h.2).2⟩

theorem queueOk_enqueue {q : List NoticeEntry} (n : Notice) (h : QueueOk q) : QueueOk (enqueue q n) := by
  obtain ⟨hkinds, hcounts⟩ := h
  rcases exists_pending_or_new q n with hnew | ⟨before, x, after, rfl, hx, hb⟩
  · rw [enqueue_of_new hnew]
    constructor
    · rw [List.map_append, List.nodup_append]
      refine ⟨hkinds, List.nodup_singleton _, ?_⟩
      simpa using hnew
    · simpa [or_imp, forall_and] using hcounts
  · rw [enqueue_of_pending hx hb]
    constructor
    · simpa [noticeKind_foldNotice hx, hx] using hkinds
    · simp only [List.forall_mem_append, List.forall_mem_cons] at hcounts ⊢
      obtain ⟨hbefore, -, hafter⟩ := hcounts
      exact ⟨hbefore, by omega, hafter⟩

/-- There are ten kinds, so a queue with one entry of each kind has at most ten entries. -/
theorem queueOk_length {q : List NoticeEntry} (h : QueueOk q) : q.length ≤ 10 := by
  have hsub : q.map (fun x => noticeKind x.notice) ⊆ List.range' 1 10 := by
    intro k hk
    obtain ⟨x, -, rfl⟩ := List.mem_map.mp hk
    have := noticeKind_range x.notice
    rw [List.mem_range'_1]
    omega
  simpa using (h.1.subperm hsub).length_le

/-! ## What the operations do to the queue -/

/-- The notice queue of `s` is in order. -/
def NoticesOk (s : State) : Prop := QueueOk s.link.queue

section

variable {s t : State}

theorem NoticesOk.of_link (hs : NoticesOk s) (h : t.link = s.link) : NoticesOk t := by rwa [NoticesOk, h]

theorem NoticesOk.of_queue (hs : NoticesOk s) (h : t.link.queue = s.link.queue) : NoticesOk t := by
  rwa [NoticesOk, h]

/-- A notice queued by a block that has changed its own records. -/
theorem NoticesOk.notify (hs : NoticesOk s) (n : Notice) (h : t.link = s.link := by simp) :
    NoticesOk (notify n t) := by
  rw [NoticesOk, notify_link, h]
  dsimp only
  split
  · exact queueOk_enqueue n hs
  · exact hs

theorem NoticesOk.titleReset (s : State) : NoticesOk (titleReset s) := by
  simp [NoticesOk, Machine.titleReset, resetLink, queueOk_nil]

theorem NoticesOk.endSelection (hs : NoticesOk s) : NoticesOk (endSelection s) := by
  unfold Machine.endSelection
  split
  · exact hs
  · exact hs
  · exact hs
  · split
    · exact .of_queue (.titleReset s) rfl
    · exact hs

theorem NoticesOk.startCopy (hs : NoticesOk s) (id : SlotId) (rolling : Bool) : NoticesOk (startCopy id rolling s) :=
  hs.of_link (by simp)

theorem NoticesOk.settle (hs : NoticesOk s) : NoticesOk (settle s) := hs.of_link (by simp)

/-! Calendar -/

theorem NoticesOk.catchUp (hs : NoticesOk s) : NoticesOk (catchUp s) := by
  unfold Machine.catchUp
  split
  · split
    · exact hs
    · rename_i g _
      have hb : NoticesOk (reportBehind s.days.behind (caughtUp g s.days).behind (setDays (caughtUp g s.days) s)) := by
        unfold reportBehind
        split
        · exact hs
        · exact hs.notify _
      unfold reportDue
      split
      · exact hb
      · exact hb.notify _
  · exact hs

theorem NoticesOk.clockTick (hs : NoticesOk s) : NoticesOk (clockTick s) := by
  unfold Machine.clockTick
  split
  · unfold endRange reportLimit
    split
    · exact hs.notify _
    · exact hs
  · dsimp only
    split
    · have hc : NoticesOk { s with clock := tickedClock s.clock } := hs
      exact .settle (hc.catchUp.of_link (by simp))
    · exact hs

theorem NoticesOk.loadDays (hs : NoticesOk s) : NoticesOk (loadDays s) := by
  unfold Machine.loadDays
  split
  · exact hs
  · split
    · exact hs
    · exact hs.notify _

theorem NoticesOk.unordered (hs : NoticesOk s) (x : Nat) : NoticesOk (unordered x s) :=
  hs.notify _

/-! Sound engine -/

theorem NoticesOk.reportEnds (hs : NoticesOk s) (ended : Nat → Bool) (why : VoiceEndReason) :
    NoticesOk (reportEnds ended why s) := by
  unfold Machine.reportEnds
  split
  · exact hs
  · exact hs.notify _

theorem NoticesOk.reportFlags (hs : NoticesOk s) (flags : BitVec 8) : NoticesOk (reportFlags flags s) := by
  unfold Machine.reportFlags
  split
  · exact hs
  · exact hs.notify _

theorem NoticesOk.reportFrame (hs : NoticesOk s) (ended : Nat → Bool) (flags : BitVec 8) :
    NoticesOk (reportFrame ended flags s) := by
  unfold Machine.reportFrame
  split
  · have hs1 : NoticesOk { s with free := s.free + 1 } := hs
    dsimp only
    split
    · exact (hs1.reportEnds ..).reportFlags _
    · exact (hs1.reportFlags _).reportEnds ..
  · exact (hs.reportEnds ..).reportFlags _

theorem NoticesOk.soundFrame (hs : NoticesOk s) : NoticesOk (soundFrame s) :=
  .settle (.reportFrame (hs.of_link (by simp)) _ _)

theorem NoticesOk.moveEnvelopes (hs : NoticesOk s) : NoticesOk (moveEnvelopes s) :=
  .settle (.reportEnds (hs.of_link (by simp)) _ _)

/-! Rumble driver -/

theorem NoticesOk.heatStep (hs : NoticesOk s) : NoticesOk (heatStep s) := by
  simp only [Machine.heatStep, reportLimiter]
  split
  · split
    · exact hs
    · exact hs.notify _
  · exact hs

theorem NoticesOk.holdStep (hs : NoticesOk s) : NoticesOk (holdStep s) := by
  simp only [Machine.holdStep]
  split
  · exact hs
  · split
    · exact hs
    · split
      · exact hs.notify _
      · exact hs

theorem NoticesOk.advanceStep (hs : NoticesOk s) : NoticesOk (advanceStep s) := by
  simp only [Machine.advanceStep, endStep]
  split
  · exact hs
  · split
    · exact hs
    · split
      · exact hs
      · split
        · exact hs.notify _
        · exact hs

theorem NoticesOk.tickWork (hs : NoticesOk s) : NoticesOk (tickWork s) :=
  .advanceStep (hs.heatStep.holdStep.of_link (by simp))

theorem NoticesOk.place (hs : NoticesOk s) (x : PlayerEntry) : NoticesOk (place x s).1 := by
  simp only [Machine.place, placeWaiting]
  split
  · exact hs
  · split
    · exact hs.notify _
    · split
      · exact hs
      · exact hs.notify _

/-! Save engine -/

theorem NoticesOk.rollIfRolling (hs : NoticesOk s) : NoticesOk (rollIfRolling s) := hs.of_link (by simp)

theorem NoticesOk.reportEnding (hs : NoticesOk s) (id : SlotId) (r : OutcomeRecord) :
    NoticesOk (reportEnding id r s) := by
  cases id
  · exact hs.notify _
  · exact hs

theorem NoticesOk.rewriteDays (hs : NoticesOk s) (id : SlotId) (target : Nat) :
    NoticesOk (rewriteDays id target s) := by
  unfold Machine.rewriteDays
  split
  · exact hs
  · split
    · exact hs.notify _
    · exact hs

theorem NoticesOk.completeCopy (hs : NoticesOk s) (c : Copy) : NoticesOk (completeCopy c s) := by
  unfold Machine.completeCopy
  exact .rollIfRolling (.reportEnding (hs.of_link (by simp)) _ _)

theorem NoticesOk.verifyFault (hs : NoticesOk s) (c : Copy) (pos : Nat) : NoticesOk (verifyFault c pos s) := by
  unfold Machine.verifyFault
  dsimp only
  split
  · simp only [firstFault]
    split
    · exact .startCopy (.reportEnding (hs.notify _) _ _) _ _
    · exact .reportEnding (hs.notify _) _ _
  · exact .rollIfRolling (.rewriteDays (.reportEnding (hs.notify _) _ _) _ _)

theorem NoticesOk.nextPart (hs : NoticesOk s) (c : Copy) : NoticesOk (nextPart c s) := by
  simp only [Machine.nextPart]
  split
  · split
    · exact hs.of_link (by simp)
    · split
      · exact hs.of_link (by simp)
      · exact hs.completeCopy c
  · split
    · exact hs.of_link (by simp)
    · exact hs.completeCopy c

theorem NoticesOk.engineTakes (hs : NoticesOk s) (bytes : List Byte) : NoticesOk (engineTakes bytes s) := by
  unfold Machine.engineTakes
  split
  · unfold commitStepDone
    split
    · unfold afterRead
      split
      · exact hs.of_link (by simp)
      · exact hs.nextPart _
    · exact hs.of_link (by simp)
    · unfold afterReadBack
      split
      · exact hs.verifyFault _ _
      · exact hs.nextPart _
  · exact hs

/-! Start-up and the supply -/

theorem NoticesOk.judgeRegion (hs : NoticesOk s) (region sum : Nat) : NoticesOk (judgeRegion region sum s) := by
  unfold Machine.judgeRegion
  dsimp only
  split
  · exact hs
  · exact hs.notify _

theorem NoticesOk.scanTakes (hs : NoticesOk s) (bytes : List Byte) : NoticesOk (scanTakes bytes s) := by
  unfold Machine.scanTakes
  split
  · simp only [scanBlock]
    split
    · exact hs.of_link (by simp)
    · rename_i sc _ _
      have hh : NoticesOk (handDays sc.region bytes s) := hs.of_link (by simp)
      exact (hh.judgeRegion sc.region (addBlock sc.sum bytes)).of_link (by simp)
  · exact hs

theorem NoticesOk.changeSupply (hs : NoticesOk s) (st : SupplyState) : NoticesOk (changeSupply st s) :=
  hs.notify _

theorem NoticesOk.vslotBecomes (hs : NoticesOk s) (mv : Nat) : NoticesOk (vslotBecomes mv s) := by
  have hw : NoticesOk (warnIfBelow (setVslot mv s)) := by
    unfold warnIfBelow
    split
    · have hm : NoticesOk (Machine.changeSupply .warn (setVslot mv s)) := hs.notify _
      exact .settle (hm.notify _)
    · exact hs
  unfold Machine.vslotBecomes offIfBelow
  split
  · exact queueOk_nil
  · exact hw

theorem NoticesOk.completeMeasurement (hs : NoticesOk s) (mv : Nat) : NoticesOk (completeMeasurement mv s) := by
  simp only [Machine.completeMeasurement]
  split
  · exact hs.notify _
  · exact hs

theorem NoticesOk.afterMeasurement (hs : NoticesOk s) : NoticesOk (afterMeasurement s) := by
  have hr : NoticesOk (if s.save.kept.mark then retentionIntact s else retentionLost s) := by
    split
    · unfold retentionIntact
      split
      · exact hs.notify _
      · exact hs
    · exact hs.notify _
  unfold Machine.afterMeasurement
  split
  · exact .settle (hr.of_queue rfl)
  · exact hs

/-! ## Every step -/

theorem NoticesOk.answer (hs : NoticesOk s) {k : Kind} (h : AnswerEffect k s t) : NoticesOk t := by
  cases h with
  | noticeTaken x rest hq =>
    rw [NoticesOk, hq] at hs
    exact queueOk_tail hs
  | linkSet l hq => exact hs.of_queue hq
  | clockSet => exact (hs.notify _).catchUp.settle
  | turnSet turn =>
    have hd : NoticesOk (setDays { s.days with turnSecond := turn, dirty := true } s) := hs
    exact hd.catchUp.settle
  | unorderedTest x => exact hs.unordered x
  | played =>
    have hp : NoticesOk (playing s) := hs
    exact hp.place _
  | _ => exact hs.of_link (by simp)

theorem NoticesOk.effect (hs : NoticesOk s) (h : EventEffect s t) : NoticesOk t := by
  cases h with
  | nothing => exact hs
  | resetTaken => exact .of_queue (.titleReset s) rfl
  | selection l hqueue => exact hs.endSelection.of_queue hqueue
  | resetLine => exact hs
  | resetLineEnds => exact hs.endSelection
  | resetLineTitle => exact .titleReset _
  | vslot mv => exact hs.vslotBecomes mv
  | offToStart => exact queueOk_nil
  | normalToLow | lowToNormal => exact .settle (hs.changeSupply _)
  | warnRecovery => exact .settle ((hs.changeSupply (recoveryState s)).of_link (by simp))
  | measured mv => exact (hs.completeMeasurement mv).afterMeasurement
  | directoryBurst | linkOpen => exact .settle (hs.of_link (by simp))
  | scanStep a bytes =>
    have hf : NoticesOk (freeBus s) := hs
    exact .settle (hf.scanTakes bytes)
  | dayBlock =>
    have hd := hs.loadDays.catchUp
    exact .settle (hd.notify _)
  | refill => exact .settle (hs.of_link (by simp))
  | linkRead r stale bytes =>
    refine .settle (.of_queue hs ?_)
    unfold deliverRead
    split <;> rfl
  | commitStep cs bytes =>
    have hb : NoticesOk (burstStores cs (freeBus s)) := hs.of_link (by simp)
    exact .settle (hb.engineTakes bytes)
  | tick => exact hs.clockTick
  | frameCounted => exact hs
  | frame =>
    have hc : NoticesOk (countFrame s) := hs
    exact hc.soundFrame
  | envelopes => exact hs.moveEnvelopes
  | driver => exact hs.tickWork

end

/-- Settles O11: every command keeps the queue in order, and ten kinds leave room for ten entries. -/
theorem noticeQueueInvariant : Obligations.NoticeQueueInvariant := by
  intro s t hs h
  have ht : NoticesOk t :=
    step_keeps (P := NoticesOk) (fun _ _ h => h) (fun _ _ hq _ h => h.of_queue hq) (fun _ h => h.endSelection)
      (fun k q arm s h => h.answer (answer_effect k q arm s)) (fun _ _ h he => h.effect he) h hs
  exact ⟨ht, queueOk_length ht⟩

end Sys2Proof.Machine
end

section
/-! PROOF. Catch-ups of the game-day logic (R101 to R106). -/

namespace Sys2Proof.Machine

/-- Two states with the same fields are the same. -/
theorem State.eq_of_fields {s t : State} (hpending : s.pending = t.pending) (hfree : s.free = t.free)
    (hsrst : s.srst = t.srst) (hrom : s.rom = t.rom) (hsram : s.sram = t.sram) (hsupply : s.supply = t.supply)
    (hlink : s.link = t.link) (hdir : s.dir = t.dir) (hport : s.port = t.port) (hsave : s.save = t.save)
    (hclock : s.clock = t.clock) (hdays : s.days = t.days) (hvoices : s.voices = t.voices)
    (hmixer : s.mixer = t.mixer) (hrumble : s.rumble = t.rumble) : s = t := by
  cases s; cases t; simp_all

/-- R192: what a notice does to the link's records follows from those records alone. -/
theorem notify_link_congr {s t : State} (h : s.link = t.link) (n : Notice) : (notify n s).link = (notify n t).link := by
  rw [notify_link, notify_link, h]

/-! ## When a catch-up runs -/

theorem gameDay_of_unset {s : State} (h : s.clock.state = .unset) : gameDay s = none := by
  simp [gameDay, h]

theorem gameDay_of_valid {s : State} (h : s.clock.state = .valid) :
    gameDay s = some (gameDayOf s.clock.day s.clock.second (turnSecond s)) := by
  simp [gameDay, h]

theorem turnSecond_of_inService {s : State} (h : s.days.inService = true) : turnSecond s = s.days.turnSecond := by
  simp [turnSecond, h]

theorem catchUp_of_no_game_day {s : State} (h : s.days.inService = false ∨ gameDay s = none) : catchUp s = s := by
  unfold catchUp
  rcases h with h | h
  · rw [h]; rfl
  · rw [h]; split <;> rfl

theorem catchUp_of_game_day {s : State} {g : Int} (hserv : s.days.inService = true) (hg : gameDay s = some g) :
    catchUp s = reportDue (dueSet g s.days)
      (reportBehind s.days.behind (caughtUp g s.days).behind (setDays (caughtUp g s.days) s)) := by
  rw [catchUp, if_pos hserv, hg]

/-- R102: a catch-up changes the working copy, and queues notices. -/
theorem catchUp_eq (s : State) : catchUp s = { s with days := (catchUp s).days, link := (catchUp s).link } := by
  apply State.eq_of_fields <;> simp

theorem catchUp_days {s : State} {g : Int} (hserv : s.days.inService = true) (hg : gameDay s = some g) :
    (catchUp s).days = caughtUp g s.days := by
  rw [catchUp_of_game_day hserv hg]; simp

/-- R104: the report of a change of the behind flag. -/
theorem reportBehind_link {before after : Bool} {s t : State} (h : t.link = s.link) :
    (reportBehind before after t).link
      = (if before = after then s else notify (.clockState (if after then .behind else .ahead)) s).link := by
  unfold reportBehind
  split
  · exact h
  · exact notify_link_congr h _

/-- R106: the report of the counters that came due. -/
theorem reportDue_link {due : BitVec 8} {s t : State} (h : t.link = s.link) :
    (reportDue due t).link
      = (if due = 0 then s else notify (.dayDue due (totalPasses t.days.counters)) s).link := by
  unfold reportDue
  split
  · exact h
  · exact notify_link_congr h _

/-- R104, R106: the notices of a catch-up, in their order. -/
theorem catchUp_link {s : State} {g : Int} (hserv : s.days.inService = true) (hg : gameDay s = some g) :
    (catchUp s).link = (if dueSet g s.days = 0 then
        (if s.days.behind = (caughtUp g s.days).behind then s
          else notify (.clockState (if (caughtUp g s.days).behind then .behind else .ahead)) s)
      else notify (.dayDue (dueSet g s.days) (totalPasses (caughtUp g s.days).counters))
        (if s.days.behind = (caughtUp g s.days).behind then s
          else notify (.clockState (if (caughtUp g s.days).behind then .behind else .ahead)) s)).link := by
  have hd : (setDays (caughtUp g s.days) s).link = s.link := rfl
  rw [catchUp_of_game_day hserv hg, reportDue_link (reportBehind_link hd), reportBehind_days, setDays_days]

/-! ## The counters that come due -/

theorem dueSet_of_not_above {g : Int} {d : Days} (h : catchUpBy g d = 0) : dueSet g d = 0 := by
  simp [dueSet, h]

theorem catchUpBy_of_none {g : Int} {d : Days} (h : d.highDay = none) : catchUpBy g d = 0 := by
  simp [catchUpBy, h]

theorem catchUpBy_of_some {g h : Int} {d : Days} (hd : d.highDay = some h) : catchUpBy g d = (g - h).toNat := by
  simp [catchUpBy, hd]

/-- R106: bit `i` of the set of counters that come due. -/
theorem getLsbD_dueSet {g : Int} {d : Days} (hpos : catchUpBy g d ≠ 0) {i : Nat} (hi : i < 8) :
    (dueSet g d).getLsbD i = true ↔ (counterOf d.counters i).state = .armed
      ∧ (counterOf d.counters i).remaining ≤ catchUpBy g d := by
  rw [dueSet, if_neg hpos, getLsbD_maskOf _ _ hi, comesDue]
  simp

theorem dueSet_eq_zero_iff {g : Int} {d : Days} (hpos : catchUpBy g d ≠ 0) :
    dueSet g d = 0 ↔ ∀ i, i < 8 → (counterOf d.counters i).state = .armed →
      catchUpBy g d < (counterOf d.counters i).remaining := by
  rw [dueSet, if_neg hpos, maskOf_eq_zero]
  simp [comesDue]

theorem counterOf_advanceAll (k : Nat) (cs : Vector Counter 8) {i : Nat} (hi : i < 8) :
    counterOf (advanceAll k cs) i = advanceCounter k (counterOf cs i) := by
  simp [counterOf, advanceAll, hi]

/-! ## The update of the working copy (R103, R104) -/

theorem caughtUp_of_none {g : Int} {d : Days} (h : d.highDay = none) :
    caughtUp g d = { d with highDay := some g, behind := false, dirty := true } := by
  simp [caughtUp, h]

theorem caughtUp_of_below {g h : Int} {d : Days} (hd : d.highDay = some h) (hlt : g < h) :
    caughtUp g d = { d with behind := true } := by
  simp [caughtUp, hd, hlt]

theorem caughtUp_of_at {h : Int} {d : Days} (hd : d.highDay = some h) :
    caughtUp h d = { d with behind := false } := by
  simp [caughtUp, hd]

theorem caughtUp_of_above {g h : Int} {d : Days} (hd : d.highDay = some h) (hlt : h < g) :
    caughtUp g d
      = { d with highDay := some g, counters := advanceAll (g - h).toNat d.counters, behind := false, dirty := true } := by
  simp [caughtUp, hd, hlt.not_gt, hlt.ne']

/-- AHEAD, where the behind flag was set and is now clear. -/
theorem report_ahead (b : Bool) (s : State) :
    (if b = false then s else notify (.clockState (if false = true then .behind else .ahead)) s)
      = if b then notify (.clockState .ahead) s else s := by
  cases b <;> rfl

/-- BEHIND, where the behind flag was clear and is now set. -/
theorem report_behind (b : Bool) (s : State) :
    (if b = true then s else notify (.clockState (if true = true then .behind else .ahead)) s)
      = if b then s else notify (.clockState .behind) s := by
  cases b <;> rfl

/-- Settles O36: the working copy and the notices, by where the game day stands to the high day. -/
theorem catchUpFollowsTheHighDay : Obligations.CatchUpFollowsTheHighDay := by
  intro s
  constructor
  · rintro (h | h)
    · exact catchUp_of_no_game_day (.inr (gameDay_of_unset h))
    · exact catchUp_of_no_game_day (.inl h)
  intro g hv hserv hg
  have hgame : gameDay s = some g := by
    rw [gameDay_of_valid hv, turnSecond_of_inService hserv, hg, gameDayOf]
  have hdays := catchUp_days hserv hgame
  have hlink := catchUp_link hserv hgame
  refine ⟨catchUp_eq s, fun hnone => ?_, fun h hh hlt => ?_, fun h hh heq => ?_, fun h k hh heq hk => ?_⟩
  · rw [dueSet_of_not_above (catchUpBy_of_none hnone), if_pos rfl, caughtUp_of_none hnone, report_ahead] at hlink
    exact ⟨hdays.trans (caughtUp_of_none hnone), by rw [hlink]⟩
  · have hzero : catchUpBy g s.days = 0 := by rw [catchUpBy_of_some hh]; omega
    rw [dueSet_of_not_above hzero, if_pos rfl, caughtUp_of_below hh hlt, report_behind] at hlink
    exact ⟨hdays.trans (caughtUp_of_below hh hlt), by rw [hlink]⟩
  · subst heq
    have hzero : catchUpBy g s.days = 0 := by rw [catchUpBy_of_some hh]; omega
    rw [dueSet_of_not_above hzero, if_pos rfl, caughtUp_of_at hh, report_ahead] at hlink
    exact ⟨hdays.trans (caughtUp_of_at hh), by rw [hlink]⟩
  · have hby : catchUpBy g s.days = k := by rw [catchUpBy_of_some hh]; omega
    have hpos : catchUpBy g s.days ≠ 0 := by omega
    have habove := caughtUp_of_above hh (show h < g by omega)
    rw [show (g - h).toNat = k by omega] at habove
    rw [habove] at hdays hlink
    rw [report_ahead] at hlink
    have hcount : ∀ i, i < 8 → counterOf (catchUp s).days.counters i = advanceCounter k (counterOf s.days.counters i) := by
      intro i hi
      rw [hdays]
      exact counterOf_advanceAll k _ hi
    refine ⟨by rw [hdays], hcount, fun hnone => ?_, ?_⟩
    · rw [if_pos ((dueSet_eq_zero_iff hpos).mpr (by rwa [hby]))] at hlink
      rw [hlink]
    · rintro ⟨i, hi, harmed, hle⟩
      have hdue : dueSet g s.days ≠ 0 := by
        rw [Ne, dueSet_eq_zero_iff hpos, hby]
        exact fun hall => (hall i hi harmed).not_ge hle
      rw [if_neg hdue] at hlink
      refine ⟨dueSet g s.days, _, fun j hj => hby ▸ getLsbD_dueSet hpos hj, rfl, ?_⟩
      rw [hlink, hdays]
      rfl

end Sys2Proof.Machine
end

section
/-! PROOF. The durable day block (R202, R118), and the fill that hands it to the clock slot (R50, R115). -/

namespace Sys2Proof.Machine

/-! ## Fields of a byte string -/

/-- A field that begins in a known tail. -/
theorem field_of_drop {bs rest : List Byte} {o : Nat} (h : bs.drop o = rest) (k n : Nat) :
    field bs (o + k) n = leNat ((rest.drop k).take n) := by
  rw [field, ← h, List.drop_drop]

theorem leNat_leBytes_of_lt {n v : Nat} (h : v < 256 ^ n) : leNat (leBytes n v) = v := by
  rw [leNat_leBytes, Nat.mod_eq_of_lt h]

theorem leNat_take_leBytes {n v : Nat} (rest : List Byte) (h : v < 256 ^ n) :
    leNat ((leBytes n v ++ rest).take n) = v := by
  have hlen : (leBytes n v).length = n := leBytes_length n v
  rw [List.take_left' hlen, leNat_leBytes_of_lt h]

/-- The `i`-th of equally long pieces, and what follows it. -/
theorem drop_flatten_range' {f : Nat → List Byte} {m : Nat} (hf : ∀ j, (f j).length = m) (tail : List Byte) :
    ∀ n a i, i < n → ∃ rest, (((List.range' a n).map f).flatten ++ tail).drop (m * i) = f (a + i) ++ rest := by
  intro n
  induction n with
  | zero => intro a i hi; omega
  | succ n ih =>
    intro a i hi
    rw [List.range'_succ, List.map_cons, List.flatten_cons, List.append_assoc]
    cases i with
    | zero => exact ⟨_, rfl⟩
    | succ i =>
      obtain ⟨rest, hrest⟩ := ih (a + 1) i (by omega)
      refine ⟨rest, ?_⟩
      rw [show m * (i + 1) = (f a).length + m * i by rw [hf, Nat.mul_succ, Nat.add_comm], ← List.drop_drop,
        List.drop_left, hrest, Nat.add_right_comm, Nat.add_assoc]

/-! ## The 64 bytes (R202) -/

@[simp] theorem counterBytes_length (c : Counter) : (counterBytes c).length = 6 := by simp [counterBytes]

@[simp] theorem highDayBytes_length (h : Option Int) : (highDayBytes h).length = 4 := by
  cases h <;> simp [highDayBytes]

@[simp] theorem dayBlockBytes_length (d : Days) : (dayBlockBytes d).length = 64 := by
  simp [dayBlockBytes, List.length_flatten, Function.comp_def]

theorem dayBlockBytes_turnSecond (d : Days) (h : d.turnSecond ≤ 86399) : field (dayBlockBytes d) 0 4 = d.turnSecond := by
  rw [field, List.drop_zero, dayBlockBytes, List.append_assoc, List.append_assoc, leNat_take_leBytes _ (by omega)]

theorem dayBlockBytes_highDay (d : Days) : field (dayBlockBytes d) 4 4 = leNat (highDayBytes d.highDay) := by
  have h4 : (leBytes 4 d.turnSecond).length = 4 := by simp
  have hh : (highDayBytes d.highDay).length = 4 := by simp
  rw [field, dayBlockBytes, List.append_assoc, List.append_assoc, List.drop_left' h4, List.take_left' hh]

/-- Counter `i` stands at byte 8 + 6i. -/
theorem dayBlockBytes_drop (d : Days) {i : Nat} (hi : i < 8) :
    ∃ rest, (dayBlockBytes d).drop (8 + 6 * i) = counterBytes (counterOf d.counters i) ++ rest := by
  have h8 : (leBytes 4 d.turnSecond ++ highDayBytes d.highDay).length = 8 := by simp
  obtain ⟨rest, hrest⟩ := drop_flatten_range' (f := fun i => counterBytes (counterOf d.counters i)) (m := 6)
    (fun _ => counterBytes_length _) (List.replicate 8 0x00#8) 8 0 i hi
  refine ⟨rest, ?_⟩
  rw [dayBlockBytes, List.append_assoc, ← List.drop_drop, List.drop_left' h8, List.range_eq_range', hrest, Nat.zero_add]

/-! ## Loading a block (R118) -/

theorem counterStateOf_code (st : CounterState) : counterStateOf (counterStateCode st) = some st := by
  cases st <;> rfl

theorem counterStateCode_lt (st : CounterState) : counterStateCode st < 256 := by
  cases st <;> decide

theorem counterLoads_passes {c : Counter} (h : counterLoads c = true) : c.passes ≤ 255 := by
  simp only [counterLoads, Bool.and_eq_true, decide_eq_true_eq] at h
  exact h.1

/-- A counter within its ranges loads back from its six bytes. -/
theorem loadCounter_of_drop {bs rest : List Byte} {i : Nat} {c : Counter}
    (hbs : bs.drop (8 + 6 * i) = counterBytes c ++ rest) (hc : counterLoads c = true) (hr : c.remaining ≤ 65535)
    (hp : c.period ≤ 65535) : loadCounter bs i = some c := by
  have hpass := counterLoads_passes hc
  have hst := counterStateCode_lt c.state
  have hstate : field bs (8 + 6 * i) 1 = counterStateCode c.state := by
    rw [← Nat.add_zero (8 + 6 * i), field_of_drop hbs]
    simp [counterBytes, leNat]
    omega
  have hremaining : field bs (9 + 6 * i) 2 = c.remaining := by
    rw [show 9 + 6 * i = 8 + 6 * i + 1 by omega, field_of_drop hbs]
    simp [counterBytes, leNat, leBytes]
    omega
  have hperiod : field bs (11 + 6 * i) 2 = c.period := by
    rw [show 11 + 6 * i = 8 + 6 * i + 3 by omega, field_of_drop hbs]
    simp [counterBytes, leNat, leBytes]
    omega
  have hpasses : field bs (13 + 6 * i) 1 = c.passes := by
    rw [show 13 + 6 * i = 8 + 6 * i + 5 by omega, field_of_drop hbs]
    simp [counterBytes, leNat, leBytes]
    omega
  simp only [loadCounter, hstate, counterStateOf_code, hremaining, hperiod, hpasses]
  rw [if_pos hc]

/-- A high day within its range loads back from its four bytes. -/
theorem loadHighDay_bytes {h : Option Int} (hh : ∀ v, h = some v → -1 ≤ v ∧ v ≤ 36524) :
    loadHighDay (leNat (highDayBytes h)) = some h := by
  cases h with
  | none => rfl
  | some v =>
    obtain ⟨hlo, hhi⟩ := hh v rfl
    have hv : leNat (highDayBytes (some v)) = (v % 4294967296).toNat := by
      rw [highDayBytes, leInt, leNat_leBytes_of_lt]
      · rfl
      · norm_num
        omega
    have hsigned : signedOf 4 (v % 4294967296).toNat = v := by
      unfold signedOf
      norm_num
      split <;> omega
    rw [hv, loadHighDay, if_neg (by omega), hsigned, if_pos ⟨hlo, hhi⟩]

theorem counterOf_eq_getElem (cs : Vector Counter 8) (i : Fin 8) : counterOf cs i = cs[i] := by
  simp [counterOf]

theorem loadDayBlock_dayBlockBytes {d : Days} (hd : DaysOk d) :
    loadDayBlock (dayBlockBytes d) = some (d.turnSecond, d.highDay, d.counters) := by
  obtain ⟨hturn, hhigh, hcounters⟩ := hd
  have hload : ∀ i, i < 8 → loadCounter (dayBlockBytes d) i = some (counterOf d.counters i) := by
    intro i hi
    obtain ⟨rest, hrest⟩ := dayBlockBytes_drop d hi
    obtain ⟨hc, hr, hp⟩ := hcounters i hi
    exact loadCounter_of_drop hrest hc hr hp
  have hall : (List.range 8).all (fun i => (loadCounter (dayBlockBytes d) i).isSome) = true := by
    rw [List.all_eq_true]
    intro i hi
    rw [hload i (List.mem_range.mp hi)]
    rfl
  have hvec : Vector.ofFn (fun i : Fin 8 => (loadCounter (dayBlockBytes d) i).getD {}) = d.counters := by
    ext i hi
    rw [Vector.getElem_ofFn, hload i hi, Option.getD_some]
    exact counterOf_eq_getElem d.counters ⟨i, hi⟩
  simp only [loadDayBlock, dayBlockBytes_highDay, loadHighDay_bytes hhigh, dayBlockBytes_turnSecond d hturn, hall,
    hturn, hvec, and_self, if_true]

/-- What a block that passes the load checks can hold. -/
theorem loadDayBlock_ranges {bs : List Byte} {turn : Nat} {high : Option Int} {counters : Vector Counter 8}
    (h : loadDayBlock bs = some (turn, high, counters)) :
    turn ≤ 86399 ∧ (∀ v, high = some v → -1 ≤ v ∧ v ≤ 36524)
      ∧ ∀ i, i < 8 → loadCounter bs i = some (counterOf counters i) := by
  simp only [loadDayBlock] at h
  split at h
  · cases h
  · rename_i hd hhd
    split at h
    · rename_i hcond
      simp only [Option.some.injEq, Prod.mk.injEq] at h
      obtain ⟨rfl, rfl, rfl⟩ := h
      refine ⟨hcond.1, fun v hv => ?_, fun i hi => ?_⟩
      · subst hv
        unfold loadHighDay at hhd
        split at hhd
        · cases hhd
        · split at hhd
          · rename_i hrange
            cases hhd
            exact hrange
          · cases hhd
      · have hsome := List.all_eq_true.mp hcond.2 i (List.mem_range.mpr hi)
        rw [show counterOf (Vector.ofFn fun i : Fin 8 => (loadCounter bs i).getD {}) i = (loadCounter bs i).getD {} by
          simp [counterOf, hi]]
        obtain ⟨c, hc⟩ := Option.isSome_iff_exists.mp hsome
        rw [hc, Option.getD_some]
    · cases h

/-- A counter that loads is within its ranges. -/
theorem loadCounter_ranges {bs : List Byte} {i : Nat} {c : Counter} (h : loadCounter bs i = some c) :
    counterLoads c = true ∧ c.remaining ≤ 65535 ∧ c.period ≤ 65535 := by
  simp only [loadCounter] at h
  split at h
  · cases h
  · split at h
    · rename_i hl
      cases h
      have h1 := field_lt bs (9 + 6 * i) 2
      have h2 := field_lt bs (11 + 6 * i) 2
      exact ⟨hl, by dsimp only; omega, by dsimp only; omega⟩
    · cases h

/-! ## The fill (R50, R115) -/

theorem fillClock_of_not_due {s : State} (h : fillDue s = false) : fillClock s = s := by
  simp [fillClock, h]

theorem fillClock_of_no_region {s : State} (h : daysRegion s = none) : fillClock s = s := by
  unfold fillClock
  split
  · rw [h]
  · rfl

theorem fillDue_iff {s : State} : fillDue s = true ↔ s.days.inService = true ∧ s.days.dirty = true
    ∧ s.save.kept.clock.state = .free ∧ s.supply.state ≠ .warn ∧ s.supply.state ≠ .off := by
  simp [fillDue, inWarn, slotUp, and_assoc]

theorem fillClock_of_due {s : State} {sel : Nat} (h : fillDue s = true) (hsel : daysRegion s = some sel) :
    fillClock s = joinQueue .clock
      (setDays { s.days with dirty := false, rebuilt := false } (setSlot .clock (filledClockSlot s sel) s)) := by
  rw [fillClock, if_pos h, hsel]

/-- R34: the order of a slot behind which another joins. -/
theorem slot_order_kept (sl : Slot) : { sl with order := if sl.order = 0 then 0 else 1 }
    = if sl.order = 0 then sl else { sl with order := 1 } := by
  split
  · rename_i h
    obtain ⟨⟩ := sl
    simp_all
  · rfl

/-- R34: the clock slot joins the queue behind the title slot's order. -/
theorem joinQueue_clock_eq (s : State) : joinQueue .clock s = { s with save := { s.save with kept := { s.save.kept with
    queue := s.save.kept.queue ++ [.clock]
    title := { s.save.kept.title with order := if s.save.kept.title.order = 0 then 0 else 1 }
    clock := { s.save.kept.clock with
      state := .pending, held := false, order := if s.save.kept.title.order = 0 then 1 else 2 } } } } := by
  rw [slot_order_kept]
  by_cases h : s.save.kept.title.order = 0
  · simp only [joinQueue, otherSlot, slotAt, h, if_true]
    rfl
  · simp only [joinQueue, otherSlot, slotAt, h, if_false]
    rfl

/-- Settles O40: the round trip field by field, and the fill's conditions and effect. -/
theorem dayBlockRoundTrips : Obligations.DayBlockRoundTrips := by
  refine ⟨fun d hd => ⟨dayBlockBytes_length d, loadDayBlock_dayBlockBytes hd⟩, ?_, ?_⟩
  · intro s h
    by_cases hregion : daysRegion s = none
    · exact fillClock_of_no_region hregion
    · refine fillClock_of_not_due (Bool.eq_false_iff.mpr fun hdue => ?_)
      obtain ⟨h1, h2, h3, h4, h5⟩ := fillDue_iff.mp hdue
      simp_all
  · intro s sel h1 h2 h3 h4 h5 hsel
    rw [fillClock_of_due (fillDue_iff.mpr ⟨h1, h2, h3, h4, h5⟩) hsel, joinQueue_clock_eq]
    have hfull : ((recordAt s sel).state == .blank || (recordAt s sel).state == .damaged || s.days.rebuilt)
        = decide ((recordAt s sel).state = .blank ∨ (recordAt s sel).state = .damaged ∨ s.days.rebuilt = true) := by
      cases (recordAt s sel).state <;> cases s.days.rebuilt <;> rfl
    simp only [setDays, setSlot, setKept, filledClockSlot, freedSlot, hfull]

end Sys2Proof.Machine
end

section
/-! PROOF. The calendar's invariant (R82, R83, R99, R100): every step keeps the clock and the working copy of the day block
within their ranges. -/

namespace Sys2Proof.Machine

/-- The clock and the working copy are within their ranges. -/
def CalendarOk (s : State) : Prop := ClockOk s.clock ∧ DaysOk s.days

/-! ## The clock -/

theorem clockOk_reset : ClockOk {} := by simp [ClockOk]

theorem clockOk_divider {c : Clock} (h : ClockOk c) (n : Nat) : ClockOk { c with divider := n } := h

theorem clockOk_pendingLimit {c : Clock} (h : ClockOk c) (b : Bool) : ClockOk { c with pendingLimit := b } := h

theorem clockOk_endedClock {c : Clock} (h : ClockOk c) : ClockOk (endedClock c) := by
  obtain ⟨-, -, -, htrim1, htrim2, -, -⟩ := h
  exact ⟨Nat.zero_le _, Nat.zero_le _, Nat.zero_le _, htrim1, htrim2, Nat.zero_le _, fun _ => ⟨rfl, rfl, rfl, rfl⟩⟩

theorem clockOk_lostClock (c : Clock) : ClockOk (lostClock c) := by simp [ClockOk, lostClock]

theorem clockOk_setClock {c : Clock} (h : ClockOk c) {day second : Nat} (hday : day ≤ 36524) (hsecond : second ≤ 86399) :
    ClockOk (setClock day second c) := by
  simp only [ClockOk] at h
  simp only [ClockOk, setClock, reduceCtorEq, false_imp_iff, and_true]
  omega

theorem clockOk_trim {c : Clock} (h : ClockOk c) (v : Int) : ClockOk { c with trim := clampTrim v } := by
  obtain ⟨hsub, hsec, hday, -, -, hadj, hunset⟩ := h
  exact ⟨hsub, hsec, hday, by dsimp only [clampTrim]; omega, by dsimp only [clampTrim]; omega, hadj, hunset⟩

/-- R83: the adjustment count after a tick of a VALID clock, whose other fields are `c'`. -/
theorem clockOk_adjusted {c c' : Clock} (h : ClockOk c) (hvalid : c'.state = .valid) (hsub : c'.subsecond ≤ 1023)
    (hsec : c'.second ≤ 86399) (hday : c'.day ≤ 36524) (htrim : c'.trim = c.trim) : ClockOk (adjusted c c') := by
  obtain ⟨-, -, -, htrim1, htrim2, hadj, -⟩ := h
  unfold adjusted
  split <;>
    exact ⟨hsub, hsec, hday, htrim ▸ htrim1, htrim ▸ htrim2, by dsimp only; omega, by simp [hvalid]⟩

theorem nextSecond_le {c : Clock} (h : c.second ≤ 86399) : nextSecond c ≤ 86399 := by
  unfold nextSecond; split <;> omega

/-- R82: a tick that is not the end of range keeps the ranges. -/
theorem clockOk_tickedClock {c : Clock} (h : ClockOk c) (hend : atEndOfRange c = false) : ClockOk (tickedClock c) := by
  have ⟨hsub, hsec, hday, _⟩ := h
  unfold tickedClock
  split
  · exact clockOk_divider h 0
  · rename_i hv
    split
    · exact clockOk_adjusted h hv (by dsimp only; omega) hsec hday rfl
    · rename_i hlast
      simp only [atEndOfRange, hv, beq_self_eq_true, Bool.true_and, decide_eq_false_iff_not] at hend
      refine clockOk_adjusted h hv (by simp) (nextSecond_le hsec) ?_ rfl
      dsimp only
      split <;> omega

/-! ## The working copy -/

theorem daysOk_congr {d d' : Days} (h : DaysOk d) (hturn : d'.turnSecond = d.turnSecond) (hhigh : d'.highDay = d.highDay)
    (hcounters : d'.counters = d.counters) : DaysOk d' := by
  rwa [DaysOk, hturn, hhigh, hcounters]

theorem counterOf_replicate {i : Nat} (hi : i < 8) : counterOf (Vector.replicate 8 {}) i = {} := by
  simp [counterOf, hi]

theorem daysOk_blank : DaysOk {} := by
  refine ⟨by simp, by simp, fun i hi => ?_⟩
  rw [counterOf_replicate hi]
  decide

/-- R101: the game day of a clock within its ranges. -/
theorem gameDayOf_range {day second turn : Nat} (h : day ≤ 36524) :
    -1 ≤ gameDayOf day second turn ∧ gameDayOf day second turn ≤ 36524 := by
  unfold gameDayOf; split <;> omega

theorem gameDay_range {s : State} {g : Int} (h : ClockOk s.clock) (hg : gameDay s = some g) : -1 ≤ g ∧ g ≤ 36524 := by
  obtain ⟨-, -, hday, -⟩ := h
  unfold gameDay at hg
  split at hg
  · cases hg
  · cases hg
    exact gameDayOf_range hday

/-- An advance keeps remaining and period below 65536. -/
theorem advanceCounter_fields_le {c : Counter} (k : Nat) (hr : c.remaining ≤ 65535) (hp : c.period ≤ 65535) :
    (advanceCounter k c).remaining ≤ 65535 ∧ (advanceCounter k c).period ≤ 65535 := by
  grind [advanceCounter]

theorem daysOk_caughtUp {d : Days} {g : Int} (h : DaysOk d) (hg : -1 ≤ g ∧ g ≤ 36524) : DaysOk (caughtUp g d) := by
  obtain ⟨hturn, hhigh, hcounters⟩ := h
  have hnew : ∀ v, some g = some v → -1 ≤ v ∧ v ≤ 36524 := by
    rintro v ⟨⟩
    exact hg
  unfold caughtUp
  split
  · exact ⟨hturn, hnew, hcounters⟩
  · split_ifs
    · exact ⟨hturn, hhigh, hcounters⟩
    · exact ⟨hturn, hhigh, hcounters⟩
    · refine ⟨hturn, hnew, fun i hi => ?_⟩
      obtain ⟨hl, hr, hp⟩ := hcounters i hi
      dsimp only
      rw [counterOf_advanceAll _ _ hi]
      exact ⟨counterLoads_advanceCounter hl _, advanceCounter_fields_le _ hr hp⟩

theorem counterOf_setIfInBounds (cs : Vector Counter 8) (n i : Nat) (c : Counter) (hi : i < 8) :
    counterOf (cs.setIfInBounds n c) i = if n = i then c else counterOf cs i := by
  by_cases h : n = i
  · subst h; simp [counterOf, hi]
  · simp [counterOf, h]

/-- A counter within its ranges put in another's place. -/
theorem daysOk_putCounter {d : Days} {c : Counter} (h : DaysOk d) (n : Nat) (dirty : Bool)
    (hc : n < 8 → counterLoads c = true ∧ c.remaining ≤ 65535 ∧ c.period ≤ 65535) :
    DaysOk { d with counters := d.counters.setIfInBounds n c, dirty := dirty } := by
  obtain ⟨hturn, hhigh, hcounters⟩ := h
  refine ⟨hturn, hhigh, fun i hi => ?_⟩
  dsimp only
  rw [counterOf_setIfInBounds _ _ _ _ hi]
  split
  · exact hc (by omega)
  · exact hcounters i hi

theorem clampRemaining_le {r p : Nat} (hr : r ≤ 65535) : clampRemaining r p ≤ 65535 := by
  unfold clampRemaining
  dsimp only
  split <;> omega

theorem counterLoads_armedCounter {r p : Nat} : counterLoads (armedCounter r p) = true := by
  simp only [armedCounter, counterLoads_armed_iff, clampRemaining]
  split <;> omega

theorem counterLoads_disarmed {c : Counter} (h : counterLoads c = true) :
    counterLoads { c with state := .disarmed } = true := by
  simpa [counterLoads] using counterLoads_passes h

theorem counterLoads_ackedCounter {c : Counter} (h : counterLoads c = true) : counterLoads (ackedCounter c) = true := by
  match c with
  | ⟨.disarmed, _, _, _⟩ => simp [ackedCounter, counterLoads]
  | ⟨.due, _, _, _⟩ => simp [ackedCounter, counterLoads]
  | ⟨.armed, _, _, _⟩ =>
    rw [counterLoads_armed_iff] at h
    exact counterLoads_armed_iff.mpr ⟨Nat.zero_le _, h.2⟩

/-! ## What the operations do to the calendar -/

section

variable {s t : State}

theorem CalendarOk.of_fields (hs : CalendarOk s) (hclock : t.clock = s.clock := by simp)
    (hdays : t.days = s.days := by simp) : CalendarOk t := by
  rwa [CalendarOk, hclock, hdays]

theorem CalendarOk.settle (hs : CalendarOk s) : CalendarOk (settle s) :=
  ⟨(settle_clock s).symm ▸ hs.1, daysOk_congr hs.2 (by simp) (by simp) (by simp)⟩

theorem CalendarOk.titleReset (hs : CalendarOk s) : CalendarOk (titleReset s) :=
  ⟨(titleReset_clock s).symm ▸ hs.1, by
    have hd : (Machine.titleReset s).days = { s.days with sticky := false } := by simp [Machine.titleReset]
    rw [hd]
    exact hs.2⟩

theorem CalendarOk.endSelection (hs : CalendarOk s) : CalendarOk (endSelection s) := by
  unfold Machine.endSelection
  split
  · exact hs
  · exact hs
  · exact hs
  · split
    · exact .of_fields hs.titleReset
    · exact hs

theorem CalendarOk.catchUp (hs : CalendarOk s) : CalendarOk (catchUp s) := by
  refine ⟨(catchUp_clock s).symm ▸ hs.1, ?_⟩
  by_cases hserv : s.days.inService = true
  · cases hg : gameDay s with
    | none => rw [catchUp_of_no_game_day (.inr hg)]; exact hs.2
    | some g =>
      rw [catchUp_days hserv hg]
      exact daysOk_caughtUp hs.2 (gameDay_range hs.1 hg)
  · rw [catchUp_of_no_game_day (.inl (by simpa using hserv))]
    exact hs.2

theorem CalendarOk.clockTick (hs : CalendarOk s) : CalendarOk (clockTick s) := by
  unfold Machine.clockTick
  split
  · have he : ClockOk (endedClock s.clock) := clockOk_endedClock hs.1
    unfold endRange reportLimit
    split
    · exact .of_fields (s := { s with clock := endedClock s.clock }) ⟨he, hs.2⟩
    · exact ⟨clockOk_pendingLimit he true, hs.2⟩
  · rename_i hend
    have ht : CalendarOk { s with clock := tickedClock s.clock } :=
      ⟨clockOk_tickedClock hs.1 (by simpa using hend), hs.2⟩
    dsimp only
    split
    · exact .settle (.of_fields ht.catchUp)
    · exact ht

theorem CalendarOk.putCounter (hs : CalendarOk s) {c : Counter} (n : Nat) (changed : Bool)
    (hc : n < 8 → counterLoads c = true ∧ c.remaining ≤ 65535 ∧ c.period ≤ 65535) :
    CalendarOk (putCounter n c changed s) :=
  ⟨hs.1, daysOk_putCounter hs.2 n _ hc⟩

theorem CalendarOk.loadDays (hs : CalendarOk s) : CalendarOk (loadDays s) := by
  refine ⟨(loadDays_clock s).symm ▸ hs.1, ?_⟩
  unfold Machine.loadDays
  split
  · exact hs.2
  · split
    · rename_i turn high counters hblock
      unfold durableBlock at hblock
      split at hblock
      · obtain ⟨bs, -, hload⟩ := Option.bind_eq_some_iff.mp hblock
        obtain ⟨hturn, hhigh, hcounters⟩ := loadDayBlock_ranges hload
        exact ⟨hturn, hhigh, fun i hi => loadCounter_ranges (hcounters i hi)⟩
      · cases hblock
    · rw [notify_days]
      exact daysOk_congr daysOk_blank rfl rfl rfl

theorem CalendarOk.rewriteDays (hs : CalendarOk s) (id : SlotId) (target : Nat) (hclock : t.clock = s.clock := by simp)
    (hdays : t.days = s.days := by simp) : CalendarOk (rewriteDays id target t) := by
  have ht : CalendarOk t := hs.of_fields hclock hdays
  unfold Machine.rewriteDays
  split
  · exact ht
  · split
    · exact .of_fields (s := setDays { t.days with dirty := true, rebuilt := true } t) ht
    · exact ht

theorem CalendarOk.rollIfRolling (hs : CalendarOk s) : CalendarOk (rollIfRolling s) := hs.of_fields

theorem CalendarOk.verifyFault (hs : CalendarOk s) (c : Copy) (pos : Nat) : CalendarOk (verifyFault c pos s) := by
  unfold Machine.verifyFault
  dsimp only
  split
  · exact hs.of_fields
  · exact .rollIfRolling (hs.rewriteDays _ _)

theorem CalendarOk.engineTakes (hs : CalendarOk s) (bytes : List Byte) : CalendarOk (engineTakes bytes s) := by
  unfold Machine.engineTakes
  split
  · unfold commitStepDone
    split
    · exact hs.of_fields
    · exact hs.of_fields
    · unfold afterReadBack
      split
      · exact hs.verifyFault _ _
      · exact hs.of_fields
  · exact hs

theorem CalendarOk.scanTakes (hs : CalendarOk s) (bytes : List Byte) : CalendarOk (scanTakes bytes s) := by
  unfold Machine.scanTakes
  split
  · rename_i sc _
    have hh : CalendarOk (handDays sc.region bytes s) := by
      unfold handDays
      split
      · exact hs
      · exact hs
    simp only [scanBlock]
    split
    · exact .of_fields hh
    · exact .of_fields hh
  · exact hs

theorem CalendarOk.afterMeasurement (hs : CalendarOk s) : CalendarOk (afterMeasurement s) := by
  have hr : CalendarOk (if s.save.kept.mark then retentionIntact s else retentionLost s) := by
    split
    · unfold retentionIntact
      split
      · exact .of_fields (s := { s with clock := { s.clock with pendingLimit := false } }) hs
      · exact hs
    · refine .of_fields (s := { s with clock := lostClock s.clock }) ⟨clockOk_lostClock s.clock, hs.2⟩ ?_ ?_ <;>
        simp [retentionLost]
  unfold Machine.afterMeasurement
  split
  · exact .settle (hr.of_fields rfl rfl)
  · exact hs

theorem CalendarOk.vslotBecomes (hs : CalendarOk s) (mv : Nat) : CalendarOk (vslotBecomes mv s) := by
  have hw : CalendarOk (warnIfBelow (setVslot mv s)) := by
    unfold warnIfBelow
    split
    · exact .settle hs.of_fields
    · exact hs
  unfold Machine.vslotBecomes offIfBelow
  split
  · exact ⟨hw.1, daysOk_blank⟩
  · exact hw

/-! ## Every step -/

theorem CalendarOk.answer (hs : CalendarOk s) {k : Kind} (h : AnswerEffect k s t) : CalendarOk t := by
  cases h with
  | clockSet day second hday hsecond =>
    have hc : CalendarOk { s with clock := setClock day second s.clock } :=
      ⟨clockOk_setClock hs.1 hday hsecond, hs.2⟩
    exact (CalendarOk.of_fields hc).catchUp.settle
  | trimSet v => exact ⟨clockOk_trim hs.1 v, hs.2⟩
  | turnSet turn hturn =>
    have hd : CalendarOk (setDays { s.days with turnSecond := turn, dirty := true } s) := ⟨hs.1, hturn, hs.2.2⟩
    exact hd.catchUp.settle
  | counterArmed i r p hr hp =>
    exact (hs.putCounter _ _ fun _ => ⟨counterLoads_armedCounter, clampRemaining_le hr, hp⟩).settle
  | counterDisarmed =>
    refine (hs.putCounter _ _ fun hn => ?_).settle
    obtain ⟨hl, hr, hp⟩ := hs.2.2.2 _ hn
    exact ⟨counterLoads_disarmed hl, hr, hp⟩
  | counterAcked =>
    refine (hs.putCounter _ _ fun hn => ?_).settle
    obtain ⟨hl, hr, hp⟩ := hs.2.2.2 _ hn
    exact ⟨counterLoads_ackedCounter hl, hr, hp⟩
  | unorderedTest x =>
    exact .of_fields (s := setDays { s.days with sticky := true } s) hs (by simp) (by simp [unordered])
  | titleQueued | eraseQueued | voiceSetUp | keyOn => exact .settle hs.of_fields
  | _ => exact hs.of_fields

theorem CalendarOk.effect (hs : CalendarOk s) (h : EventEffect s t) : CalendarOk t := by
  cases h with
  | nothing => exact hs
  | resetTaken => exact hs.titleReset.of_fields
  | selection l => exact hs.endSelection.of_fields
  | resetLine => exact hs
  | resetLineEnds => exact hs.endSelection
  | resetLineTitle =>
    have he : CalendarOk { Machine.endSelection s with srst := true } := hs.endSelection
    exact he.titleReset
  | vslot mv => exact hs.vslotBecomes mv
  | offToStart => exact ⟨hs.1, daysOk_blank⟩
  | normalToLow | lowToNormal | warnRecovery | directoryBurst | linkOpen | refill | linkRead => exact .settle hs.of_fields
  | measured mv => exact (CalendarOk.of_fields hs).afterMeasurement
  | scanStep a bytes =>
    have hf : CalendarOk (freeBus s) := hs
    exact .settle (hf.scanTakes bytes)
  | dayBlock => exact .settle (.of_fields hs.loadDays.catchUp)
  | commitStep cs bytes =>
    have hb : CalendarOk (burstStores cs (freeBus s)) := hs.of_fields
    exact .settle (hb.engineTakes bytes)
  | tick => exact hs.clockTick
  | frameCounted => exact hs
  | frame =>
    have hc : CalendarOk (countFrame s) := hs
    exact .settle hc.of_fields
  | envelopes => exact .settle hs.of_fields
  | driver => exact hs.of_fields

end

/-- Settles O41: every command keeps the clock and the working copy within their ranges. -/
theorem calendarInvariant : Obligations.CalendarInvariant := fun _ _ hclock hdays h =>
  step_keeps_effects (P := CalendarOk) (fun _ _ h => h) (fun _ _ h => h) (fun _ h => h.endSelection)
    (fun _ _ _ h he => h.answer he) (fun _ _ h he => h.effect he) h ⟨hclock, hdays⟩

end Sys2Proof.Machine
end

section
/-! Rules of the save engine's records: what each operation on the journal makes of the slots, the queue, the records, the
outcome and the copy. -/

namespace Sys2Proof.Machine

/-! ## A slot replaced -/

section

variable (id : SlotId) (sl : Slot) (s : State)

@[simp] theorem otherSlot_otherSlot : otherSlot (otherSlot id) = id := by cases id <;> rfl

theorem otherSlot_ne : otherSlot id ≠ id := by cases id <;> decide

theorem eq_otherSlot_of_ne {id id' : SlotId} (h : id' ≠ id) : id' = otherSlot id := by
  cases id <;> cases id' <;> first | rfl | exact absurd rfl h

@[simp] theorem slotAt_title : slotAt s .title = s.save.kept.title := rfl

@[simp] theorem slotAt_clock : slotAt s .clock = s.save.kept.clock := rfl

@[simp] theorem setSlot_queue : (setSlot id sl s).save.kept.queue = s.save.kept.queue := by cases id <;> rfl
@[simp] theorem setSlot_copy : (setSlot id sl s).save.copy = s.save.copy := by cases id <;> rfl
@[simp] theorem setSlot_scan : (setSlot id sl s).save.scan = s.save.scan := by cases id <;> rfl
@[simp] theorem setSlot_tries : (setSlot id sl s).save.tries = s.save.tries := by cases id <;> rfl
@[simp] theorem setSlot_frozen : (setSlot id sl s).save.frozen = s.save.frozen := by cases id <;> rfl
@[simp] theorem setSlot_records : (setSlot id sl s).save.kept.records = s.save.kept.records := by cases id <;> rfl
@[simp] theorem setSlot_outcome : (setSlot id sl s).save.kept.outcome = s.save.kept.outcome := by cases id <;> rfl
@[simp] theorem setSlot_mark : (setSlot id sl s).save.kept.mark = s.save.kept.mark := by cases id <;> rfl
@[simp] theorem setSlot_master : (setSlot id sl s).save.kept.master = s.save.kept.master := by cases id <;> rfl

@[simp] theorem slotAt_setQueue (q : List SlotId) : slotAt (setQueue q s) id = slotAt s id := by cases id <;> rfl

@[simp] theorem setOutcome_copy (r : OutcomeRecord) : (setOutcome r s).save.copy = s.save.copy := rfl

@[simp] theorem slotAt_setOutcome (r : OutcomeRecord) : slotAt (setOutcome r s) id = slotAt s id := by cases id <;> rfl

@[simp] theorem slotAt_setRecord (i : Nat) (r : Record) : slotAt (setRecord i r s) id = slotAt s id := by
  cases id <;> rfl

@[simp] theorem slotAt_mapRecords (f : Record → Record) : slotAt (mapRecords f s) id = slotAt s id := by
  cases id <;> simp only [slotAt, mapRecords, setKept]

@[simp] theorem mapRecords_queue (f : Record → Record) : (mapRecords f s).save.kept.queue = s.save.kept.queue := by
  simp only [mapRecords, setKept]

@[simp] theorem mapRecords_copy (f : Record → Record) : (mapRecords f s).save.copy = s.save.copy := by
  simp only [mapRecords, setKept]

@[simp] theorem mapRecords_tries (f : Record → Record) : (mapRecords f s).save.tries = s.save.tries := by
  simp only [mapRecords, setKept]

@[simp] theorem mapRecords_frozen (f : Record → Record) : (mapRecords f s).save.frozen = s.save.frozen := by
  simp only [mapRecords, setKept]

@[simp] theorem mapRecords_scan (f : Record → Record) : (mapRecords f s).save.scan = s.save.scan := by
  simp only [mapRecords, setKept]

theorem slotAt_congr {s t : State} (h : t.save.kept = s.save.kept) : slotAt t = slotAt s := by
  funext id
  cases id <;> simp [h]

end

/-! ## Pending orders (R34) -/

/-- R34: a slot whose pending order, if it has one, becomes 1. -/
def firstInOrder (sl : Slot) : Slot := { sl with order := if sl.order = 0 then 0 else 1 }

@[simp] theorem firstInOrder_state (sl : Slot) : (firstInOrder sl).state = sl.state := rfl
@[simp] theorem firstInOrder_held (sl : Slot) : (firstInOrder sl).held = sl.held := rfl
@[simp] theorem firstInOrder_blocks (sl : Slot) : (firstInOrder sl).blocks = sl.blocks := rfl

theorem firstInOrder_eq (sl : Slot) : firstInOrder sl = if sl.order = 0 then sl else { sl with order := 1 } :=
  slot_order_kept sl

section

variable (id : SlotId) (s : State)

@[simp] theorem slotAt_freeSlot_same : slotAt (freeSlot id s) id = freedSlot (slotAt s id) := by
  unfold freeSlot setOrder
  dsimp only
  split <;> cases id <;> rfl

@[simp] theorem slotAt_freeSlot_other : slotAt (freeSlot id s) (otherSlot id) = firstInOrder (slotAt s (otherSlot id)) := by
  rw [firstInOrder_eq]
  unfold freeSlot setOrder
  dsimp only
  split <;> cases id <;> rfl

@[simp] theorem freeSlot_queue : (freeSlot id s).save.kept.queue = s.save.kept.queue := by
  unfold freeSlot setOrder; dsimp only; split <;> simp

@[simp] theorem freeSlot_copy : (freeSlot id s).save.copy = s.save.copy := by
  unfold freeSlot setOrder; dsimp only; split <;> simp

@[simp] theorem freeSlot_scan : (freeSlot id s).save.scan = s.save.scan := by
  unfold freeSlot setOrder; dsimp only; split <;> simp

@[simp] theorem freeSlot_tries : (freeSlot id s).save.tries = s.save.tries := by
  unfold freeSlot setOrder; dsimp only; split <;> simp

@[simp] theorem freeSlot_frozen : (freeSlot id s).save.frozen = s.save.frozen := by
  unfold freeSlot setOrder; dsimp only; split <;> simp

@[simp] theorem freeSlot_records : (freeSlot id s).save.kept.records = s.save.kept.records := by
  unfold freeSlot setOrder; dsimp only; split <;> simp

@[simp] theorem freeSlot_outcome : (freeSlot id s).save.kept.outcome = s.save.kept.outcome := by
  unfold freeSlot setOrder; dsimp only; split <;> simp

@[simp] theorem freeSlot_mark : (freeSlot id s).save.kept.mark = s.save.kept.mark := by
  unfold freeSlot setOrder; dsimp only; split <;> simp

@[simp] theorem freeSlot_master : (freeSlot id s).save.kept.master = s.save.kept.master := by
  unfold freeSlot setOrder; dsimp only; split <;> simp

/-- R33, R34: what freeing the title slot makes of kept RAM. -/
theorem freeSlot_title_kept : (freeSlot .title s).save.kept
    = { s.save.kept with title := freedSlot s.save.kept.title, clock := firstInOrder s.save.kept.clock } := by
  rw [firstInOrder_eq]
  by_cases h : s.save.kept.clock.order = 0
  · simp only [freeSlot, otherSlot, slotAt, h, if_true]
    rfl
  · simp only [freeSlot, otherSlot, slotAt, h, if_false]
    rfl

/-- R34: the slot that joins the queue, PENDING and not held, behind the other slot's order. -/
@[simp] theorem slotAt_joinQueue_same : slotAt (joinQueue id s) id = { slotAt s id with
    state := .pending, held := false, order := if (slotAt s (otherSlot id)).order = 0 then 1 else 2 } := by
  unfold joinQueue setOrder
  dsimp only
  split <;> cases id <;> rfl

@[simp] theorem slotAt_joinQueue_other :
    slotAt (joinQueue id s) (otherSlot id) = firstInOrder (slotAt s (otherSlot id)) := by
  rw [firstInOrder_eq]
  unfold joinQueue setOrder
  dsimp only
  split <;> cases id <;> rfl

@[simp] theorem joinQueue_queue : (joinQueue id s).save.kept.queue = s.save.kept.queue ++ [id] := by
  unfold joinQueue setOrder setQueue setKept; dsimp only; split <;> simp

@[simp] theorem joinQueue_copy : (joinQueue id s).save.copy = s.save.copy := by
  unfold joinQueue setOrder setQueue setKept; dsimp only; split <;> simp

@[simp] theorem joinQueue_scan : (joinQueue id s).save.scan = s.save.scan := by
  unfold joinQueue setOrder setQueue setKept; dsimp only; split <;> simp

@[simp] theorem joinQueue_records : (joinQueue id s).save.kept.records = s.save.kept.records := by
  unfold joinQueue setOrder setQueue setKept; dsimp only; split <;> simp

end

/-! ## The copy's position (R44 to R46) -/

section

variable (c : Copy) (part : CopyPart) (s : State)

@[simp] theorem postStep_kept : (postStep c s).save.kept = s.save.kept := rfl

@[simp] theorem postStep_copy : (postStep c s).save.copy = some c := rfl

@[simp] theorem slotAt_postStep (id : SlotId) : slotAt (postStep c s) id = slotAt s id := by cases id <;> rfl

@[simp] theorem beginPart_kept : (beginPart c part s).save.kept = s.save.kept := by
  simp only [beginPart]
  split <;> split <;> rfl

@[simp] theorem slotAt_beginPart (id : SlotId) : slotAt (beginPart c part s) id = slotAt s id := by
  cases id <;> simp

/-- The position begun is of the same slot's copy. -/
theorem beginPart_copy : ∃ c', (beginPart c part s).save.copy = some c' ∧ c'.slot = c.slot ∧ c'.part = part := by
  simp only [beginPart]
  split <;> split <;> exact ⟨_, rfl, rfl, rfl⟩

end

section

variable (id : SlotId) (rolling : Bool) (s : State)

/-- R44, R53: the slot as the engine takes it. -/
def takenSlot : Slot :=
  { slotAt s id with
    state := .copying, held := false, fullPass := (slotAt s id).fullPass || rolling
    zeroBase := (recordAt s (slotAt s id).target).state == .blank && (slotAt s id).kind == .write }

/-- R44, R53: slot `id` taken from the queue, before its first step is posted. -/
def takenFrom : State := setQueue (s.save.kept.queue.filter (· ≠ id)) (setSlot id (takenSlot id rolling s) s)

/-- R45, R46: where the copy of slot `id` begins. -/
def firstPart : CopyPart := if (slotAt s id).blocks.isEmpty then .pass 0 else .staged 0

theorem startCopy_eq : startCopy id rolling s = beginPart
    ⟨id, .staged 0, .read, (recordAt s (slotAt s id).target).check, 0, zeroBlock, zeroBlock⟩ (firstPart id s)
    (takenFrom id rolling s) := rfl

@[simp] theorem slotAt_startCopy_same : slotAt (startCopy id rolling s) id = takenSlot id rolling s := by
  rw [startCopy_eq, slotAt_beginPart, takenFrom, slotAt_setQueue, slotAt_setSlot_same]

@[simp] theorem slotAt_startCopy_other : slotAt (startCopy id rolling s) (otherSlot id) = slotAt s (otherSlot id) := by
  rw [startCopy_eq, slotAt_beginPart, takenFrom, slotAt_setQueue, slotAt_setSlot_other]

@[simp] theorem startCopy_queue : (startCopy id rolling s).save.kept.queue = s.save.kept.queue.filter (· ≠ id) := by
  rw [startCopy_eq, beginPart_kept]
  rfl

theorem startCopy_copy : ∃ c, (startCopy id rolling s).save.copy = some c ∧ c.slot = id ∧ c.part = firstPart id s :=
  beginPart_copy ..

end

/-- R53: nothing is left to roll forward where neither slot is PENDING or COPYING. -/
theorem nextToRoll_eq_none_iff (s : State) :
    nextToRoll s = none ↔ rollsForward s.save.kept.title = false ∧ rollsForward s.save.kept.clock = false := by
  unfold nextToRoll
  cases rollsForward s.save.kept.title <;> cases rollsForward s.save.kept.clock <;> simp
  split <;> simp

/-! ## The supply -/

@[simp] theorem changeSupply_supply (st : SupplyState) (s : State) : (changeSupply st s).supply
    = { s.supply with state := st, timers := timersFor st s.supply.vslot s.supply.phase } := by
  simp [changeSupply]

@[simp] theorem completeMeasurement_supply (mv : Nat) (s : State) : (completeMeasurement mv s).supply
    = { s.supply with
        cell := cellStateOf (readingOf mv), reading := readingOf mv, measuring := false, checkWaiting := false } := by
  simp only [completeMeasurement]
  split <;> simp

end Sys2Proof.Machine
end

section
/-! PROOF. The rumble driver (R157, R165): every step keeps the ceiling and the applied strength as the supply, the
reservations, the last demand and the limiter give them, and the player in order. -/

namespace Sys2Proof.Machine

/-! ## The waiting list -/

theorem mem_insertEntry {x y : PlayerEntry} {ys : List PlayerEntry} : y ∈ insertEntry x ys ↔ y = x ∨ y ∈ ys := by
  induction ys with
  | nil => simp [insertEntry]
  | cons z zs ih =>
    rw [insertEntry]
    split
    · exact List.mem_cons
    · rw [List.mem_cons, List.mem_cons, ih]
      exact or_left_comm

@[simp] theorem insertEntry_length (x : PlayerEntry) (ys : List PlayerEntry) :
    (insertEntry x ys).length = ys.length + 1 := by
  induction ys with
  | nil => rfl
  | cons z zs ih => rw [insertEntry]; split <;> simp [ih]

/-- The newest arrival takes its place behind its equals. -/
theorem ordered_insertEntry {x : PlayerEntry} {ys : List PlayerEntry} (h : Ordered ys)
    (hnew : ∀ y ∈ ys, y.arrival < x.arrival) : Ordered (insertEntry x ys) := by
  induction ys with
  | nil => exact List.pairwise_singleton ..
  | cons z zs ih =>
    obtain ⟨hz, hzs⟩ := List.pairwise_cons.mp h
    obtain ⟨hznew, hzsnew⟩ := List.forall_mem_cons.mp hnew
    rw [insertEntry]
    split
    · rename_i hlt
      refine List.pairwise_cons.mpr ⟨List.forall_mem_cons.mpr ⟨.inl hlt, fun y hy => ?_⟩, h⟩
      have := hz y hy
      omega
    · refine List.pairwise_cons.mpr ⟨fun y hy => ?_, ih hzs hzsnew⟩
      rcases mem_insertEntry.mp hy with rfl | hy
      · omega
      · exact hz y hy

/-! ## The player -/

section

variable {r r' : Rumble}

theorem playerOk_of_empty (h : r.waiting = []) : PlayerOk r := by
  simp [PlayerOk, Ordered, h]

/-- Nothing waits without a current entry. -/
theorem PlayerOk.waiting_of_none (h : PlayerOk r) (hc : r.current = none) : r.waiting = [] := by
  refine List.eq_nil_iff_forall_not_mem.mpr fun x hx => ?_
  obtain ⟨-, c, hcur, -⟩ := h.2.2 x hx
  simp [hc] at hcur

/-- The current entry makes way for one of no lower priority. -/
theorem PlayerOk.replaced (h : PlayerOk r) (hw : r'.waiting = r.waiting) (ha : r.arrival ≤ r'.arrival)
    (hc : ∀ c, r.current = some c → ∃ c', r'.current = some c' ∧ c.priority ≤ c'.priority) : PlayerOk r' := by
  obtain ⟨hlen, hord, hall⟩ := h
  refine ⟨hw ▸ hlen, hw ▸ hord, fun x hx => ?_⟩
  obtain ⟨harr, c, hcur, hpri⟩ := hall x (hw ▸ hx)
  obtain ⟨c', hcur', hpri'⟩ := hc c hcur
  exact ⟨by omega, c', hcur', by omega⟩

theorem PlayerOk.kept (h : PlayerOk r) (hw : r'.waiting = r.waiting := by simp) (hc : r'.current = r.current := by simp)
    (ha : r'.arrival = r.arrival := by simp) : PlayerOk r' :=
  h.replaced hw ha.ge fun c hcur => ⟨c, hc.trans hcur, le_rfl⟩

theorem PlayerOk.startNext (h : PlayerOk r) : PlayerOk (startNext r) := by
  unfold Machine.startNext
  split
  · exact playerOk_of_empty ‹_›
  · rename_i x rest hw
    obtain ⟨hlen, hord, hall⟩ := h
    rw [hw] at hlen hord hall
    obtain ⟨hx, hrest⟩ := List.pairwise_cons.mp hord
    refine ⟨Nat.le_of_succ_le hlen, hrest, fun y hy => ⟨(hall y (List.mem_cons_of_mem _ hy)).1, _, rfl, ?_⟩⟩
    have := hx y hy
    show y.priority ≤ x.priority
    omega

/-- An entry of no higher priority than the current one joins a list with room. -/
theorem PlayerOk.joined {x c : PlayerEntry} {ws : List PlayerEntry} (h : PlayerOk r) (hws : ws.Sublist r.waiting)
    (hroom : ws.length < 4) (hcur : r.current = some c) (hpri : x.priority ≤ c.priority) (hx : r.arrival ≤ x.arrival)
    (hw : r'.waiting = insertEntry x ws) (hc : r'.current = some c) (ha : x.arrival < r'.arrival) : PlayerOk r' := by
  obtain ⟨-, hord, hall⟩ := h
  have harr : ∀ y ∈ ws, y.arrival < x.arrival ∧ y.priority ≤ c.priority := by
    intro y hy
    obtain ⟨hlt, c', hc', hle⟩ := hall y (hws.subset hy)
    cases hcur.symm.trans hc'
    exact ⟨by omega, hle⟩
  rw [PlayerOk, hw]
  refine ⟨by simpa using hroom, ordered_insertEntry (hord.sublist hws) fun y hy => (harr y hy).1, fun y hy => ?_⟩
  rcases mem_insertEntry.mp hy with rfl | hy
  · exact ⟨ha, c, hc, hpri⟩
  · exact ⟨by have := harr y hy; omega, c, hc, (harr y hy).2⟩

end

section

variable {s t : State}

theorem PlayerOk.of_rumble (h : PlayerOk s.rumble) (hr : t.rumble = s.rumble := by simp) : PlayerOk t.rumble := by
  rwa [hr]

theorem PlayerOk.settle (h : PlayerOk s.rumble) : PlayerOk (settle s).rumble := by
  rw [settle_rumble]
  exact h.kept rfl rfl rfl

theorem PlayerOk.recompute (h : PlayerOk s.rumble) : PlayerOk (recompute s).rumble := h.kept rfl rfl rfl

theorem PlayerOk.titleReset (s : State) : PlayerOk (titleReset s).rumble := playerOk_of_empty rfl

theorem PlayerOk.endSelection (h : PlayerOk s.rumble) : PlayerOk (endSelection s).rumble := by
  unfold Machine.endSelection
  split
  · exact h
  · exact h
  · exact h
  · split
    · exact .titleReset s
    · exact h

theorem PlayerOk.shed (s : State) : PlayerOk (shed s).rumble := by
  rw [Machine.shed, reportRumble, notify_rumble]
  exact playerOk_of_empty rfl

theorem PlayerOk.vslotBecomes (h : PlayerOk s.rumble) (mv : Nat) : PlayerOk (vslotBecomes mv s).rumble := by
  unfold Machine.vslotBecomes offIfBelow
  split
  · exact playerOk_of_empty rfl
  · unfold warnIfBelow
    split
    · exact PlayerOk.settle (.shed _)
    · exact h

theorem PlayerOk.clockTick (h : PlayerOk s.rumble) : PlayerOk (clockTick s).rumble := by
  unfold Machine.clockTick
  split
  · exact h.of_rumble
  · dsimp only
    split
    · exact PlayerOk.settle (h.of_rumble (by simp))
    · exact h

theorem PlayerOk.heatStep (h : PlayerOk s.rumble) : PlayerOk (heatStep s).rumble := by
  simp only [Machine.heatStep]
  split
  · exact h.kept (by simp [setRumble]) (by simp [setRumble]) (by simp [setRumble])
  · exact h.kept rfl rfl rfl

theorem PlayerOk.holdStep (h : PlayerOk s.rumble) : PlayerOk (holdStep s).rumble := by
  simp only [Machine.holdStep]
  split
  · exact h
  · split
    · exact h.kept rfl rfl rfl
    · split
      · exact playerOk_of_empty (by simp [setRumble])
      · exact h.kept rfl rfl rfl

theorem PlayerOk.endStep (h : PlayerOk s.rumble) {x : PlayerEntry} (hx : s.rumble.current = some x) :
    PlayerOk (endStep x s).rumble := by
  have hreplaced : ∀ y : PlayerEntry, x.priority ≤ y.priority → PlayerOk { s.rumble with current := some y } :=
    fun y hy => h.replaced rfl le_rfl fun c hc => ⟨y, rfl, by cases hx.symm.trans hc; exact hy⟩
  simp only [Machine.endStep]
  split
  · exact hreplaced _ le_rfl
  · split
    · rw [reportRumble, notify_rumble]
      exact h.startNext
    · exact hreplaced _ le_rfl

theorem PlayerOk.advanceStep (h : PlayerOk s.rumble) : PlayerOk (advanceStep s).rumble := by
  simp only [Machine.advanceStep]
  split
  · exact h
  · rename_i x hx
    split
    · exact h.replaced rfl le_rfl fun c hc => ⟨_, rfl, by cases hx.symm.trans hc; exact le_rfl⟩
    · exact h.endStep hx

theorem PlayerOk.tickWork (h : PlayerOk s.rumble) : PlayerOk (tickWork s).rumble := by
  have hd : PlayerOk (demandStep (Machine.holdStep (Machine.heatStep s))).rumble := h.heatStep.holdStep.kept rfl rfl rfl
  exact hd.recompute.advanceStep

/-- R158: a play keeps the order, whose newest arrival it is. -/
theorem PlayerOk.played (h : PlayerOk s.rumble) (pattern priority plays : Nat) :
    PlayerOk (place (newEntry s.rumble pattern priority plays) (playing s)).1.rumble := by
  simp only [Machine.place]
  split
  · rename_i hc
    exact playerOk_of_empty (h.waiting_of_none hc)
  · rename_i c hc
    split
    · rename_i hlt
      rw [reportRumble, notify_rumble]
      exact h.replaced rfl (Nat.le_succ _) fun d hd => ⟨_, rfl, by cases hd.symm.trans hc; exact Nat.le_of_lt hlt⟩
    · rename_i hpri
      have hpri := Nat.le_of_not_lt hpri
      unfold placeWaiting
      dsimp only
      split
      · rename_i hroom
        exact h.joined (List.Sublist.refl _) hroom hc hpri le_rfl rfl hc (Nat.lt_succ_self _)
      · rw [reportRumble, notify_rumble]
        refine h.joined (List.dropLast_sublist _) ?_ hc hpri le_rfl rfl hc (Nat.lt_succ_self _)
        have := h.1
        rw [List.length_dropLast]
        omega

/-! ## The ceiling and the strength -/

theorem ceilingOf_congr (hsup : t.supply.state = s.supply.state) (hout : t.mixer.output = s.mixer.output)
    (hcopy : t.save.copy = s.save.copy) : ceilingOf t = ceilingOf s := by
  have hreserved : outputReservation t = outputReservation s := by
    simp only [outputReservation, slotUp, inWarn, hsup, hout]
  rw [ceilingOf, ceilingOf, reservedUnits, reservedUnits, copyReported, copyReported, hreserved, hsup, hcopy]

theorem RumbleCurrent.kept (h : RumbleCurrent s) (hr : t.rumble = s.rumble := by simp)
    (hsup : t.supply.state = s.supply.state := by simp) (hout : t.mixer.output = s.mixer.output := by simp)
    (hcopy : t.save.copy = s.save.copy := by simp) : RumbleCurrent t := by
  rwa [RumbleCurrent, hr, ceilingOf_congr hsup hout hcopy]

/-- The driver's records replaced by others of the same ceiling, strength, demand and limiter. -/
theorem RumbleCurrent.driven (h : RumbleCurrent s) (hsup : t.supply.state = s.supply.state := by simp)
    (hout : t.mixer.output = s.mixer.output := by simp) (hcopy : t.save.copy = s.save.copy := by simp)
    (hceil : t.rumble.ceiling = s.rumble.ceiling := by rfl) (happ : t.rumble.applied = s.rumble.applied := by rfl)
    (hdem : t.rumble.lastDemand = s.rumble.lastDemand := by rfl)
    (hlim : t.rumble.limiter = s.rumble.limiter := by rfl) : RumbleCurrent t := by
  rw [RumbleCurrent, hceil, happ, hdem, hlim, ceilingOf_congr hsup hout hcopy]
  exact h

theorem rumbleCurrent_recompute (s : State) : RumbleCurrent (recompute s) := by
  have h : ceilingOf (recompute s) = ceilingOf s := ceilingOf_congr rfl rfl rfl
  exact ⟨h.symm, rfl⟩

theorem rumbleCurrent_settle (s : State) : RumbleCurrent (settle s) :=
  (rumbleCurrent_recompute (postRefills (takeHead (fillClock s)))).kept (t := settle s) (by simp [settle]) (by simp [settle])
    (by simp [settle]) (by simp [settle])

theorem rumbleCurrent_titleReset (s : State) : RumbleCurrent (titleReset s) := rumbleCurrent_recompute _

/-- While the budget is 0 the ceiling is 0. -/
theorem ceilingOf_of_no_budget (h : budget s.supply.state = 0) : ceilingOf s = 0 := by
  simp [ceilingOf, h]

/-- With the slot domain's records at their start-up values there is no strength. -/
theorem rumbleCurrent_of_start (hr : s.rumble = {}) (hb : budget s.supply.state = 0) : RumbleCurrent s := by
  rw [RumbleCurrent, hr, ceilingOf_of_no_budget hb]
  exact ⟨rfl, rfl⟩

theorem RumbleCurrent.endSelection (h : RumbleCurrent s) : RumbleCurrent (endSelection s) := by
  unfold Machine.endSelection
  split
  · exact h
  · exact h
  · exact h
  · split
    · exact (rumbleCurrent_titleReset s).kept
    · exact h

theorem RumbleCurrent.vslotBecomes (h : RumbleCurrent s) (mv : Nat) : RumbleCurrent (vslotBecomes mv s) := by
  unfold Machine.vslotBecomes offIfBelow
  split
  · exact rumbleCurrent_of_start rfl rfl
  · unfold warnIfBelow
    split
    · exact rumbleCurrent_settle _
    · exact h

theorem RumbleCurrent.completeMeasurement (h : RumbleCurrent s) (mv : Nat) :
    RumbleCurrent (completeMeasurement mv s) := by
  simp only [Machine.completeMeasurement]
  split
  · exact h.kept
  · exact h

theorem RumbleCurrent.afterMeasurement (h : RumbleCurrent s) : RumbleCurrent (afterMeasurement s) := by
  unfold Machine.afterMeasurement
  split
  · exact rumbleCurrent_settle _
  · exact h

theorem RumbleCurrent.clockTick (h : RumbleCurrent s) : RumbleCurrent (clockTick s) := by
  unfold Machine.clockTick
  split
  · exact h.kept
  · dsimp only
    split
    · exact rumbleCurrent_settle _
    · exact h

theorem RumbleCurrent.startNext (h : RumbleCurrent s) : RumbleCurrent (setRumble (startNext s.rumble) s) := by
  unfold Machine.startNext
  split <;> exact h.driven

theorem RumbleCurrent.advanceStep (h : RumbleCurrent s) : RumbleCurrent (advanceStep s) := by
  simp only [Machine.advanceStep, endStep]
  split
  · exact h
  · split
    · exact h.driven
    · split
      · exact h.driven
      · split
        · exact h.startNext.kept (notify_rumble ..)
        · exact h.driven

theorem rumbleCurrent_tickWork (s : State) : RumbleCurrent (tickWork s) :=
  (rumbleCurrent_recompute _).advanceStep

theorem RumbleCurrent.place (h : RumbleCurrent s) (x : PlayerEntry) : RumbleCurrent (place x s).1 := by
  have hset : ∀ c w, RumbleCurrent (setRumble { s.rumble with current := c, waiting := w } s) := fun _ _ => h.driven
  simp only [Machine.place, placeWaiting]
  split
  · exact hset ..
  · split
    · exact (hset ..).kept (notify_rumble ..)
    · split
      · exact hset ..
      · exact (hset ..).kept (notify_rumble ..)

/-! ## Every step -/

/-- The driver of `s` is in order: its ceiling and strength, and its player. -/
def RumbleOk (s : State) : Prop := RumbleCurrent s ∧ PlayerOk s.rumble

theorem RumbleOk.settled (h : PlayerOk s.rumble) : RumbleOk (settle s) := ⟨rumbleCurrent_settle s, h.settle⟩

theorem RumbleOk.settledAs (h : RumbleOk s) (hr : t.rumble = s.rumble := by simp) : RumbleOk (settle t) :=
  .settled (h.2.of_rumble hr)

theorem RumbleOk.titleReset (s : State) : RumbleOk (titleReset s) := ⟨rumbleCurrent_titleReset s, .titleReset s⟩

theorem RumbleOk.endSelection (h : RumbleOk s) : RumbleOk (endSelection s) := ⟨h.1.endSelection, h.2.endSelection⟩

theorem RumbleOk.kept (h : RumbleOk s) (hr : t.rumble = s.rumble := by simp)
    (hsup : t.supply.state = s.supply.state := by simp) (hout : t.mixer.output = s.mixer.output := by simp)
    (hcopy : t.save.copy = s.save.copy := by simp) : RumbleOk t :=
  ⟨h.1.kept hr hsup hout hcopy, h.2.of_rumble hr⟩

theorem RumbleOk.answer (h : RumbleOk s) {k : Kind} (he : AnswerEffect k s t) : RumbleOk t := by
  cases he with
  | titleQueued | eraseQueued | counterArmed | counterDisarmed | counterAcked | voiceSetUp | keyOn =>
    exact h.settledAs
  | clockSet | turnSet => exact h.settledAs (by simp)
  | emptyEnded => exact h.kept (hcopy := by simp [endEmpty])
  | mixConfigured m => exact ⟨rumbleCurrent_recompute _, h.2.kept rfl rfl rfl⟩
  | flagsSet m hout => exact h.kept rfl rfl hout rfl
  | patternSet => exact ⟨h.1.driven, h.2.kept rfl rfl rfl⟩
  | played q =>
    have hp : RumbleCurrent (playing s) := h.1.driven
    exact ⟨hp.place _, h.2.played ..⟩
  | currentCancelled => exact ⟨h.1.startNext, h.2.startNext⟩
  | allCancelled => exact ⟨h.1.driven, playerOk_of_empty rfl⟩
  | followSet | holdSet => exact ⟨h.1.driven, h.2.kept rfl rfl rfl⟩
  | _ => exact h.kept

theorem RumbleOk.effect (h : RumbleOk s) (he : EventEffect s t) : RumbleOk t := by
  cases he with
  | nothing | resetLine | frameCounted => exact h
  | resetTaken => exact (RumbleOk.titleReset s).kept
  | selection => exact h.endSelection.kept
  | resetLineEnds => exact h.endSelection.kept
  | resetLineTitle => exact .titleReset _
  | vslot mv => exact ⟨h.1.vslotBecomes mv, h.2.vslotBecomes mv⟩
  | offToStart => exact ⟨rumbleCurrent_of_start rfl rfl, playerOk_of_empty rfl⟩
  | measured mv =>
    refine ⟨(h.1.completeMeasurement mv).afterMeasurement, ?_⟩
    unfold afterMeasurement
    split
    · exact PlayerOk.settle (h.2.of_rumble (by simp))
    · exact h.2.of_rumble
  | linkRead r stale bytes => exact h.settledAs (by simp)
  | dayBlock => exact h.settledAs (by simp)
  | tick => exact ⟨h.1.clockTick, h.2.clockTick⟩
  | frame => exact .settled (h.2.of_rumble (by simp))
  | envelopes => exact .settled (h.2.of_rumble (by simp))
  | driver => exact ⟨rumbleCurrent_tickWork s, h.2.tickWork⟩
  | _ => exact h.settledAs

theorem appliedFrom_le_ceiling (demand ceiling : Nat) (limiter : Bool) : appliedFrom demand ceiling limiter ≤ ceiling := by
  unfold appliedFrom
  split <;> omega

theorem appliedFrom_le_limit (demand ceiling : Nat) : appliedFrom demand ceiling true ≤ 96 :=
  Nat.min_le_right ..

end

/-- Settles O54: the ceiling and the strength are recomputed wherever what they rest on changes, and the player's
operations keep its order; the bounds are those of `appliedFrom`. -/
theorem rumbleInvariant : Obligations.RumbleInvariant := by
  intro s t hs hp h
  obtain ⟨ht, htp⟩ : RumbleOk t :=
    step_keeps_effects (P := RumbleOk) (fun _ _ h => h) (fun _ _ h => h) (fun _ h => h.endSelection)
      (fun _ _ _ h he => h.answer he) (fun _ _ h he => h.effect he) h ⟨hs, hp⟩
  refine ⟨ht, htp, ?_, ?_, ?_⟩
  · rw [ht.2]; exact appliedFrom_le_ceiling ..
  · intro hlim
    rw [ht.2, hlim]; exact appliedFrom_le_limit ..
  · intro hst
    have hb : budget t.supply.state = 0 := by rcases hst with h | h | h <;> rw [h] <;> rfl
    have hle : t.rumble.applied ≤ t.rumble.ceiling := by rw [ht.2]; exact appliedFrom_le_ceiling ..
    rw [ht.1, ceilingOf_of_no_budget hb] at hle
    exact Nat.le_zero.mp hle

end Sys2Proof.Machine
end

section
/-! PROOF. SAVE_WRITE (R37, R38): what the merge of a write makes of the staged blocks. -/

namespace Sys2Proof.Machine

/-! ## The blocks -/

/-- R32: every staged block has 64 positions. -/
def BlocksFull (blocks : List StagedBlock) : Prop := ∀ b ∈ blocks, b.bytes.length = 64

theorem stageByte_indices (y : Nat) (b : Byte) (blocks : List StagedBlock) :
    (stageByte y b blocks).map StagedBlock.index = blocks.map StagedBlock.index := by
  rw [stageByte, List.map_map]
  refine List.map_congr_left fun x _ => ?_
  simp only [Function.comp_apply]
  split <;> rfl

theorem blocksFull_stageByte {blocks : List StagedBlock} (h : BlocksFull blocks) (y : Nat) (b : Byte) :
    BlocksFull (stageByte y b blocks) := by
  intro x hx
  obtain ⟨z, hz, rfl⟩ := List.mem_map.mp hx
  split
  · rw [List.length_set]; exact h z hz
  · exact h z hz

theorem stageBytesFrom_indices (data : List Byte) (y : Nat) (blocks : List StagedBlock) :
    (stageBytesFrom y blocks data).map StagedBlock.index = blocks.map StagedBlock.index := by
  induction data generalizing y blocks with
  | nil => rfl
  | cons b data ih => rw [stageBytesFrom, ih, stageByte_indices]

theorem blocksFull_stageBytesFrom {blocks : List StagedBlock} (h : BlocksFull blocks) (data : List Byte) (y : Nat) :
    BlocksFull (stageBytesFrom y blocks data) := by
  induction data generalizing y blocks with
  | nil => exact h
  | cons b data ih => exact ih (blocksFull_stageByte h y b) _

theorem hasBlock_iff {blocks : List StagedBlock} {i : Nat} :
    hasBlock blocks i = true ↔ i ∈ blocks.map StagedBlock.index := by
  simp [hasBlock]

theorem not_hasBlock_eq (blocks : List StagedBlock) (i : Nat) :
    (!hasBlock blocks i) = decide (i ∉ blocks.map StagedBlock.index) := by
  simp only [← hasBlock_iff]
  cases hasBlock blocks i <;> rfl

theorem createBlock_indices (is : List Nat) : (is.map createBlock).map StagedBlock.index = is := by
  rw [List.map_map]
  exact List.map_id is

theorem mergeWrite_indices (y : Nat) (data : List Byte) (blocks : List StagedBlock) :
    (mergeWrite y data blocks).map StagedBlock.index
      = blocks.map StagedBlock.index ++ newBlocks blocks y data.length := by
  rw [mergeWrite, stageBytesFrom_indices, List.map_append, createBlock_indices]

theorem mergeWrite_length (y : Nat) (data : List Byte) (blocks : List StagedBlock) :
    (mergeWrite y data blocks).length = blocks.length + (newBlocks blocks y data.length).length := by
  simpa using congrArg List.length (mergeWrite_indices y data blocks)

theorem blocksFull_created {blocks : List StagedBlock} (h : BlocksFull blocks) (is : List Nat) :
    BlocksFull (blocks ++ is.map createBlock) := by
  intro b hb
  rcases List.mem_append.mp hb with hb | hb
  · exact h b hb
  · obtain ⟨i, -, rfl⟩ := List.mem_map.mp hb
    exact List.length_replicate

theorem blocksFull_mergeWrite {blocks : List StagedBlock} (h : BlocksFull blocks) (y : Nat) (data : List Byte) :
    BlocksFull (mergeWrite y data blocks) :=
  blocksFull_stageBytesFrom (blocksFull_created h _) data y

/-- The blocks that a write creates are distinct, and none of them is staged already. -/
theorem newBlocks_nodup (blocks : List StagedBlock) (y n : Nat) : (newBlocks blocks y n).Nodup := by
  refine List.Nodup.filter _ ?_
  split
  · exact List.nodup_singleton _
  · rename_i h
    simpa using Ne.symm h

theorem not_mem_of_mem_newBlocks {blocks : List StagedBlock} {y n i : Nat} (h : i ∈ newBlocks blocks y n) :
    i ∉ blocks.map StagedBlock.index := by
  have hnot := (List.mem_filter.mp h).2
  rw [← hasBlock_iff]
  simpa using hnot

theorem mergeWrite_indices_nodup {blocks : List StagedBlock} (h : (blocks.map StagedBlock.index).Nodup) (y : Nat)
    (data : List Byte) : ((mergeWrite y data blocks).map StagedBlock.index).Nodup := by
  rw [mergeWrite_indices]
  exact h.append (newBlocks_nodup ..) fun i hi hnew => not_mem_of_mem_newBlocks hnew hi

/-- A write of at most 60 bytes touches its first block and its last, and no other. -/
theorem touched_mem_mergeWrite (blocks : List StagedBlock) {y n k : Nat} (hn : n ≤ 60) (hk : k < n) :
    (y + k) / 64 ∈ blocks.map StagedBlock.index ++ newBlocks blocks y n := by
  by_cases hold : (y + k) / 64 ∈ blocks.map StagedBlock.index
  · exact List.mem_append_left _ hold
  · refine List.mem_append_right _ (List.mem_filter.mpr ⟨?_, (not_hasBlock_eq ..).trans (decide_eq_true hold)⟩)
    split
    · rw [List.mem_singleton]; omega
    · rw [List.mem_cons, List.mem_singleton]; omega

/-! ## The staged bytes -/

/-- The first block of index `i` after a byte has been staged. -/
theorem find?_stageByte (y : Nat) (b : Byte) (blocks : List StagedBlock) (i : Nat) :
    (stageByte y b blocks).find? (fun x => x.index == i) = (blocks.find? (fun x => x.index == i)).map
      (fun x => if x.index = y / 64 then { x with bytes := x.bytes.set (y % 64) (some b) } else x) := by
  rw [stageByte, List.find?_map]
  congr 2
  funext x
  simp only [Function.comp_apply]
  split <;> rfl

/-- A byte staged in a block that stands is read back at its position. -/
theorem stagedAt_stageByte_same {blocks : List StagedBlock} (hfull : BlocksFull blocks) {y : Nat} (b : Byte)
    (hy : y / 64 ∈ blocks.map StagedBlock.index) : stagedAt (stageByte y b blocks) y = some b := by
  rw [stagedAt, find?_stageByte]
  cases hx : blocks.find? (fun x => x.index == y / 64) with
  | none =>
    obtain ⟨x, hmem, hidx⟩ := List.mem_map.mp hy
    have := List.find?_eq_none.mp hx x hmem
    simp [hidx] at this
  | some x =>
    have hidx : x.index = y / 64 := by simpa using List.find?_some hx
    have hlen := hfull x (List.mem_of_find?_eq_some hx)
    have hpos : y % 64 < x.bytes.length := by omega
    simp [hidx, hpos]

theorem stagedAt_stageByte_other (blocks : List StagedBlock) {y z : Nat} (b : Byte) (h : z ≠ y) :
    stagedAt (stageByte y b blocks) z = stagedAt blocks z := by
  rw [stagedAt, stagedAt, find?_stageByte]
  cases hx : blocks.find? (fun x => x.index == z / 64) with
  | none => rfl
  | some x =>
    have hidx : x.index = z / 64 := by simpa using List.find?_some hx
    simp only [Option.map_some]
    split
    · rename_i hy
      have hpos : y % 64 ≠ z % 64 := by omega
      simp [List.getElem?_set_ne hpos]
    · rfl

/-- Blocks just created hold no staged byte. -/
theorem stagedAt_created (blocks : List StagedBlock) (is : List Nat) (z : Nat) :
    stagedAt (blocks ++ is.map createBlock) z = stagedAt blocks z := by
  rw [stagedAt, stagedAt, List.find?_append]
  cases hx : blocks.find? (fun x => x.index == z / 64) with
  | some x => rfl
  | none =>
    rw [Option.none_or]
    split
    · rename_i x hx'
      obtain ⟨i, -, rfl⟩ := List.mem_map.mp (List.mem_of_find?_eq_some hx')
      have hpos : z % 64 < 64 := Nat.mod_lt _ (by decide)
      rw [createBlock, List.getElem?_replicate, if_pos hpos]
      rfl
    · rfl

theorem stagedAt_stageBytesFrom_outside (data : List Byte) (y : Nat) (blocks : List StagedBlock) (z : Nat)
    (h : z < y ∨ y + data.length ≤ z) : stagedAt (stageBytesFrom y blocks data) z = stagedAt blocks z := by
  induction data generalizing y blocks with
  | nil => rfl
  | cons b data ih =>
    rw [List.length_cons] at h
    rw [stageBytesFrom, ih _ _ (by omega), stagedAt_stageByte_other _ _ (by omega)]

theorem stagedAt_stageBytesFrom_inside (data : List Byte) (y : Nat) (blocks : List StagedBlock)
    (hfull : BlocksFull blocks) (hin : ∀ k, k < data.length → (y + k) / 64 ∈ blocks.map StagedBlock.index) (k : Nat)
    (hk : k < data.length) : stagedAt (stageBytesFrom y blocks data) (y + k) = data[k]? := by
  induction data generalizing y blocks k with
  | nil => simp at hk
  | cons b data ih =>
    rw [stageBytesFrom]
    cases k with
    | zero =>
      rw [stagedAt_stageBytesFrom_outside _ _ _ _ (by omega)]
      exact stagedAt_stageByte_same hfull b (hin 0 hk)
    | succ k =>
      rw [List.length_cons] at hk
      have hin' : ∀ j, j < data.length → (y + 1 + j) / 64 ∈ (stageByte y b blocks).map StagedBlock.index := by
        intro j hj
        rw [stageByte_indices, show y + 1 + j = y + (j + 1) by omega]
        exact hin (j + 1) (by rw [List.length_cons]; omega)
      have := ih (y + 1) (stageByte y b blocks) (blocksFull_stageByte hfull y b) hin' k (by omega)
      rwa [show y + 1 + k = y + (k + 1) by omega] at this

theorem stagedAt_mergeWrite_inside {blocks : List StagedBlock} (hfull : BlocksFull blocks) {y : Nat} {data : List Byte}
    (hn : data.length ≤ 60) {k : Nat} (hk : k < data.length) :
    stagedAt (mergeWrite y data blocks) (y + k) = data[k]? := by
  refine stagedAt_stageBytesFrom_inside data y _ (blocksFull_created hfull _) (fun j hj => ?_) k hk
  rw [List.map_append, createBlock_indices]
  exact touched_mem_mergeWrite blocks hn hj

theorem stagedAt_mergeWrite_outside (blocks : List StagedBlock) {y : Nat} {data : List Byte} {z : Nat}
    (h : z < y ∨ y + data.length ≤ z) : stagedAt (mergeWrite y data blocks) z = stagedAt blocks z := by
  rw [mergeWrite, stagedAt_stageBytesFrom_outside _ _ _ _ h, stagedAt_created]

/-- Settles O20: the refusals in the order of the owner's checks, and the merge position by position. -/
theorem saveWriteStagesItsBytes : Obligations.SaveWriteStagesItsBytes := by
  intro tag level o0 o1 o2 o3 data s h hfull
  have hlen : data.length ≤ 60 := by
    have hsuits := h.2.2.1
    simp only [lengthSuits, List.length_cons, decide_eq_true_eq] at hsuits
    omega
  have hquad : Request.quad ⟨tag, level, o0 :: o1 :: o2 :: o3 :: data⟩ 0 = leNat [o0, o1, o2, o3] := by
    simp [Request.quad, field]
  have hanswer : ∀ a, answerSaveWrite ⟨tag, level, o0 :: o1 :: o2 :: o3 :: data⟩ (heard s) = a →
      exec (.saveWrite ⟨tag, level, o0 :: o1 :: o2 :: o3 :: data⟩) s = .next (a.reply tag) :=
    fun a ha => exec_of_takes h ha
  simp only [answerSaveWrite, hquad, rank_eq, List.drop_succ_cons, List.drop_zero] at hanswer
  refine ⟨fun h1 => ?_, fun h1 h2 => ?_, fun h1 h2 h3 => ?_, fun h1 h2 h3 h4 => ?_, fun h1 h2 h3 h4 => ?_⟩
  · exact hanswer _ (if_pos h1)
  · exact hanswer _ ((if_neg (not_not_intro h1)).trans (if_pos h2))
  · exact hanswer _ ((if_neg (not_not_intro h1)).trans ((if_neg h2.not_gt).trans (if_pos h3)))
  · exact hanswer _ ((if_neg (not_not_intro h1)).trans ((if_neg h2.not_gt).trans ((if_neg h3.not_gt).trans (if_pos h4))))
  · refine ⟨mergeWrite (s.save.kept.title.offset + leNat [o0, o1, o2, o3]) data s.save.kept.title.blocks, _, _, ?_, rfl,
      rfl, ?_, ?_, ?_, ?_⟩
    · rwa [mergeWrite_length]
    · rw [mergeWrite_indices, newBlocks]
      congr 2
      exact funext (not_hasBlock_eq _)
    · exact hanswer _ ((if_neg (not_not_intro h1)).trans ((if_neg h2.not_gt).trans ((if_neg h3.not_gt).trans
        (if_neg h4.not_gt))))
    · exact fun k hk => stagedAt_mergeWrite_inside hfull hlen hk
    · exact fun y hy => stagedAt_mergeWrite_outside _ hy

end Sys2Proof.Machine
end

section
/-! PROOF. The memories and the journal (R32, R34, R38, R44, log 5): every step keeps the two memories canonical, the
queue the list of the slots that wait, the pool within its bounds, and a copy in progress that of a COPYING slot. -/

namespace Sys2Proof.Machine

/-! ## The memories -/

theorem memoryOk_tornSram {s : State} (h : MemoryOk s) : Memory.wf (tornSram s) = true := by
  unfold tornSram
  split
  · split
    · exact Memory.wf_writeBytes _ _ _ h.2
    · exact h.2
    · exact h.2
  · exact h.2

theorem MemoryOk.kept {s t : State} (h : MemoryOk s) (hrom : t.rom = s.rom := by simp)
    (hsram : t.sram = s.sram := by simp) : MemoryOk t := by
  rwa [MemoryOk, hrom, hsram]

theorem MemoryOk.answer {s t : State} (h : MemoryOk s) {k : Kind} (he : AnswerEffect k s t) : MemoryOk t := by
  cases he with
  | clockSet | turnSet => exact h.kept (by simp) (by simp)
  | _ => exact h.kept

theorem MemoryOk.effect {s t : State} (h : MemoryOk s) (he : EventEffect s t) : MemoryOk t := by
  cases he with
  | nothing | resetLine | offToStart | frameCounted => exact h
  | vslot mv =>
    have hw : MemoryOk (warnIfBelow (setVslot mv s)) := h.kept
    unfold vslotBecomes offIfBelow
    split
    · exact ⟨hw.1, memoryOk_tornSram hw⟩
    · exact hw
  | commitStep cs bytes =>
    have hstores : MemoryOk (burstStores cs (freeBus s)) := by
      unfold burstStores
      split
      · exact ⟨h.1, Memory.wf_writeBytes _ _ _ h.2⟩
      · exact h
      · exact h
    exact hstores.kept
  | _ => exact h.kept

/-! ## The journal -/

/-- R32, R38: the number of staged blocks that slot `id` may hold. -/
def room : SlotId → Nat
  | .title => 31
  | .clock => 1

/-- R34: a slot that stands in the pending queue. -/
def waits (sl : Slot) : Prop := sl.state = .pending ∧ sl.held = false

/-- R32, R38: the staged blocks of slot `id` are within the pool's bounds. -/
def BlocksOk (id : SlotId) (blocks : List StagedBlock) : Prop :=
  blocks.length ≤ room id ∧ (blocks.map StagedBlock.index).Nodup ∧ BlocksFull blocks

/-- What the journal's invariant asks of kept RAM, slot by slot. -/
def SlotsOk (s : State) : Prop :=
  s.save.kept.queue.Nodup ∧ (∀ id, id ∈ s.save.kept.queue ↔ waits (slotAt s id))
    ∧ ∀ id, BlocksOk id (slotAt s id).blocks

theorem blocksOk_nil (id : SlotId) : BlocksOk id [] := ⟨Nat.zero_le _, List.nodup_nil, by simp [BlocksFull]⟩

theorem queueLists_and_poolOk_iff {s : State} : QueueLists s.save.kept ∧ PoolOk s.save.kept ↔ SlotsOk s := by
  constructor
  · rintro ⟨⟨hnodup, htitle, hclock⟩, hlen, hlen', hidx, hfull⟩
    refine ⟨hnodup, fun id => by cases id; exacts [htitle, hclock], fun id => ?_⟩
    rw [List.forall_mem_append] at hfull
    cases id with
    | title => exact ⟨hlen, hidx, hfull.1⟩
    | clock =>
      refine ⟨hlen', ?_, hfull.2⟩
      match hblocks : s.save.kept.clock.blocks with
      | [] => exact List.nodup_nil
      | [b] => exact List.nodup_singleton _
      | _ :: _ :: _ => simp [hblocks] at hlen'
  · rintro ⟨hnodup, hwaits, hblocks⟩
    refine ⟨⟨hnodup, hwaits .title, hwaits .clock⟩, (hblocks .title).1, (hblocks .clock).1, (hblocks .title).2.1, ?_⟩
    exact List.forall_mem_append.mpr ⟨(hblocks .title).2.2, (hblocks .clock).2.2⟩

theorem journalOk_iff {s : State} : JournalOk s ↔ SlotsOk s ∧ CopyOk s := by
  rw [JournalOk, ← and_assoc, queueLists_and_poolOk_iff]

section

variable {s t : State}

/-! ### One slot changed -/

/-- A slot changed, and its place in the queue with it. -/
theorem SlotsOk.changed (h : SlotsOk s) (id : SlotId) (hblocks : BlocksOk id (slotAt t id).blocks)
    (hqueue : waits (slotAt t id) ∧ t.save.kept.queue = s.save.kept.queue.filter (· ≠ id) ++ [id]
      ∨ ¬ waits (slotAt t id) ∧ t.save.kept.queue = s.save.kept.queue.filter (· ≠ id))
    (hstate : (slotAt t (otherSlot id)).state = (slotAt s (otherSlot id)).state := by simp)
    (hheld : (slotAt t (otherSlot id)).held = (slotAt s (otherSlot id)).held := by simp)
    (hother : (slotAt t (otherSlot id)).blocks = (slotAt s (otherSlot id)).blocks := by simp) : SlotsOk t := by
  obtain ⟨hnodup, hwaits, hfull⟩ := h
  have hrest : (otherSlot id ∈ s.save.kept.queue) ↔ waits (slotAt t (otherSlot id)) := by
    rw [hwaits, waits, waits, hstate, hheld]
  have hne := otherSlot_ne id
  refine ⟨?_, fun id' => ?_, fun id' => ?_⟩
  · rcases hqueue with ⟨-, hq⟩ | ⟨-, hq⟩ <;> rw [hq]
    · exact (hnodup.filter _).append (List.nodup_singleton _) (by simp)
    · exact hnodup.filter _
  · by_cases heq : id' = id
    · subst heq
      rcases hqueue with ⟨hw, hq⟩ | ⟨hw, hq⟩ <;> simp [hq, hw]
    · rw [eq_otherSlot_of_ne heq]
      rcases hqueue with ⟨-, hq⟩ | ⟨-, hq⟩ <;> simp [hq, hne, hrest]
  · by_cases heq : id' = id
    · exact heq ▸ hblocks
    · rw [eq_otherSlot_of_ne heq, hother]
      exact hfull _

/-- A slot that does not wait stands nowhere in the queue. -/
theorem SlotsOk.filter_queue (h : SlotsOk s) {id : SlotId} (hw : ¬ waits (slotAt s id)) :
    s.save.kept.queue.filter (· ≠ id) = s.save.kept.queue := by
  rw [List.filter_eq_self]
  intro x hx
  have : id ∉ s.save.kept.queue := fun hmem => hw ((h.2.1 id).mp hmem)
  exact decide_eq_true fun heq : x = id => this (heq ▸ hx)

theorem not_waits_of_state {sl : Slot} (h : sl.state ≠ .pending) : ¬ waits sl := fun hw => h hw.1

theorem SlotsOk.freeSlot (h : SlotsOk s) {id : SlotId} (hw : ¬ waits (slotAt s id)) : SlotsOk (freeSlot id s) := by
  refine h.changed id ?_ (.inr ⟨?_, ?_⟩)
  · rw [slotAt_freeSlot_same]; exact blocksOk_nil id
  · rw [slotAt_freeSlot_same]; exact not_waits_of_state (by simp [freedSlot])
  · rw [freeSlot_queue, h.filter_queue hw]

theorem SlotsOk.joinQueue (h : SlotsOk s) {id : SlotId} (hw : ¬ waits (slotAt s id)) : SlotsOk (joinQueue id s) := by
  refine h.changed id ?_ (.inl ⟨?_, ?_⟩)
  · rw [slotAt_joinQueue_same]; exact h.2.2 id
  · rw [slotAt_joinQueue_same]; exact ⟨rfl, rfl⟩
  · rw [joinQueue_queue, h.filter_queue hw]

theorem SlotsOk.setSlot (h : SlotsOk s) {id : SlotId} (hw : ¬ waits (slotAt s id)) {sl : Slot} (hsl : ¬ waits sl)
    (hblocks : BlocksOk id sl.blocks) : SlotsOk (setSlot id sl s) := by
  refine h.changed id ?_ (.inr ⟨?_, ?_⟩)
  · rwa [slotAt_setSlot_same]
  · rwa [slotAt_setSlot_same]
  · rw [setSlot_queue, h.filter_queue hw]

theorem SlotsOk.startCopy (h : SlotsOk s) (id : SlotId) (rolling : Bool) : SlotsOk (startCopy id rolling s) := by
  refine h.changed id ?_ (.inr ⟨?_, startCopy_queue ..⟩)
  · rw [slotAt_startCopy_same]; exact h.2.2 id
  · rw [slotAt_startCopy_same]; exact not_waits_of_state (by simp [takenSlot])

theorem SlotsOk.kept (h : SlotsOk s) (hslots : slotAt t = slotAt s)
    (hqueue : t.save.kept.queue = s.save.kept.queue) : SlotsOk t := by
  rwa [SlotsOk, hslots, hqueue]

theorem SlotsOk.of_kept (h : SlotsOk s) (hk : t.save.kept = s.save.kept := by simp) : SlotsOk t :=
  h.kept (slotAt_congr hk) (by rw [hk])

/-! ### The copy -/

theorem CopyOk.changed (h : CopyOk s) (id : SlotId) (hnot : (slotAt s id).state ≠ .copying)
    (hstate : (slotAt t (otherSlot id)).state = (slotAt s (otherSlot id)).state := by simp)
    (hcopy : t.save.copy = s.save.copy := by simp) (hphase : t.supply.phase = s.supply.phase := by simp) :
    CopyOk t := by
  rw [CopyOk, hcopy, hphase]
  refine ⟨fun c hc => ?_, h.2⟩
  have hcopying := h.1 c hc
  have hne : c.slot ≠ id := fun heq => hnot (heq ▸ hcopying)
  rw [eq_otherSlot_of_ne hne] at hcopying ⊢
  rwa [hstate]

theorem CopyOk.kept (h : CopyOk s) (hslots : slotAt t = slotAt s) (hcopy : t.save.copy = s.save.copy)
    (hphase : t.supply.phase = s.supply.phase := by simp) : CopyOk t := by
  rwa [CopyOk, hcopy, hphase, hslots]

theorem copyOk_of_none (h : s.save.copy = none) : CopyOk s := by
  simp [CopyOk, h]

theorem copyOk_startCopy {id : SlotId} (rolling : Bool) (h : 4 ≤ s.supply.phase) : CopyOk (startCopy id rolling s) := by
  obtain ⟨c, hc, hslot, -⟩ := startCopy_copy id rolling s
  refine ⟨fun c' hc' => ?_, fun hlt => ?_⟩
  · cases hc.symm.trans hc'
    rw [hslot, slotAt_startCopy_same]
    rfl
  · rw [startCopy_supply] at hlt
    omega

/-! ### Both -/

/-- The journal of `s` is in order. -/
def JournalKept (s : State) : Prop := SlotsOk s ∧ CopyOk s

theorem JournalKept.kept (h : JournalKept s) (hslots : slotAt t = slotAt s)
    (hqueue : t.save.kept.queue = s.save.kept.queue) (hcopy : t.save.copy = s.save.copy)
    (hphase : t.supply.phase = s.supply.phase := by simp) : JournalKept t :=
  ⟨h.1.kept hslots hqueue, h.2.kept hslots hcopy hphase⟩

/-- A change beside the save engine and the start-up progress. -/
theorem JournalKept.of_save (h : JournalKept s) (hsave : t.save = s.save := by simp)
    (hphase : t.supply.phase = s.supply.phase := by simp) : JournalKept t :=
  h.kept (slotAt_congr (by rw [hsave])) (by rw [hsave]) (by rw [hsave]) hphase

theorem JournalKept.freeSlot (h : JournalKept s) {id : SlotId} (hw : ¬ waits (slotAt s id))
    (hnot : (slotAt s id).state ≠ .copying) : JournalKept (freeSlot id s) :=
  ⟨h.1.freeSlot hw, h.2.changed id hnot⟩

theorem JournalKept.joinQueue (h : JournalKept s) {id : SlotId} (hw : ¬ waits (slotAt s id))
    (hnot : (slotAt s id).state ≠ .copying) : JournalKept (joinQueue id s) :=
  ⟨h.1.joinQueue hw, h.2.changed id hnot⟩

theorem JournalKept.setSlot (h : JournalKept s) {id : SlotId} (hw : ¬ waits (slotAt s id))
    (hnot : (slotAt s id).state ≠ .copying) {sl : Slot} (hsl : ¬ waits sl) (hblocks : BlocksOk id sl.blocks) :
    JournalKept (setSlot id sl s) :=
  ⟨h.1.setSlot hw hsl hblocks, h.2.changed id hnot⟩

theorem JournalKept.setOutcome (h : JournalKept s) (r : OutcomeRecord) : JournalKept (setOutcome r s) :=
  h.kept (funext fun id => slotAt_setOutcome id s r) rfl rfl

theorem JournalKept.setRecord (h : JournalKept s) (i : Nat) (r : Record) : JournalKept (setRecord i r s) :=
  h.kept (funext fun id => slotAt_setRecord id s i r) rfl rfl

theorem JournalKept.mapRecords (h : JournalKept s) (f : Record → Record) : JournalKept (mapRecords f s) :=
  h.kept (funext fun id => slotAt_mapRecords id s f) (by simp) (by simp)

theorem JournalKept.startCopy (h : SlotsOk s) (id : SlotId) (rolling : Bool) (hphase : 4 ≤ s.supply.phase) :
    JournalKept (startCopy id rolling s) :=
  ⟨h.startCopy id rolling, copyOk_startCopy rolling hphase⟩

/-- A COLLECTING slot neither waits nor is being copied. -/
theorem JournalKept.discarded (h : JournalKept s) (hcoll : s.save.kept.title.state = .collecting) (r : OutcomeRecord) :
    JournalKept (Machine.setOutcome r (Machine.freeSlot .title s)) :=
  (h.freeSlot (not_waits_of_state (by simp [hcoll])) (by simp [hcoll])).setOutcome r

/-! ## What an event sets off -/

theorem blocksOk_filled (s : State) (sel : Nat) : BlocksOk .clock (filledClockSlot s sel).blocks := by
  refine ⟨le_rfl, List.nodup_singleton _, ?_⟩
  simp [BlocksFull, filledClockSlot, dayBlockBytes_length]

theorem JournalKept.fillClock (h : JournalKept s) : JournalKept (fillClock s) := by
  unfold Machine.fillClock
  split
  · rename_i hdue
    have hfree : s.save.kept.clock.state = .free := (fillDue_iff.mp hdue).2.2.1
    split
    · exact h
    · rename_i sel _
      have hset : JournalKept (Machine.setSlot .clock (filledClockSlot s sel) s) :=
        h.setSlot (not_waits_of_state (by simp [hfree])) (by simp [hfree])
          (not_waits_of_state (by simp [filledClockSlot, freedSlot])) (blocksOk_filled s sel)
      have hdays : JournalKept (setDays { s.days with dirty := false, rebuilt := false }
          (Machine.setSlot .clock (filledClockSlot s sel) s)) := hset
      exact hdays.joinQueue (not_waits_of_state (by simp [setDays, Machine.setSlot, setKept, filledClockSlot, freedSlot]))
        (by simp [setDays, Machine.setSlot, setKept, filledClockSlot, freedSlot])
  · exact h

theorem JournalKept.takeHead (h : JournalKept s) : JournalKept (takeHead s) := by
  unfold Machine.takeHead
  split
  · split
    · exact .startCopy h.1 _ _ (by omega)
    · exact h
  · exact h

theorem JournalKept.settle (h : JournalKept s) : JournalKept (settle s) := by
  unfold Machine.settle
  exact h.fillClock.takeHead.of_save

/-! ## Resets, selections, the clock and the supply -/

theorem JournalKept.titleReset (h : JournalKept s) : JournalKept (titleReset s) := by
  have hl : JournalKept { s with link := resetLink s.link } := h
  have hj : JournalKept (resetJournal { s with link := resetLink s.link }) := by
    simp only [resetJournal]
    split
    · exact hl.discarded ‹_› _
    · exact hl
  unfold Machine.titleReset
  exact (hj.mapRecords relocked).of_save

theorem JournalKept.endSelection (h : JournalKept s) : JournalKept (endSelection s) := by
  unfold Machine.endSelection
  split
  · exact h
  · exact h
  · exact h
  · split
    · exact h.titleReset.of_save
    · exact h

/-- R34: a slot that neither waits nor is being copied joins the queue with its blocks. -/
theorem JournalKept.rejoined (h : JournalKept s) {id : SlotId}
    (hs : ¬ waits (slotAt s id) ∧ (slotAt s id).state ≠ .copying) (sl : Slot) (hstate : sl.state = (slotAt s id).state)
    (hheld : sl.held = (slotAt s id).held) (hblocks : sl.blocks = (slotAt s id).blocks) :
    JournalKept (Machine.joinQueue id (Machine.setSlot id sl s)) := by
  obtain ⟨hw, hnot⟩ := hs
  have hsl : ¬ waits sl := by rwa [waits, hstate, hheld]
  have hset : JournalKept (Machine.setSlot id sl s) := h.setSlot hw hnot hsl (hblocks ▸ h.1.2.2 id)
  exact hset.joinQueue (by rwa [slotAt_setSlot_same]) (by rwa [slotAt_setSlot_same, hstate])

/-- R39: a slot that can be committed neither waits nor is being copied. -/
theorem committable_spec {sl : Slot} (h : committable sl = true) : ¬ waits sl ∧ sl.state ≠ .copying := by
  simp only [committable, Bool.or_eq_true, Bool.and_eq_true, beq_iff_eq] at h
  rcases h with h | ⟨h, hheld⟩ <;> simp [waits, *]

theorem JournalKept.retryClockSlot (h : JournalKept s) : JournalKept (retryClockSlot s) := by
  simp only [Machine.retryClockSlot]
  split
  · rename_i hheld
    obtain ⟨hpending, hheld⟩ := hheld
    exact h.rejoined ⟨by simp [waits, hheld], by simp [hpending]⟩ _ rfl rfl rfl
  · exact h

theorem JournalKept.clockTick (h : JournalKept s) : JournalKept (clockTick s) := by
  unfold Machine.clockTick
  split
  · exact h.of_save
  · dsimp only
    split
    · have hc : JournalKept (catchUp { s with clock := tickedClock s.clock }) := h.of_save
      exact .settle (hc.retryClockSlot.of_save (by simp) rfl)
    · exact h

theorem JournalKept.vslotBecomes (h : JournalKept s) (mv : Nat) : JournalKept (vslotBecomes mv s) := by
  have hw : JournalKept (warnIfBelow (setVslot mv s)) := by
    unfold warnIfBelow
    split
    · have hm : JournalKept (markWaiting (changeSupply .warn (setVslot mv s))) := h.of_save (by simp) (by simp [markWaiting, changeSupply, setVslot])
      exact .settle hm.of_save
    · exact h
  unfold Machine.vslotBecomes offIfBelow
  split
  · exact ⟨hw.1.of_kept rfl, copyOk_of_none rfl⟩
  · exact hw

/-- R68: rebuilt kept RAM has two FREE slots and an empty queue. -/
theorem slotsOk_rebuilt (h : s.save.kept = { mark := true }) : SlotsOk s := by
  have hslot : ∀ id, slotAt s id = {} := by intro id; cases id <;> simp [h]
  refine ⟨by simp [h], fun id => ?_, fun id => ?_⟩
  · rw [hslot]; simp [h, waits]
  · rw [hslot]; exact blocksOk_nil id

theorem JournalKept.checkRetention (h : JournalKept s) (hphase : s.supply.phase = 1) : JournalKept (checkRetention s) := by
  have hcopy : s.save.copy = none := h.2.2 (by omega)
  have hdone : ∀ u : State, SlotsOk u → u.save.copy = none → ∀ v : State, v.save = u.save → JournalKept v :=
    fun u hu hc v hv => ⟨hu.of_kept (by rw [hv]), copyOk_of_none (by rw [hv, hc])⟩
  unfold Machine.checkRetention
  dsimp only
  split
  · exact hdone (retentionIntact s) (h.1.of_kept (by simp)) (by simp [hcopy]) _ rfl
  · exact hdone (retentionLost s) (slotsOk_rebuilt (by simp [retentionLost])) (by simp [retentionLost, hcopy]) _ rfl

/-- The start-up progress goes on, with the save engine as it was. -/
theorem JournalKept.later (h : JournalKept s) (hsave : t.save.kept = s.save.kept) (hcopy : t.save.copy = s.save.copy)
    (hphase : s.supply.phase ≤ t.supply.phase) : JournalKept t := by
  refine ⟨h.1.of_kept hsave, ?_⟩
  rw [CopyOk, hcopy, slotAt_congr hsave]
  exact ⟨h.2.1, fun hlt => h.2.2 (Nat.lt_of_le_of_lt hphase hlt)⟩

theorem JournalKept.passOn (h : JournalKept s) : JournalKept (passOn s) := by
  refine h.later rfl rfl ?_
  unfold Machine.passOn
  dsimp only
  split <;> omega

/-! ## Roll-forward and the commit engine -/

/-- Where nothing is left to roll forward, nothing is being copied. -/
theorem copy_of_nextToRoll (h : CopyOk s) (hnone : nextToRoll s = none) : s.save.copy = none := by
  cases hc : s.save.copy with
  | none => rfl
  | some c =>
    have hrolls : rollsForward (slotAt s c.slot) = true := by simp [rollsForward, h.1 c hc]
    obtain ⟨htitle, hclock⟩ := (nextToRoll_eq_none_iff s).mp hnone
    cases hslot : c.slot <;> simp [hslot, htitle, hclock] at hrolls

theorem JournalKept.rollOn (h : JournalKept s) (hphase : 4 ≤ s.supply.phase) : JournalKept (rollOn s) := by
  unfold Machine.rollOn
  split
  · exact .startCopy h.1 _ _ hphase
  · exact ⟨(h.mapRecords closedRecord).1.of_kept, copyOk_of_none (by simp [copy_of_nextToRoll h.2 ‹_›])⟩

theorem JournalKept.completeLoad (h : JournalKept s) (d : Directory) : JournalKept (completeLoad d s) := by
  have h4 : JournalKept { s with
      dir := { d with loading := none }, supply := { s.supply with phase := 4, waiting := false } } :=
    ⟨h.1, h.2.1, fun hlt => absurd hlt (Nat.lt_irrefl 4)⟩
  unfold Machine.completeLoad
  refine JournalKept.rollOn ?_ (by simp)
  simp only [discardCollecting]
  split
  · exact h4.discarded ‹_› _
  · exact h4

theorem JournalKept.loadBurst (h : JournalKept s) (bytes : List Byte) : JournalKept (loadBurst bytes s) := by
  have hheader : JournalKept (takeHeader bytes s) := h
  have hentry : ∀ i, JournalKept (takeEntry i bytes s) := fun _ => h
  unfold Machine.loadBurst
  split
  · exact h
  · split
    · exact hheader.of_save
    · exact h.completeLoad _
  · rename_i i _
    dsimp only
    split
    · exact (hentry i).of_save
    · exact (hentry i).completeLoad _

theorem JournalKept.rollIfRolling (h : JournalKept s) : JournalKept (rollIfRolling s) := by
  unfold Machine.rollIfRolling
  split
  · exact h.rollOn (by omega)
  · exact h

/-- A copy of slot `id` is at work. -/
def AtWork (id : SlotId) (s : State) : Prop :=
  SlotsOk s ∧ (slotAt s id).state = .copying ∧ 4 ≤ s.supply.phase

theorem AtWork.posted {c : Copy} (h : AtWork c.slot s) : JournalKept (postStep c s) := by
  obtain ⟨hslots, hcopying, hphase⟩ := h
  refine ⟨hslots.of_kept rfl, fun c' hc' => ?_, fun hlt => ?_⟩
  · cases hc'
    rwa [slotAt_postStep]
  · rw [postStep_supply] at hlt
    omega

theorem AtWork.begun {c : Copy} (h : AtWork c.slot s) (part : CopyPart) : JournalKept (beginPart c part s) := by
  simp only [beginPart]
  split <;> split <;> exact AtWork.posted h

/-- The copy's slot leaves COPYING, and no copy is in progress. -/
theorem JournalKept.dropped (h : SlotsOk s) (id : SlotId) (r : OutcomeRecord) :
    JournalKept (dropCopy (recordEnding id r s)) := by
  have hrec : SlotsOk (recordEnding id r s) := by
    cases id
    · exact h.kept (funext fun id => slotAt_setOutcome id s r) rfl
    · exact h
  exact ⟨hrec.of_kept, copyOk_of_none (by simp)⟩

theorem JournalKept.reported (h : JournalKept s) (id : SlotId) (r : OutcomeRecord) :
    JournalKept (reportEnding id r s) := h.of_save

theorem JournalKept.retaken (h : JournalKept s) (id : SlotId) (rolling : Bool) (hphase : 4 ≤ s.supply.phase) :
    JournalKept (Machine.startCopy id rolling s) := .startCopy h.1 id rolling hphase

theorem JournalKept.rewritten (h : JournalKept s) (id : SlotId) (target : Nat) :
    JournalKept (rewriteDays id target s) := h.of_save

theorem JournalKept.notified (h : JournalKept s) (n : Notice) : JournalKept (notify n s) := h.of_save

theorem AtWork.setRecord {id : SlotId} (h : AtWork id s) (i : Nat) (r : Record) : AtWork id (setRecord i r s) :=
  ⟨h.1.kept (funext fun id => slotAt_setRecord id s i r) rfl, by rw [slotAt_setRecord]; exact h.2.1, h.2.2⟩

theorem AtWork.freeSlot {id : SlotId} (h : AtWork id s) : SlotsOk (freeSlot id s) :=
  h.1.freeSlot (not_waits_of_state (by simp [h.2.1]))

theorem AtWork.hold {id : SlotId} (h : AtWork id s) : SlotsOk (setSlot id (heldSlot (slotAt s id)) s) :=
  h.1.setSlot (not_waits_of_state (by simp [h.2.1])) (by simp [waits, heldSlot]) (h.1.2.2 id)

theorem AtWork.completeCopy {c : Copy} (h : AtWork c.slot s) : JournalKept (completeCopy c s) := by
  unfold Machine.completeCopy
  exact .rollIfRolling (.reported (.dropped (h.setRecord _ _).freeSlot _ _) _ _)

theorem AtWork.verifyFault {c : Copy} (h : AtWork c.slot s) (pos : Nat) : JournalKept (verifyFault c pos s) := by
  have hr := h.setRecord (slotAt s c.slot).target { recordAt s (slotAt s c.slot).target with state := .damaged }
  unfold Machine.verifyFault
  dsimp only
  split
  · have hheld := hr.hold
    rw [slotAt_setRecord] at hheld
    simp only [firstFault]
    split
    · exact .retaken (.reported (.notified (.dropped hheld _ _) _) _ _) _ _ (by simp; omega)
    · exact .reported (.notified (.dropped hheld _ _) _) _ _
  · unfold discardOnFault
    exact .rollIfRolling (.rewritten (.reported (.notified (.dropped hr.freeSlot _ _) _) _ _) _ _)

theorem AtWork.nextPart {c : Copy} (h : AtWork c.slot s) : JournalKept (nextPart c s) := by
  simp only [Machine.nextPart]
  split
  · split
    · exact h.begun _
    · split
      · exact h.begun _
      · exact h.completeCopy
  · split
    · exact h.begun _
    · exact h.completeCopy

theorem AtWork.commitStepDone {c : Copy} (h : AtWork c.slot s) (bytes : List Byte) :
    JournalKept (commitStepDone c bytes s) := by
  unfold Machine.commitStepDone
  split
  · unfold afterRead
    split
    · exact AtWork.posted h
    · exact AtWork.nextPart h
  · exact AtWork.posted h
  · have hsummed : AtWork (summed (slotAt s c.slot) bytes c).slot s := by
      unfold summed
      split
      · split <;> exact h
      · exact h
    unfold afterReadBack
    split
    · exact h.verifyFault _
    · exact hsummed.nextPart

theorem JournalKept.engineTakes (h : JournalKept s) (bytes : List Byte) : JournalKept (engineTakes bytes s) := by
  unfold Machine.engineTakes
  split
  · rename_i c hc
    have hphase : 4 ≤ s.supply.phase := by
      by_contra hlt
      simp [h.2.2 (by omega)] at hc
    exact AtWork.commitStepDone ⟨h.1, h.2.1 c hc, hphase⟩ bytes
  · exact h

/-! ## The scan -/

theorem JournalKept.judgeRegion (h : JournalKept s) (region sum : Nat) : JournalKept (judgeRegion region sum s) := by
  simp only [Machine.judgeRegion]
  split
  · exact h.setRecord _ _
  · exact (h.setRecord _ _).notified _

/-- The scan's end leads to phase 7, before which there is a copy only from phase 4 on. -/
theorem JournalKept.scanFrom (h : JournalKept s) (i : Nat) : JournalKept (scanFrom i s) := by
  unfold Machine.scanFrom
  split
  · exact h
  · refine ⟨h.1.of_kept rfl, h.2.1, fun hlt => h.2.2 ?_⟩
    rw [endScan, passTo_supply] at hlt
    split at hlt
    · exact hlt
    · simp at hlt

theorem JournalKept.scanTakes (h : JournalKept s) (bytes : List Byte) : JournalKept (scanTakes bytes s) := by
  unfold Machine.scanTakes
  split
  · simp only [scanBlock]
    split
    · exact h.kept (funext fun id => by cases id <;> simp [postScan]) (by simp [postScan]) (by simp [postScan])
    · rename_i sc _ _
      have hh : JournalKept (handDays sc.region bytes s) := h.of_save
      exact (hh.judgeRegion _ _).scanFrom _
  · exact h

/-! ## Every step -/

theorem JournalKept.answer (h : JournalKept s) {k : Kind} (he : AnswerEffect k s t) : JournalKept t := by
  cases he with
  | saveBegun w tag hfree =>
    exact h.setSlot (not_waits_of_state (by simp [hfree])) (by simp [hfree])
      (not_waits_of_state (by simp [collectingSlot])) (blocksOk_nil _)
  | saveWritten y data hcoll hroom =>
    obtain ⟨-, hidx, hfull⟩ := h.1.2.2 .title
    refine h.setSlot (not_waits_of_state (by simp [hcoll])) (by simp [hcoll]) (not_waits_of_state (by simp [hcoll])) ?_
    exact ⟨(mergeWrite_length ..).trans_le hroom, mergeWrite_indices_nodup hidx y data, blocksFull_mergeWrite hfull y data⟩
  | emptyEnded tag hcoll => exact h.discarded hcoll _
  | titleQueued tag full hcomm => exact .settle (h.rejoined (id := .title) (committable_spec hcomm) _ rfl rfl rfl)
  | abandoned r hcomm =>
    obtain ⟨hw, hnot⟩ := committable_spec hcomm
    exact (h.freeSlot (id := .title) hw hnot).setOutcome r
  | eraseQueued w tag hfree =>
    have hset : JournalKept (Machine.setSlot .title (eraseSlot w tag s.save.kept.title) s) :=
      h.setSlot (not_waits_of_state (by simp [hfree])) (by simp [hfree])
        (not_waits_of_state (by simp [eraseSlot, freedSlot])) (blocksOk_nil _)
    exact .settle (hset.joinQueue (not_waits_of_state (by rw [slotAt_setSlot_same]; simp [eraseSlot, freedSlot]))
      (by rw [slotAt_setSlot_same]; simp [eraseSlot, freedSlot]))
  | recordSet i r => exact h.setRecord i r
  | tryTaken | masterSet | locksFrozen => exact h.kept rfl rfl rfl rfl
  | clockSet | turnSet => exact .settle (h.of_save (by simp) (by simp))
  | counterArmed | counterDisarmed | counterAcked | voiceSetUp | keyOn => exact .settle h.of_save
  | cellChecked => exact h
  | _ => exact h.of_save

theorem JournalKept.afterMeasurement (h : JournalKept s) : JournalKept (afterMeasurement s) := by
  unfold Machine.afterMeasurement
  split
  · exact (h.checkRetention ‹_›).settle
  · exact h

theorem JournalKept.effect (h : JournalKept s) (he : EventEffect s t) : JournalKept t := by
  cases he with
  | nothing | resetLine | frameCounted => exact h
  | resetTaken => exact h.titleReset.of_save
  | selection | resetLineEnds => exact h.endSelection.of_save
  | resetLineTitle =>
    have he : JournalKept { Machine.endSelection s with srst := true } := h.endSelection
    exact he.titleReset
  | vslot mv => exact h.vslotBecomes mv
  | offToStart => exact ⟨h.1, copyOk_of_none rfl⟩
  | normalToLow | lowToNormal => exact .settle h.of_save
  | warnRecovery =>
    have hc : JournalKept (changeSupply (recoveryState s) s) := h.of_save
    exact .settle hc.passOn
  | measured mv =>
    have hm : JournalKept (completeMeasurement mv s) := h.of_save
    exact hm.afterMeasurement
  | directoryBurst a bytes =>
    have hf : JournalKept (freeBus s) := h
    exact .settle (hf.loadBurst bytes)
  | linkOpen hphase =>
    have h6 : JournalKept { s with supply := { s.supply with phase := 6, waiting := false } } :=
      h.later rfl rfl (by simp [hphase])
    exact .settle (h6.scanFrom 0)
  | scanStep a bytes =>
    have hf : JournalKept (freeBus s) := h
    exact .settle (hf.scanTakes bytes)
  | dayBlock hphase =>
    have hl : JournalKept (catchUp (loadDays s)) := h.of_save (by simp) (by simp)
    exact .settle (hl.later (by simp) (by simp) (by simp [becomeReady, hphase]))
  | commitStep cs bytes =>
    have hb : JournalKept (burstStores cs (freeBus s)) := h.of_save
    exact .settle (hb.engineTakes bytes)
  | tick => exact h.clockTick
  | linkRead => exact .settle (h.of_save (by simp) (by simp))
  | refill => exact .settle h.of_save
  | frame =>  exact .settle (h.of_save (by simp) (by simp))
  | envelopes => exact .settle (h.of_save (by simp) (by simp))
  | driver => exact h.of_save

end

/-- Settles O28: every operation on the journal changes one slot and its place in the queue; only block writes change
SRAM. -/
theorem memoryAndJournalInvariant : Obligations.MemoryAndJournalInvariant := by
  intro s t h
  constructor
  · exact step_keeps_effects (P := MemoryOk) (fun _ _ h => h) (fun _ _ h => h) (fun _ h => h.kept)
      (fun _ _ _ h he => h.answer he) (fun _ _ h he => h.effect he) h
  · intro hs
    have ht : JournalKept t :=
      step_keeps_effects (P := JournalKept) (fun _ _ h => h) (fun _ _ h => h) (fun _ h => h.endSelection)
        (fun _ _ _ h he => h.answer he) (fun _ _ h he => h.effect he) h (journalOk_iff.mp hs)
    exact journalOk_iff.mpr ht

end Sys2Proof.Machine
end

section
/-! The memory port as the other blocks leave it: the save engine, the scan and the directory load post their requests, and
touch nothing else of the port. -/

namespace Sys2Proof.Machine

/-- R22: from `s` to `t` the port differs at most in the requests posted for the commit engine, the scan and the directory
load. -/
def Posts (s t : State) : Prop :=
  t.port = { s.port with commit := t.port.commit, scan := t.port.scan, directory := t.port.directory }

section

variable {s t u : State}

theorem Posts.of_port (h : t.port = s.port := by simp) : Posts s t := by
  rw [Posts, h]

theorem Posts.trans (h : Posts s t) (h' : Posts t u) : Posts s u := by
  rw [Posts] at *
  rw [h', h]

theorem Posts.then (h : Posts s t) (hu : u.port = t.port := by simp) : Posts s u := h.trans (.of_port hu)

theorem Posts.burst (h : Posts s t) : t.port.burst = s.port.burst := by rw [h]
theorem Posts.refills (h : Posts s t) : t.port.refills = s.port.refills := by rw [h]
theorem Posts.starvation (h : Posts s t) : t.port.starvation = s.port.starvation := by rw [h]
theorem Posts.linkRead (h : Posts s t) : t.port.linkRead = s.port.linkRead := by rw [h]
theorem Posts.passed (h : Posts s t) : t.port.passed = s.port.passed := by rw [h]
theorem Posts.mark (h : Posts s t) : t.port.mark = s.port.mark := by rw [h]

/-! ## The commit engine -/

theorem posts_postStep (c : Copy) (s : State) : Posts s (postStep c s) := rfl

theorem posts_beginPart (c : Copy) (part : CopyPart) (s : State) : Posts s (beginPart c part s) := by
  simp only [beginPart]
  split <;> split <;> rfl

theorem posts_startCopy (id : SlotId) (rolling : Bool) (s : State) : Posts s (startCopy id rolling s) := by
  rw [startCopy_eq]
  exact .trans (.of_port (by simp [takenFrom])) (posts_beginPart ..)

theorem posts_takeHead (s : State) : Posts s (takeHead s) := by
  unfold takeHead
  split
  · split
    · exact posts_startCopy ..
    · rfl
  · rfl

theorem posts_rollOn (s : State) : Posts s (rollOn s) := by
  unfold rollOn
  split
  · exact posts_startCopy ..
  · exact .of_port

theorem posts_rollIfRolling (s : State) : Posts s (rollIfRolling s) := by
  unfold rollIfRolling
  split
  · exact posts_rollOn s
  · rfl

theorem posts_completeCopy (c : Copy) (s : State) : Posts s (completeCopy c s) := by
  unfold completeCopy
  exact .trans (.of_port (by simp)) (posts_rollIfRolling _)

theorem posts_verifyFault (c : Copy) (pos : Nat) (s : State) : Posts s (verifyFault c pos s) := by
  unfold verifyFault
  dsimp only
  split
  · simp only [firstFault]
    split
    · exact .trans (.of_port (by simp)) (posts_startCopy ..)
    · exact .of_port (by simp)
  · unfold discardOnFault
    exact .trans (.of_port (by simp)) (posts_rollIfRolling _)

theorem posts_nextPart (c : Copy) (s : State) : Posts s (nextPart c s) := by
  simp only [nextPart]
  split
  · split
    · exact posts_beginPart ..
    · split
      · exact posts_beginPart ..
      · exact posts_completeCopy ..
  · split
    · exact posts_beginPart ..
    · exact posts_completeCopy ..

theorem posts_engineTakes (bytes : List Byte) (s : State) : Posts s (engineTakes bytes s) := by
  unfold engineTakes
  split
  · unfold commitStepDone
    split
    · unfold afterRead
      split
      · exact posts_postStep ..
      · exact posts_nextPart ..
    · exact posts_postStep ..
    · unfold afterReadBack
      split
      · exact posts_verifyFault ..
      · exact posts_nextPart ..
  · rfl

/-! ## The scan and the directory load -/

theorem posts_scanFrom (i : Nat) (s : State) : Posts s (scanFrom i s) := by
  unfold scanFrom
  split <;> rfl

theorem posts_scanTakes (bytes : List Byte) (s : State) : Posts s (scanTakes bytes s) := by
  unfold scanTakes
  split
  · simp only [scanBlock]
    split
    · exact .trans (t := handDays _ _ s) (.of_port) rfl
    · exact .trans (.of_port (by simp)) (posts_scanFrom ..)
  · rfl

theorem posts_completeLoad (d : Directory) (s : State) : Posts s (completeLoad d s) := by
  unfold completeLoad
  exact .trans (.of_port (by simp)) (posts_rollOn _)

theorem posts_loadBurst (bytes : List Byte) (s : State) : Posts s (loadBurst bytes s) := by
  unfold loadBurst
  split
  · rfl
  · split
    · rfl
    · exact posts_completeLoad ..
  · dsimp only
    split
    · rfl
    · exact posts_completeLoad _ (takeEntry ..)

theorem posts_checkRetention (s : State) : Posts s (checkRetention s) := by
  simp only [checkRetention]
  split
  · exact .trans (t := retentionIntact s) .of_port rfl
  · exact .trans (t := retentionLost s) .of_port rfl

end

end Sys2Proof.Machine
end

section
/-! PROOF. The voices (R121, R122, R135, R136, R26): every step keeps the voices, their buffers and refills, every fetch
inside its window, and the anti-starvation count. -/

namespace Sys2Proof.Machine

/-! ## One voice -/

/-- What the invariants ask of a voice; with `w`, of its window too. -/
def VoiceFits (w : Prop) (v : Voice) : Prop := VoiceOk v ∧ v.run.length ≤ 16 ∧ (w → WindowOk v)

/-- What the invariants ask of a voice for which `c` bytes from ROM address `a` are on their way; with `w`, of the
addresses too. -/
def RefillFits (w : Prop) (a c : Nat) (v : Voice) : Prop :=
  v.state ≠ .idle ∧ v.run.length ≤ 7 ∧ c ≤ 8
    ∧ (w → ∃ b len, v.window = some (b, len) ∧ b ≤ a ∧ 1 ≤ c ∧ a + c ≤ b + endBoundary v)

section

variable {w : Prop} {v v' : Voice}

theorem voiceFits_default : VoiceFits w {} :=
  ⟨fun _ => ⟨rfl, rfl, rfl, rfl⟩, Nat.zero_le _, fun _ h => by simp [isPcm] at h⟩

theorem voiceOk_of_sounding (h : v.state ≠ .idle) : VoiceOk v := fun hidle => absurd hidle h

/-- A voice whose window and positions stand, and whose run has no new byte, is in order if its index is. -/
theorem WindowOk.moved (h : WindowOk v) (hrun : v'.run ⊆ v.run)
    (hindex : v.startPos < v.endPos → v.loopStart < v.endPos → (v.state ≠ .idle → v.index < v.endPos) →
      v'.state ≠ .idle → v'.index < v.endPos)
    (hformat : v'.format = v.format := by rfl) (hwindow : v'.window = v.window := by rfl)
    (hstart : v'.startPos = v.startPos := by rfl) (hloop : v'.loopStart = v.loopStart := by rfl)
    (hend : v'.endPos = v.endPos := by rfl) : WindowOk v' := by
  intro hpcm
  obtain ⟨b, len, h1, h2, h3, h4, h5, h6⟩ := h (hformat ▸ hpcm)
  have hboundary : endBoundary v' = endBoundary v := by rw [endBoundary, endBoundary, hend, hformat]
  rw [hboundary, hstart, hloop, hend, hwindow]
  exact ⟨b, len, h1, h2, h3, h4, hindex h3 h4 h5, fun x hx => h6 x (hrun hx)⟩

/-- A change to a voice that sounds, which goes on sounding with its buffer and its index. -/
theorem VoiceFits.sounding (h : VoiceFits w v) (hs : v.state ≠ .idle) (hs' : v'.state ≠ .idle)
    (hrun : v'.run = v.run := by rfl) (hindex : v'.index = v.index := by rfl)
    (hformat : v'.format = v.format := by rfl) (hwindow : v'.window = v.window := by rfl)
    (hstart : v'.startPos = v.startPos := by rfl) (hloop : v'.loopStart = v.loopStart := by rfl)
    (hend : v'.endPos = v.endPos := by rfl) : VoiceFits w v' :=
  ⟨voiceOk_of_sounding hs', hrun ▸ h.2.1, fun hw => (h.2.2 hw).moved (hrun ▸ List.Subset.refl _)
    (fun _ _ hi _ => hindex ▸ hi hs) hformat hwindow hstart hloop hend⟩

theorem VoiceFits.idleVoice (h : VoiceFits w v) : VoiceFits w (idleVoice v) :=
  ⟨fun _ => ⟨rfl, rfl, rfl, rfl⟩, Nat.zero_le _, fun hw =>
    (h.2.2 hw).moved (List.nil_subset _) fun _ _ _ hs => absurd rfl hs⟩

/-- A voice of another rate, volume, pan, target or step. -/
theorem VoiceFits.tuned (h : VoiceFits w v) {rate volume pan target step : Nat} : VoiceFits w { v with
    rate := rate, volume := volume, pan := pan, target := target, step := step } :=
  h

theorem VoiceFits.setUp (h : VoiceFits w v) (hidle : v.state = .idle) {u : Setup} {win : Option (Nat × Nat)}
    (hok : SetupOk u win) : VoiceFits w (setUpVoice u win v) := by
  obtain ⟨⟨f, hf⟩, hwin⟩ := hok
  obtain ⟨he, hpriming, -, -⟩ := h.1 hidle
  refine ⟨fun _ => ⟨he, hpriming, rfl, rfl⟩, Nat.zero_le _, fun _ hpcm => ?_⟩
  have hformat : (setUpVoice u win v).format = f := by simp [setUpVoice, hf]
  obtain ⟨b, len, h1, h2, h3, h4⟩ := hwin f hf (hformat ▸ hpcm)
  exact ⟨b, len, h1, by rw [endBoundary, hformat]; exact h2, h3, h4, fun _ => h3, by simp [setUpVoice]⟩

theorem VoiceFits.keyedOn (h : VoiceFits w v) : VoiceFits w (keyedOn v) :=
  ⟨voiceOk_of_sounding (by simp [Machine.keyedOn]), Nat.zero_le _, fun hw =>
    (h.2.2 hw).moved (List.nil_subset _) fun hstart _ _ _ => hstart⟩

theorem VoiceFits.keyedOff (h : VoiceFits w v) (step : Nat) : VoiceFits w (keyedOff step v) := by
  unfold Machine.keyedOff
  split
  · exact h
  · exact h.sounding ‹_› (by simp)

/-! The trim at a grant (R136) -/

theorem trimRun_run (v : Voice) : (trimRun v).run = v.run.drop v.runOffset := by
  unfold trimRun
  split
  · rfl
  · exact (List.drop_eq_nil_of_le (by omega)).symm

theorem trimRun_run_length (v : Voice) : (trimRun v).run.length = bytesAhead v := by
  rw [trimRun_run, List.length_drop, bytesAhead]

@[simp] theorem trimRun_state (v : Voice) : (trimRun v).state = v.state := by rw [trimRun_eq]
@[simp] theorem trimRun_window (v : Voice) : (trimRun v).window = v.window := by rw [trimRun_eq]
@[simp] theorem trimRun_format (v : Voice) : (trimRun v).format = v.format := by rw [trimRun_eq]
@[simp] theorem trimRun_endPos (v : Voice) : (trimRun v).endPos = v.endPos := by rw [trimRun_eq]

theorem VoiceFits.trimRun (h : VoiceFits w v) (hs : v.state ≠ .idle) : VoiceFits w (trimRun v) := by
  refine ⟨voiceOk_of_sounding (by simpa using hs), ?_, fun hw => ?_⟩
  · have := h.2.1
    rw [trimRun_run, List.length_drop]
    omega
  · rw [trimRun_eq]
    exact (h.2.2 hw).moved (trimRun_run v ▸ List.drop_subset _ _) fun _ _ hi _ => hi hs

/-- R136: the fetch point of a voice whose window is in order lies before its end boundary. -/
theorem fetchPoint_lt (hwin : WindowOk v) (hpcm : isPcm v.format = true) (hs : v.state ≠ .idle) :
    fetchPoint v < endBoundary v := by
  obtain ⟨b, len, h1, h2, h3, h4, h5, h6⟩ := hwin hpcm
  have hsample : 0 < sampleBytes v.format := by cases v.format <;> decide
  unfold fetchPoint
  split
  · exact Nat.mul_lt_mul_of_pos_right (h5 hs) hsample
  · rename_i f hf
    obtain ⟨x, hx, rfl⟩ := Option.map_eq_some_iff.mp hf
    obtain ⟨hlo, hhi⟩ := h6 x (List.mem_of_getLast? hx)
    split
    · exact Nat.mul_lt_mul_of_pos_right h4 hsample
    · simp only [windowBase, h1] at *
      omega

/-- R136: what a grant fetches fits its voice. -/
theorem VoiceFits.granted (h : VoiceFits w v) (hwants : wantsRefill v = true) :
    RefillFits w (windowBase (Machine.trimRun v) + fetchPoint (Machine.trimRun v))
      (min 8 (endBoundary (Machine.trimRun v) - fetchPoint (Machine.trimRun v))) (Machine.trimRun v) := by
  simp only [wantsRefill, Bool.and_eq_true, bne_iff_ne, ne_eq, decide_eq_true_eq] at hwants
  obtain ⟨⟨⟨hpcm, hs⟩, hahead⟩, -⟩ := hwants
  refine ⟨by simpa using hs, by rw [trimRun_run_length]; omega, Nat.min_le_left .., fun hw => ?_⟩
  have hwin := (h.trimRun hs).2.2 hw
  have hpcm' : isPcm (Machine.trimRun v).format = true := by simpa using hpcm
  have hlt := fetchPoint_lt hwin hpcm' (by simpa using hs)
  obtain ⟨b, len, h1, -⟩ := hwin hpcm'
  refine ⟨b, len, h1, ?_⟩
  simp only [windowBase, h1]
  omega

/-! The refill's completion (R137) -/

theorem cellsFrom_length (a : Nat) (bytes : List Byte) : (cellsFrom a bytes).length = bytes.length := by
  induction bytes generalizing a with
  | nil => rfl
  | cons b bytes ih => simp [cellsFrom, ih]

theorem mem_cellsFrom {x : Host.Cell} {a : Nat} {bytes : List Byte} (h : x ∈ cellsFrom a bytes) :
    a ≤ x.1 ∧ x.1 < a + bytes.length := by
  induction bytes generalizing a with
  | nil => simp [cellsFrom] at h
  | cons b bytes ih =>
    rw [List.length_cons]
    rcases List.mem_cons.mp h with rfl | h
    · simp
    · have := ih h
      omega

theorem VoiceFits.appendBurst (h : VoiceFits w v) {a : Nat} {bytes : List Byte} (hfits : RefillFits w a bytes.length v) :
    VoiceFits w (appendBurst a bytes v) := by
  obtain ⟨hs, hlen, hc, haddr⟩ := hfits
  refine ⟨voiceOk_of_sounding hs, ?_, fun hw hpcm => ?_⟩
  · show (v.run ++ cellsFrom a bytes).length ≤ 16
    rw [List.length_append, cellsFrom_length]
    omega
  · obtain ⟨b, len, h1, h2, h3, h4, h5, h6⟩ := h.2.2 hw hpcm
    obtain ⟨b', len', h1', hlo, -, hhi⟩ := haddr hw
    obtain ⟨rfl, rfl⟩ : b = b' ∧ len = len' := by simpa using h1.symm.trans h1'
    refine ⟨b, len, h1, h2, h3, h4, h5, fun x hx => ?_⟩
    rcases List.mem_append.mp hx with hx | hx
    · exact h6 x hx
    · have := mem_cellsFrom hx
      have hsame : endBoundary (Machine.appendBurst a bytes v) = endBoundary v := rfl
      omega

/-! Ticks and frames -/

theorem VoiceFits.envelopeVoice (h : VoiceFits w v) : VoiceFits w (envelopeVoice v) := by
  unfold Machine.envelopeVoice
  split
  · exact h
  · rename_i hs
    exact h.sounding (by simp [hs]) (by simp [hs])
  · rename_i hs
    split
    · exact h.idleVoice
    · exact h.sounding (by simp [hs]) (by simp [hs])

theorem wrapIndex_lt (h : v.loopStart < v.endPos) : wrapIndex v < v.endPos := by
  have := Nat.mod_lt (v.index - v.loopStart) (Nat.sub_pos_of_lt h)
  unfold wrapIndex
  omega

theorem steps_iff (v : Voice) : steps v = true ↔ v.state ≠ .idle ∧ v.priming = false := by
  simp [steps, Machine.sounding]

theorem VoiceFits.frameVoice (h : VoiceFits w v) : VoiceFits w (frameVoice v) := by
  unfold Machine.frameVoice
  split
  · rename_i hsteps
    have hs : v.state ≠ .idle := ((steps_iff v).mp hsteps).1
    unfold endOrLoop
    split
    · rename_i hi
      exact ⟨voiceOk_of_sounding hs, h.2.1, fun hw => (h.2.2 hw).moved (List.Subset.refl _) fun _ _ _ _ => hi⟩
    · split
      · exact ⟨voiceOk_of_sounding hs, h.2.1, fun hw => (h.2.2 hw).moved (List.Subset.refl _)
          fun _ hloop _ _ => wrapIndex_lt (v := advanceVoice v) hloop⟩
      · exact ⟨fun _ => ⟨rfl, rfl, rfl, rfl⟩, Nat.zero_le _, fun hw => (h.2.2 hw).moved (List.nil_subset _)
          fun _ _ _ hs => absurd rfl hs⟩
  · exact h

end

/-! A refill on its way -/

section

variable {w : Prop} {v v' : Voice} {a c : Nat}

theorem RefillFits.sounding (h : RefillFits w a c v) (hs : v'.state ≠ .idle) (hrun : v'.run = v.run := by rfl)
    (hwindow : v'.window = v.window := by rfl) (hend : endBoundary v' = endBoundary v := by rfl) :
    RefillFits w a c v' := by
  rw [RefillFits, hrun, hwindow, hend]
  exact ⟨hs, h.2⟩

theorem RefillFits.keyedOff (h : RefillFits w a c v) (step : Nat) : RefillFits w a c (keyedOff step v) := by
  unfold Machine.keyedOff
  split
  · exact h
  · exact h.sounding (by simp)

theorem RefillFits.envelopeVoice (h : RefillFits w a c v) (hgo : releaseEnds v = false) :
    RefillFits w a c (envelopeVoice v) := by
  unfold Machine.envelopeVoice
  split
  · exact h
  · exact h.sounding h.1
  · rename_i hs
    split
    · rename_i hzero
      simp [releaseEnds, hs, hzero] at hgo
    · exact h.sounding h.1

theorem RefillFits.frameVoice (h : RefillFits w a c v) (hgo : frameEnds v = false) : RefillFits w a c (frameVoice v) := by
  unfold Machine.frameVoice
  split
  · rename_i hsteps
    unfold endOrLoop
    split
    · exact h.sounding h.1
    · rename_i hend
      split
      · exact h.sounding h.1
      · rename_i hloop
        have hover : v.endPos ≤ v.index + samplesAdvanced v := Nat.le_of_not_lt hend
        have hstay : v.looping = false := by simpa [advanceVoice] using hloop
        simp [frameEnds, hsteps, hover, hstay] at hgo
  · exact h

end

/-! ## The sound engine -/

/-- What an event leaves to `settle`: every voice, a refill in progress whose bytes will not be discarded, and with `v`
the anti-starvation count. -/
def SoundFits (v w : Prop) (s : State) : Prop :=
  (∀ n, n < 8 → VoiceFits w (voiceAt s n))
    ∧ (∀ n a c, s.port.burst = some (.refill n a c false) → RefillFits w a c (voiceAt s n))
    ∧ (v → s.port.starvation ≤ 4)

/-- What every step keeps. -/
def SoundOk (v w : Prop) (s : State) : Prop := SoundFits v w s ∧ RefillsCurrent s

section

variable {v w : Prop} {s t : State}

theorem lt_of_voiceAt_state {n : Nat} (h : (voiceAt s n).state ≠ .idle) : n < 8 := by
  by_contra hn
  simp [voiceAt, hn] at h

theorem voiceAt_congr (h : t.voices = s.voices) (n : Nat) : voiceAt t n = voiceAt s n := by rw [voiceAt, voiceAt, h]

theorem SoundFits.voice (h : SoundFits v w s) (n : Nat) : VoiceFits w (voiceAt s n) := by
  by_cases hn : n < 8
  · exact h.1 n hn
  · have hdefault : voiceAt s n = {} := by simp [voiceAt, hn]
    exact hdefault ▸ voiceFits_default

/-- The invariants as the statements put them. -/
theorem soundOk_iff : SoundOk v w s ↔ VoicesOk s ∧ (v → s.port.starvation ≤ 4) ∧ (w → WindowsOk s) := by
  constructor
  · rintro ⟨⟨hvoices, hburst, hstarved⟩, hrefills⟩
    refine ⟨⟨fun n hn => ⟨(hvoices n hn).1, (hvoices n hn).2.1⟩, hrefills, ?_⟩, hstarved,
      fun hw => ⟨fun n hn => (hvoices n hn).2.2 hw, ?_⟩⟩
    · unfold BurstOk
      split
      · rename_i hb
        obtain ⟨h1, h2, h3, -⟩ := hburst _ _ _ hb
        exact ⟨h1, h2, h3⟩
      · trivial
    · split
      · rename_i hb
        obtain ⟨h1, -, -, h4⟩ := hburst _ _ _ hb
        exact ⟨lt_of_voiceAt_state h1, h4 hw⟩
      · trivial
  · rintro ⟨⟨hvoices, hrefills, hburst⟩, hstarved, hwindows⟩
    refine ⟨⟨fun n hn => ⟨(hvoices n hn).1, (hvoices n hn).2, fun hw => (hwindows hw).1 n hn⟩, fun n a c hb => ?_,
      hstarved⟩, hrefills⟩
    rw [BurstOk, hb] at hburst
    obtain ⟨h1, h2, h3⟩ := hburst
    refine ⟨h1, h2, h3, fun hw => ?_⟩
    have haddr := (hwindows hw).2
    rw [hb] at haddr
    exact haddr.2

/-! ### Changes beside the voices -/

theorem SoundFits.beside (h : SoundFits v w s) (hvoices : t.voices = s.voices := by simp)
    (hburst : t.port.burst = s.port.burst := by simp) (hcount : t.port.starvation = s.port.starvation := by simp) :
    SoundFits v w t := by
  obtain ⟨h1, h2, h3⟩ := h
  refine ⟨fun n hn => ?_, fun n a c hb => ?_, fun hv => ?_⟩
  · rw [voiceAt_congr hvoices]; exact h1 n hn
  · rw [voiceAt_congr hvoices]; exact h2 n a c (hburst ▸ hb)
  · rw [hcount]; exact h3 hv

theorem SoundFits.posted (h : SoundFits v w s) (hport : Posts s t) (hvoices : t.voices = s.voices := by simp) :
    SoundFits v w t :=
  h.beside hvoices hport.burst hport.starvation

/-- Without a refill in progress there is nothing to bring. -/
theorem SoundFits.unburdened (h : SoundFits v w s) (hburst : ∀ n a c, t.port.burst ≠ some (.refill n a c false))
    (hvoices : t.voices = s.voices := by simp) (hcount : v → t.port.starvation ≤ 4) : SoundFits v w t :=
  ⟨fun n hn => by rw [voiceAt_congr hvoices]; exact h.1 n hn, fun n a c hb => absurd hb (hburst n a c), hcount⟩

theorem SoundFits.freeBus (h : SoundFits v w s) : SoundFits v w (freeBus s) :=
  h.unburdened (by simp [Machine.freeBus]) rfl h.2.2

/-- The slot domain's records at their start-up values. -/
theorem soundOk_of_start (hvoices : s.voices = Vector.replicate 8 {}) (hport : s.port = {}) : SoundOk v w s := by
  have hdefault : ∀ n, voiceAt s n = {} := by
    intro n
    rw [voiceAt, hvoices, Vector.getElem?_replicate]
    split <;> rfl
  refine ⟨⟨fun n _ => hdefault n ▸ voiceFits_default, by simp [hport], by simp [hport]⟩, ?_⟩
  have hno : wantsRefill {} = false := rfl
  simp [RefillsCurrent, postRefills, hport, hdefault, hno]

/-! ### Refills posted and granted -/

theorem refillsCurrent_postRefills (s : State) : RefillsCurrent (postRefills s) := rfl

theorem RefillsCurrent.kept (h : RefillsCurrent s) (hvoices : ∀ n, wantsRefill (voiceAt t n) = wantsRefill (voiceAt s n))
    (hrefills : t.port.refills = s.port.refills) (hsupply : t.supply.state = s.supply.state) : RefillsCurrent t := by
  have hwarn : inWarn t = inWarn s := by rw [inWarn, inWarn, hsupply]
  simp only [RefillsCurrent, postRefills, hvoices, hwarn, hrefills] at h ⊢
  exact h

theorem RefillsCurrent.wants (h : RefillsCurrent s) {n : Nat} (hn : n ∈ s.port.refills) :
    n < 8 ∧ wantsRefill (voiceAt s n) = true := by
  rw [h, postRefills] at hn
  dsimp only at hn
  split at hn
  · cases hn
  · simpa using hn

/-- R26: a refill is granted past a waiting commit step only while the count is below 4. -/
theorem starvation_lt_of_refill {n : Nat} (h : chooseGrant s = some (.refill n)) (hc : s.port.commit.isSome = true) :
    s.port.starvation < 4 := by
  by_contra hge
  have hcount : 4 ≤ s.port.starvation := by omega
  obtain ⟨c, hsome⟩ := Option.isSome_iff_exists.mp hc
  unfold chooseGrant at h
  split at h
  · simp [hsome] at h
  · simp [hsome, hcount] at h

theorem SoundOk.grantRefill (h : SoundOk v w s) {k : Nat} (hk : chooseGrant s = some (.refill k)) :
    SoundOk v w (grantRefill k s) := by
  obtain ⟨hk8, hwants⟩ := h.2.wants (chooseGrant_refill s k hk)
  have hs : (voiceAt s k).state ≠ .idle := by
    simp only [wantsRefill, Bool.and_eq_true, bne_iff_ne] at hwants
    exact hwants.1.1.2
  refine ⟨⟨fun n hn => ?_, fun n a c hb => ?_, fun hv => ?_⟩, refillsCurrent_postRefills _⟩
  · rw [grantRefill_voiceAt]
    split
    · exact (h.1.voice k).trimRun hs
    · exact h.1.voice n
  · simp only [Machine.grantRefill, postRefills, Option.some.injEq, Burst.refill.injEq] at hb
    obtain ⟨rfl, rfl, rfl, -⟩ := hb
    rw [grantRefill_voiceAt, if_pos ⟨rfl, hk8⟩]
    exact (h.1.voice k).granted hwants
  · show starvationAfterRefill s ≤ 4
    unfold starvationAfterRefill
    split
    · exact starvation_lt_of_refill hk ‹_›
    · exact Nat.zero_le _

theorem SoundOk.grant (h : SoundOk v w s) : SoundOk v w (grant s) := by
  unfold Machine.grant
  split
  · exact h
  · split
    · exact h
    · rename_i g hg
      cases g with
      | refill k => exact h.grantRefill hg
      | _ => exact ⟨h.1.unburdened (by simp [grantTo]) rfl fun _ => Nat.zero_le _, h.2.kept (fun _ => rfl) rfl rfl⟩

theorem SoundFits.settle (h : SoundFits v w s) : SoundOk v w (settle s) := by
  unfold Machine.settle
  refine SoundOk.grant ⟨?_, (refillsCurrent_postRefills (takeHead (fillClock s))).kept (fun _ => rfl) rfl rfl⟩
  have hf : SoundFits v w (fillClock s) := h.beside
  exact (hf.posted (posts_takeHead _)).beside rfl rfl rfl

/-! ### Voices changed -/

@[simp] theorem staleRefill_starvation (n : Nat) (s : State) : (staleRefill n s).port.starvation = s.port.starvation := by
  unfold staleRefill
  split
  · split <;> rfl
  · rfl

@[simp] theorem staleRefills_starvation (ended : Nat → Bool) (s : State) :
    (staleRefills ended s).port.starvation = s.port.starvation := by
  unfold staleRefills
  split <;> rfl

/-- R31: after a voice's burst has been marked, no burst brings it anything. -/
theorem burst_of_staleRefill {n m a c : Nat} (h : (staleRefill n s).port.burst = some (.refill m a c false)) :
    m ≠ n ∧ s.port.burst = some (.refill m a c false) := by
  unfold staleRefill at h
  split at h
  · rename_i hb
    split at h
    · simp at h
    · rename_i hne
      simp only [Option.some.injEq, Burst.refill.injEq] at h
      obtain ⟨rfl, rfl, rfl, rfl⟩ := h
      exact ⟨hne, hb⟩
  · rename_i hb
    exact absurd h (hb _ _ _ _)

theorem burst_of_staleRefills {ended : Nat → Bool} {m a c : Nat}
    (h : (staleRefills ended s).port.burst = some (.refill m a c false)) :
    ended m = false ∧ s.port.burst = some (.refill m a c false) := by
  unfold staleRefills at h
  split at h
  · rename_i hb
    simp only [Option.some.injEq, Burst.refill.injEq, Bool.or_eq_false_iff] at h
    obtain ⟨rfl, rfl, rfl, rfl, hended⟩ := h
    exact ⟨hended, hb⟩
  · rename_i hb
    exact absurd h (hb _ _ _ _)

/-- A voice replaced by another in order, whose burst in flight, if any, is to be discarded. -/
theorem SoundFits.replaced (h : SoundFits v w s) (n : Nat) {x : Voice} (hx : VoiceFits w x) :
    SoundFits v w (staleRefill n (setVoice n x s)) := by
  have hvoice : ∀ m, voiceAt (staleRefill n (setVoice n x s)) m = if m = n ∧ n < 8 then x else voiceAt s m := by
    intro m
    rw [voiceAt_congr (staleRefill_voices ..), voiceAt_setVoice]
  refine ⟨fun m _ => ?_, fun m a c hb => ?_, fun hv => ?_⟩
  · rw [hvoice]
    split
    · exact hx
    · exact h.voice m
  · obtain ⟨hne, hb⟩ := burst_of_staleRefill hb
    rw [hvoice, if_neg (fun heq => hne heq.1)]
    exact h.2.1 m a c hb
  · rw [staleRefill_starvation]
    exact h.2.2 hv

/-- A voice adjusted, with its buffer, its refill and its positions as they were. -/
theorem SoundOk.adjusted (h : SoundOk v w s) (n : Nat) {x : Voice} (hx : VoiceFits w x)
    (hwants : wantsRefill x = wantsRefill (voiceAt s n))
    (hfits : ∀ a c, RefillFits w a c (voiceAt s n) → RefillFits w a c x) : SoundOk v w (setVoice n x s) := by
  refine ⟨⟨fun m _ => ?_, fun m a c hb => ?_, h.1.2.2⟩, h.2.kept (fun m => ?_) rfl rfl⟩
  · rw [voiceAt_setVoice]
    split
    · exact hx
    · exact h.1.voice m
  · rw [voiceAt_setVoice]
    split
    · rename_i heq
      exact hfits a c (heq.1 ▸ h.1.2.1 m a c hb)
    · exact h.1.2.1 m a c hb
  · rw [voiceAt_setVoice]
    split
    · rename_i heq
      rw [heq.1, hwants]
    · rfl

theorem voiceAt_ofFn (f : Voice → Voice) {n : Nat} (hn : n < 8) (hvoices : t.voices = Vector.ofFn (fun i : Fin 8 => f s.voices[i])) :
    voiceAt t n = f (voiceAt s n) := by
  simp [voiceAt, hvoices, hn]

/-- All voices moved at once; a burst for a voice that this ends is to be discarded. -/
theorem SoundFits.moved (h : SoundFits v w s) {f : Voice → Voice} {ended : Nat → Bool}
    (hvoices : t.voices = Vector.ofFn (fun i : Fin 8 => f s.voices[i])) (hburst : t.port = s.port)
    (hf : ∀ x, VoiceFits w x → VoiceFits w (f x))
    (hfits : ∀ n a c, ended n = false → RefillFits w a c (voiceAt s n) → RefillFits w a c (f (voiceAt s n))) :
    SoundFits v w (staleRefills ended t) := by
  have hvoice : ∀ n, n < 8 → voiceAt (staleRefills ended t) n = f (voiceAt s n) := by
    intro n hn
    rw [voiceAt_congr (staleRefills_voices ..), voiceAt_ofFn f hn hvoices]
  refine ⟨fun n hn => ?_, fun n a c hb => ?_, fun hv => ?_⟩
  · rw [hvoice n hn]
    exact hf _ (h.1 n hn)
  · obtain ⟨hended, hb⟩ := burst_of_staleRefills hb
    have hold := h.2.1 n a c (hburst ▸ hb)
    rw [hvoice n (lt_of_voiceAt_state hold.1)]
    exact hfits n a c hended hold
  · rw [staleRefills_starvation, hburst]
    exact h.2.2 hv

/-! ### The operations -/

/-- A change beside the sound engine, its port records and the supply. -/
theorem SoundOk.beside (h : SoundOk v w s) (hvoices : t.voices = s.voices := by simp)
    (hport : t.port = s.port := by simp) (hsupply : t.supply.state = s.supply.state := by simp) : SoundOk v w t :=
  ⟨h.1.beside hvoices (by rw [hport]) (by rw [hport]),
    h.2.kept (fun n => by rw [voiceAt_congr hvoices]) (by rw [hport]) hsupply⟩

theorem SoundOk.besideSettled (h : SoundOk v w s) (hvoices : t.voices = s.voices := by simp)
    (hport : t.port = s.port := by simp) : SoundOk v w (settle t) :=
  (h.1.beside hvoices (by rw [hport]) (by rw [hport])).settle

theorem SoundOk.recomputed (h : SoundOk v w s) : SoundOk v w (recompute s) := h.beside

theorem SoundOk.titleReset (h : SoundOk v w s) : SoundOk v w (titleReset s) := by
  have hreset : ∀ u : State, u.port = s.port → SoundOk v w (resetVoices u) := by
    intro u hport
    have hdefault : ∀ n, voiceAt (resetVoices u) n = {} := by
      intro n
      simp only [voiceAt, resetVoices, postRefills, Vector.getElem?_replicate]
      split <;> rfl
    refine ⟨⟨fun n _ => hdefault n ▸ voiceFits_default, fun n a c hb => ?_, fun hv => ?_⟩,
      refillsCurrent_postRefills _⟩
    · simp only [resetVoices, postRefills] at hb
      split at hb
      · cases hb
      · rename_i hne
        exact absurd hb (hne _ _ _ _)
    · show u.port.starvation ≤ 4
      rw [hport]
      exact h.1.2.2 hv
  unfold Machine.titleReset
  exact SoundOk.recomputed (hreset _ (by simp))

theorem SoundOk.withdrawLinkRead (h : SoundOk v w s) : SoundOk v w (withdrawLinkRead s) := by
  refine ⟨⟨h.1.1, fun n a c hb => h.1.2.1 n a c ?_, h.1.2.2⟩, h.2.kept (fun _ => rfl) rfl rfl⟩
  simp only [Machine.withdrawLinkRead] at hb
  split at hb
  · cases hb
  · exact hb

theorem SoundOk.endSelection (h : SoundOk v w s) : SoundOk v w (endSelection s) := by
  unfold Machine.endSelection
  split
  · exact h
  · exact h
  · exact h.withdrawLinkRead
  · split
    · exact h.titleReset.beside
    · exact h

theorem SoundOk.stopVoice (h : SoundOk v w s) (n : Nat) : SoundOk v w (stopVoice n s) := by
  unfold Machine.stopVoice
  split
  · exact h
  · have hstop := h.1.replaced n (h.1.voice n).idleVoice
    exact ⟨hstop.beside rfl rfl rfl, refillsCurrent_postRefills _⟩

theorem SoundOk.clockTick (h : SoundOk v w s) : SoundOk v w (clockTick s) := by
  unfold Machine.clockTick
  split
  · exact h.beside
  · dsimp only
    split
    · exact h.besideSettled (by simp) (by simp)
    · exact h

theorem SoundOk.vslotBecomes (h : SoundOk v w s) (mv : Nat) : SoundOk v w (vslotBecomes mv s) := by
  unfold Machine.vslotBecomes offIfBelow
  split
  · exact soundOk_of_start rfl rfl
  · unfold warnIfBelow
    split
    · exact h.besideSettled (by simp) (by simp)
    · exact h

theorem SoundOk.afterMeasurement (h : SoundOk v w s) : SoundOk v w (afterMeasurement s) := by
  unfold Machine.afterMeasurement
  split
  · exact (h.1.posted (posts_checkRetention s)).settle
  · exact h

theorem SoundOk.moveEnvelopes (h : SoundOk v w s) : SoundOk v w (moveEnvelopes s) := by
  have hmoved : SoundFits v w (staleRefills (fun n => releaseEnds (voiceAt s n))
      { s with voices := Vector.ofFn (fun i : Fin 8 => envelopeVoice s.voices[i]) }) :=
    h.1.moved rfl rfl (fun _ hx => hx.envelopeVoice) fun _ _ _ hgo hfits => hfits.envelopeVoice hgo
  exact (hmoved.beside).settle

theorem SoundOk.soundFrame (h : SoundOk v w s) : SoundOk v w (soundFrame s) := by
  have hmoved : SoundFits v w (staleRefills (fun n => frameEnds (voiceAt s n))
      { s with voices := Vector.ofFn (fun i : Fin 8 => frameVoice s.voices[i]), mixer := mixed s }) :=
    h.1.moved rfl rfl (fun _ hx => hx.frameVoice) fun _ _ _ hgo hfits => hfits.frameVoice hgo
  exact (hmoved.beside).settle

theorem SoundFits.deliverRefill (h : SoundFits v w s) {n a c : Nat} {stale : Bool} {bytes : List Byte}
    (hburst : s.port.burst = some (.refill n a c stale)) (hlen : bytes.length = c) :
    SoundFits v w (deliverRefill n a stale bytes (Machine.freeBus s)) := by
  unfold Machine.deliverRefill
  split
  · exact h.freeBus
  · rename_i hstale
    obtain rfl : stale = false := by simpa using hstale
    subst hlen
    refine ⟨fun m _ => ?_, by simp [setVoice, Machine.freeBus], h.2.2⟩
    rw [voiceAt_setVoice]
    split
    · exact (h.voice n).appendBurst (h.2.1 n a _ hburst)
    · exact h.voice m

/-! ### Every step -/

theorem SoundOk.answer (h : SoundOk v w s) {k : Kind} (he : AnswerEffect k s t) : SoundOk v w t := by
  cases he with
  | readPosted r =>
    have hposted : SoundOk v w (postLinkRead r s) :=
      ⟨h.1.beside rfl rfl rfl, h.2.kept (fun _ => rfl) rfl rfl⟩
    exact hposted.grant
  | titleQueued | eraseQueued | counterArmed | counterDisarmed | counterAcked => exact h.besideSettled
  | clockSet | turnSet => exact h.besideSettled (by simp) (by simp)
  | voiceSetUp u win hn hidle hok => exact (h.1.replaced _ ((h.1.voice _).setUp hidle hok)).settle
  | keyOn n => exact (h.1.replaced _ (h.1.voice n).keyedOn).settle
  | keyOff n step =>
    refine h.adjusted n ((h.1.voice n).keyedOff step) ?_ fun _ _ hfits => hfits.keyedOff step
    unfold keyedOff
    split
    · rfl
    · rename_i hs
      have hreleasing : (VoiceState.releasing != .idle) = ((voiceAt s n).state != .idle) := by
        rw [bne_iff_ne.mpr hs]
        rfl
      simp only [wantsRefill, hreleasing]
      rfl
  | pitchSet n | levelSet n | rampSet n =>
    refine h.adjusted n ?_ rfl fun _ _ hfits => hfits.sounding hfits.1
    exact (h.1.voice n).tuned
  | voiceStopped n => exact h.stopVoice n
  | cellChecked => exact h
  | _ => exact h.beside

theorem SoundOk.effect (h : SoundOk v w s) (he : EventEffect s t) : SoundOk v w t := by
  cases he with
  | nothing | resetLine | frameCounted => exact h
  | resetTaken => exact h.titleReset.beside
  | selection | resetLineEnds => exact h.endSelection.beside
  | resetLineTitle =>
    have he : SoundOk v w { Machine.endSelection s with srst := true } := h.endSelection
    exact he.titleReset
  | vslot mv => exact h.vslotBecomes mv
  | offToStart => exact soundOk_of_start rfl rfl
  | measured mv =>
    have hm : SoundOk v w (completeMeasurement mv s) := h.beside
    exact hm.afterMeasurement
  | directoryBurst a bytes => exact (h.1.freeBus.posted (posts_loadBurst ..)).settle
  | linkOpen =>
    have h6 : SoundFits v w { s with supply := { s.supply with phase := 6, waiting := false } } := h.1
    exact (h6.posted (posts_scanFrom ..)).settle
  | scanStep a bytes => exact (h.1.freeBus.posted (posts_scanTakes ..)).settle
  | refill n a c stale bytes hb hlen => exact (h.1.deliverRefill hb hlen).settle
  | linkRead => exact (h.1.freeBus.beside).settle
  | commitStep cs bytes =>
    have hstored : SoundFits v w (burstStores cs (freeBus s)) := h.1.freeBus.beside
    exact (hstored.posted (posts_engineTakes ..)).settle
  | tick => exact h.clockTick
  | frame =>
    have hc : SoundOk v w (countFrame s) := h
    exact hc.soundFrame
  | envelopes => exact h.moveEnvelopes
  | driver => exact h.beside
  | dayBlock => exact h.besideSettled (by simp) (by simp)
  | _ => exact h.besideSettled

end

/-- Settles O46: the three invariants are kept together, the windows and the anti-starvation count as far as they held
before the step. -/
theorem voicesInvariant : Obligations.VoicesInvariant := by
  intro s t hs h
  obtain ⟨ht, hcount, hwindows⟩ : VoicesOk t ∧ (s.port.starvation ≤ 4 → t.port.starvation ≤ 4)
      ∧ (WindowsOk s → WindowsOk t) :=
    soundOk_iff.mp (step_keeps_effects (P := SoundOk (s.port.starvation ≤ 4) (WindowsOk s)) (fun _ _ h => h)
      (fun _ _ h => h) (fun _ h => h.endSelection) (fun _ _ _ h he => h.answer he) (fun _ _ h he => h.effect he) h
      (soundOk_iff.mpr ⟨hs, id, id⟩))
  exact ⟨fun h4 => ⟨ht, hcount h4⟩, fun hw => ⟨ht, hwindows hw⟩⟩

end Sys2Proof.Machine
end

section
/-! PROOF. Commands, selections and frames: every command completes, selections decode to their command (R186 to R191),
the link interface's own answers, and the effects of frames on the latch (R77). -/

namespace Sys2Proof.Machine

/-! ## Every command -/

/-- Settles O1: the step's own rule for a queue that is not empty. -/
theorem stepRunsTheFrontCommand : Obligations.StepRunsTheFrontCommand := step_cons

theorem exec_completes (c : Instr) (s : State) : ∃ t, exec c s = .next t := by
  cases c with
  | titleResetTaken => simp only [exec, execTitleResetTaken]; split <;> exact ⟨_, rfl⟩
  | directoryLoadBurstCompletion => simp only [exec, execDirectoryLoadBurstCompletion]; split <;> exact ⟨_, rfl⟩
  | scanStepCompletion => simp only [exec, execScanStepCompletion]; split <;> exact ⟨_, rfl⟩
  | refillCompletion => simp only [exec, execRefillCompletion]; split <;> exact ⟨_, rfl⟩
  | linkReadCompletion => simp only [exec, execLinkReadCompletion]; split <;> exact ⟨_, rfl⟩
  | commitStepCompletion => simp only [exec, execCommitStepCompletion]; split <;> exact ⟨_, rfl⟩
  | _ => exact ⟨_, rfl⟩

/-- The commands that wait, and the ROM. -/
def SameQueueAndRom (s t : State) : Prop := t.pending = s.pending ∧ t.rom = s.rom

theorem SameQueueAndRom.answer {k : Kind} {s t : State} (h : AnswerEffect k s t) : SameQueueAndRom s t := by
  cases h with
  | clockSet | turnSet => exact ⟨by simp, by simp⟩
  | _ => constructor <;> simp

theorem SameQueueAndRom.effect {s t : State} (h : EventEffect s t) : SameQueueAndRom s t := by
  cases h with
  | dayBlock | linkRead => exact ⟨by simp, by simp⟩
  | vslot mv =>
    unfold vslotBecomes offIfBelow
    split
    · exact ⟨by simp, by simp⟩
    · exact ⟨by simp, by simp⟩
  | _ => constructor <;> simp

/-- Settles O2: every meaning ends in `.next`, and none of the effects reaches the queue of commands or the ROM. -/
theorem everyCommandCompletes : Obligations.EveryCommandCompletes := by
  intro c s
  obtain ⟨t, h⟩ := exec_completes c s
  refine ⟨t, h, ?_⟩
  refine exec_induction (P := SameQueueAndRom s) (fun _ _ _ _ h => h) (fun u hu => ?_) (fun k q arm u hu => ?_)
    (fun c u v hc hu hv => ?_) c s t ⟨rfl, rfl⟩ h
  · exact ⟨by simpa using hu.1, by simpa using hu.2⟩
  · obtain ⟨h1, h2⟩ := SameQueueAndRom.answer (answer_effect k q arm u)
    exact ⟨h1.trans hu.1, h2.trans hu.2⟩
  · obtain ⟨h1, h2⟩ := SameQueueAndRom.effect (exec_effect hc hv)
    exact ⟨h1.trans hu.1, h2.trans hu.2⟩

/-! ## The link interface's refusals -/

/-- Settles O5: the first of the link interface's checks that fails. -/
theorem linkRefusesInOrder : Obligations.LinkRefusesInOrder := by
  intro k q s hh hsel
  have hleast : leastTrusted k ≤ 2 := by cases k <;> decide
  have hlevel : q.level.toNat = q.rank := rfl
  rw [hlevel]
  refine ⟨fun h1 => ?_, fun h1 h2 => ?_, fun h1 h2 h3 => ?_⟩ <;> refine exec_of_linkRefusal hh hsel ?_
  · simp [linkRefusal, h1]
  · have hrefused : 2 < q.rank ∨ leastTrusted k < q.rank := .inr h2
    simp [linkRefusal, h1, hrefused]
  · have htrusted : ¬ (2 < q.rank ∨ leastTrusted k < q.rank) := by omega
    have hphase : (heard s).supply.phase < takenFromPhase k (hasDays (heard s)) := h3
    simp only [linkRefusal, h1, htrusted, hphase, Bool.not_true, Bool.false_eq_true, if_false, if_true]

/-! ## The erase-arm latch (R77) -/

@[simp] theorem notify_latch (n : Notice) (s : State) : (notify n s).link.latch = s.link.latch := by
  rw [notify_link]

@[simp] theorem catchUp_latch (s : State) : (catchUp s).link.latch = s.link.latch := by
  simp only [catchUp, reportDue, reportBehind]
  split
  · split
    · rfl
    · split <;> split <;> simp
  · rfl

@[simp] theorem place_latch (x : PlayerEntry) (s : State) : (place x s).1.link.latch = s.link.latch := by
  simp only [place, placeWaiting]
  split
  · rfl
  · split
    · simp [reportRumble]
    · split
      · rfl
      · simp [reportRumble]

/-- No owner but that of ERASE_ARM fills the latch. -/
theorem latch_of_answer {k : Kind} {s t : State} (h : AnswerEffect k s t) (hk : k ≠ .eraseArm) :
    t.link.latch = s.link.latch := by
  cases h with
  | linkSet l _ hlatch => exact hlatch hk
  | noticeTaken => rfl
  | unorderedTest => simp [unordered]
  | _ => simp

/-- Settles O6: reception empties the latch, and of the owners ERASE_ARM's alone fills it. -/
theorem framesEmptyTheLatch : Obligations.FramesEmptyTheLatch := by
  intro k q s t hh hk h
  rw [exec_requestOf] at h
  cases h
  simp only [serve, hh, if_true]
  split
  · rfl
  · obtain ⟨sel, hsel⟩ := reply_eq (ownerOf k q (presentedArm s) (received s)) q.tag
    rw [hsel]
    exact latch_of_answer (answer_effect k q (presentedArm s) (received s)) hk

/-! ## Broken transfers, and the bytes on LDO -/

theorem received_eq_heard {s : State} (h : s.link.selection = .none) : received s = heard s := received_of_none s h

theorem kindOfCode_eq_none {kind : Byte} (h : ∀ k : Kind, kindCode k ≠ kind) : kindOfCode kind = none := by
  simp [kindOfCode, List.find?_eq_none, h]

theorem frameIsBad_iff {kind tag level length check : Byte} {payload : List Byte} :
    frameIsBad kind tag level length payload check = true
      ↔ 64 < length.toNat ∨ check ≠ crc8 (kind :: tag :: level :: length :: payload) := by
  simp [frameIsBad, requestCheck]

/-- R188: the reply frame is the start byte, the body and its check byte. -/
theorem ldo_of_replying {s : State} {r : Reply} {due : Bool} (h : s.link.selection = .replying r due) (wait k : Nat)
    {body : List Byte} (hbody : body = statusCode r.status :: r.tag :: BitVec.ofNat 8 r.payload.length :: r.payload) :
    ldo s wait k = some (if k < wait then 0x00#8 else (0x3C#8 :: (body ++ [crc8 body])).getD (k - wait) 0x00#8) := by
  subst hbody
  rw [ldo, h]
  rfl

/-- Settles O4: each transfer's own answer, and the reply frame byte by byte. -/
theorem brokenTransfersAnswered : Obligations.BrokenTransfersAnswered := by
  refine ⟨fun s hh hsel => ⟨?_, ?_, ?_⟩, fun s tag wait k h => by rw [ldo, h], ?_⟩
  · intro kind tag level length payload check hbad
    simp only [exec, execFrameError]
    rw [if_pos ⟨hh, frameIsBad_iff.mpr hbad⟩, received_of_none s hsel, replyWith_heard]
  · intro kind q hno
    simp only [exec, execUnknownKind]
    rw [if_pos ⟨hh, kindOfCode_eq_none hno⟩, received_of_none s hsel, replyWith_heard]
  · intro first hfirst
    refine ⟨_, ?_, rfl, fun wait k => rfl⟩
    simp only [exec, execSelectionWithoutFrame]
    rw [if_pos ⟨hh, hfirst⟩]
    simp only [endSelection, hsel]
  · intro s r due wait k body hsel hbody
    rw [ldo_of_replying hsel wait k hbody]
    have hlength : (0x3C#8 :: (body ++ [crc8 body])).length = body.length + 2 := by simp
    refine ⟨fun hk => by rw [if_pos hk], fun hwait hk => ?_, fun hk => ?_⟩
    · rw [if_neg (by omega), List.getD_eq_getElem?_getD, List.getElem?_eq_getElem (by omega)]
      rfl
    · rw [if_neg (by omega), List.getD_eq_default _ _ (by omega)]

/-! ## Selections decode to their command -/

theorem kindOfCode_kindCode (k : Kind) : kindOfCode (kindCode k) = some k := by
  cases k <;> rfl

/-- A frame of at most 64 payload bytes is read up to its check byte. -/
theorem decodeSelection_frame (kind tag level : Byte) {payload : List Byte} (check : Byte) (more : List Byte)
    (hlen : payload.length ≤ 64) :
    decodeSelection ([0xC3#8, kind, tag, level, BitVec.ofNat 8 payload.length] ++ payload ++ [check] ++ more)
      = some (decodeFrame kind tag level (BitVec.ofNat 8 payload.length) payload check) := by
  have hlength : (BitVec.ofNat 8 payload.length).toNat = payload.length := by
    rw [BitVec.toNat_ofNat, Nat.mod_eq_of_lt (by omega)]
  simp only [decodeSelection, List.cons_append, List.nil_append, List.append_assoc, if_true, decodeHeader, hlength]
  rw [if_neg (by omega), List.drop_left, List.take_left]

/-- A whole frame as the format lays it out is not broken. -/
theorem decodeFrame_encoded (kind : Byte) {q : Request} (hlen : q.payload.length ≤ 64) :
    decodeFrame kind q.tag q.level (BitVec.ofNat 8 q.payload.length) q.payload
        (requestCheck kind q.tag q.level (BitVec.ofNat 8 q.payload.length) q.payload)
      = match kindOfCode kind with
        | some k => requestOf k q
        | none => .unknownKind kind q := by
  have hgood : frameIsBad kind q.tag q.level (BitVec.ofNat 8 q.payload.length) q.payload
      (requestCheck kind q.tag q.level (BitVec.ofNat 8 q.payload.length) q.payload) = false := by
    simp [frameIsBad]
    omega
  rw [decodeFrame, hgood]
  rfl

theorem decodeSelection_encodeFrame (kind : Byte) {q : Request} (hlen : q.payload.length ≤ 64) (more : List Byte) :
    decodeSelection (encodeFrame kind q ++ more) = some (match kindOfCode kind with
      | some k => requestOf k q
      | none => .unknownKind kind q) := by
  rw [encodeFrame, decodeSelection_frame _ _ _ _ _ hlen, decodeFrame_encoded _ hlen]

theorem payload_of_wf {k : Kind} {q : Request} (h : (requestOf k q).wf = true) : q.payload.length ≤ 64 := by
  cases k <;> exact of_decide_eq_true h

/-- Settles O3: a frame is read back by its length byte, a broken one by what breaks it. -/
theorem selectionsDecodeToTheirCommand : Obligations.SelectionsDecodeToTheirCommand := by
  intro i bs more hwf hbs
  unfold encodeSelection at hbs
  split at hbs
  · rename_i k q hrequest
    obtain rfl := request_eq_some hrequest
    cases hbs
    rw [decodeSelection_encodeFrame _ (payload_of_wf hwf), kindOfCode_kindCode]
  · split at hbs
    · rename_i kind q _
      cases hbs
      simp only [Instr.wf, Bool.and_eq_true, Option.isNone_iff_eq_none] at hwf
      obtain ⟨hlen, hnone⟩ := hwf
      rw [decodeSelection_encodeFrame _ (of_decide_eq_true hlen), hnone]
    · rename_i kind tag level length payload check _
      cases hbs
      simp only [Instr.wf, frameErrorWf, Bool.and_eq_true] at hwf
      obtain ⟨hbad, hshape⟩ := hwf
      by_cases hlong : 64 < length.toNat
      · simp only [hlong, if_true, Bool.and_eq_true, List.isEmpty_iff, beq_iff_eq] at hshape
        obtain ⟨rfl, rfl⟩ := hshape
        simp [decodeSelection, decodeHeader, decodeFrame, hlong, hbad]
      · simp only [hlong, if_false, beq_iff_eq] at hshape
        obtain rfl : length = BitVec.ofNat 8 payload.length := by rw [hshape, ofNat_toNat_byte]
        have hlen : payload.length ≤ 64 := by omega
        rw [if_neg hlong, ← List.append_assoc, decodeSelection_frame _ _ _ _ _ hlen, decodeFrame, if_pos hbad]
    · rename_i first _
      cases hbs
      have hfirst : first ≠ 0xC3#8 := by simpa [Instr.wf] using hwf
      simp [decodeSelection, hfirst]
    · cases hbs

/-! ## The end of a selection (R189) -/

/-- Settles O7: the end of each kind of selection. -/
theorem selectionEndLosesTheReply : Obligations.SelectionEndLosesTheReply := by
  intro s hup
  have hexec : exec .selectionEnd s = .next (endSelection s) := by simp only [exec, execSelectionEnd, hup, if_true]
  rw [hexec]
  refine ⟨fun h => ?_, fun h => ?_, fun r h => ?_, fun r h => ?_, fun tag h => ?_⟩ <;> rw [endSelection, h]
  · rfl
  · rfl
  · rfl
  · refine ⟨_, rfl, rfl, rfl, rfl, rfl, fun r st hb => ?_, fun hb => ?_, rfl⟩
    · simp only [deselect, withdrawLinkRead, hb]
    · simp only [deselect, withdrawLinkRead]

/-! ## The reset line (R198) -/

/-- Settles O14: the assertion with no selection standing, and a part that hears nothing. -/
theorem resetLineResetsTheTitle : Obligations.ResetLineResetsTheTitle := by
  intro s
  refine ⟨fun hup hsel hlow => ?_, fun hhigh => ?_, rfl, fun hhigh k q => ?_⟩
  · simp only [exec, execSrstAssertion, hlow, hup, endSelection, hsel]
    rfl
  · simp only [exec, execSrstAssertion, hhigh, if_true]
  · rw [exec_requestOf, serve_of_deaf _ (by simp [hears, hhigh])]

end Sys2Proof.Machine
end

section
/-! PROOF. The machine at reset meets every invariant; the title reset (R197, R55, R71). -/

namespace Sys2Proof.Machine

/-! ## Reset -/

theorem journalOk_reset : JournalOk State.reset :=
  journalOk_iff.mpr ⟨⟨List.nodup_nil, fun id => by cases id <;> simp [State.reset, waits],
    fun id => by cases id <;> exact blocksOk_nil _⟩, copyOk_of_none rfl⟩

theorem triesOk_reset : ∀ i, i < 24 → triesAt State.reset i = 5 := by
  intro i hi
  simp [triesAt, State.reset, hi]

theorem voiceAt_reset (n : Nat) : voiceAt State.reset n = {} := by
  simp only [voiceAt, State.reset, Vector.getElem?_replicate]
  split <;> rfl

/-- Settles O60: the values at reset, and each invariant at them. -/
theorem resetIsTheStartOfStartUp : Obligations.ResetIsTheStartOfStartUp := by
  obtain ⟨hvoices, -, hwindows⟩ : VoicesOk State.reset ∧ (True → State.reset.port.starvation ≤ 4)
      ∧ (True → WindowsOk State.reset) := soundOk_iff.mp (soundOk_of_start rfl rfl)
  refine ⟨rfl, rfl, rfl, rfl, rfl, rfl, rfl, rfl, rfl, rfl, rfl, rfl, fun n _ => ?_, rfl, rfl, rfl, rfl, rfl,
    triesOk_reset, rfl, rfl, ?_, clockOk_reset, daysOk_blank, hvoices, hwindows trivial,
    rumbleCurrent_of_start rfl rfl, playerOk_of_empty rfl, journalOk_reset, ⟨rfl, rfl⟩,
    fun i hi => (triesOk_reset i hi).le⟩
  · rw [voiceAt_reset]
    exact ⟨rfl, rfl, rfl⟩
  · exact ⟨List.nodup_nil, by simp [State.reset]⟩

/-! ## The title reset -/

theorem recordAt_mapRecords (f : Record → Record) (s : State) {i : Nat} (hi : i < 24) :
    recordAt (mapRecords f s) i = if inUse s i then f (recordAt s i) else recordAt s i := by
  simp [recordAt, mapRecords, setKept, hi]

theorem titleReset_save (s : State) :
    (titleReset s).save = (mapRecords relocked (resetJournal { s with link := resetLink s.link })).save := rfl

/-- R121, R137: no refill waits, and a refill in progress is to be discarded. -/
theorem titleReset_port (s : State) : (titleReset s).port = { s.port with
    refills := []
    burst := match s.port.burst with
      | some (.refill n a c _) => some (.refill n a c true)
      | b => b } := by
  have hidle : wantsRefill {} = false := rfl
  have hdefault : ∀ n : Nat, (Vector.replicate 8 ({} : Voice))[n]?.getD {} = ({} : Voice) := by
    intro n
    rw [Vector.getElem?_replicate]
    split <;> rfl
  simp only [titleReset, recompute, resetVoices, postRefills, voiceAt, hdefault, hidle, mapRecords_port,
    resetJournal_port]
  simp <;> rfl

theorem appliedFrom_zero (ceiling : Nat) (limiter : Bool) : appliedFrom 0 ceiling limiter = 0 := by
  cases limiter <;> simp [appliedFrom]

/-- R154: the driver after a title reset. -/
theorem titleReset_rumble (s : State) : (titleReset s).rumble = { s.rumble with
    patterns := Vector.replicate 16 [], current := none, waiting := [], follow := none, hold := 0, timer := none
    applied := 0, lastFollow := 0, lastDemand := 0, ceiling := ceilingOf (titleReset s) } := by
  obtain ⟨u, hu, hr⟩ : ∃ u, titleReset s = recompute u ∧ u.rumble = resetRumble s.rumble :=
    ⟨_, rfl, by simp [resetVoices, postRefills]⟩
  have hceiling : ceilingOf (recompute u) = ceilingOf u := ceilingOf_congr rfl rfl rfl
  rw [hu, hceiling]
  simp only [recompute, hr, resetRumble, appliedFrom_zero]

theorem titleReset_voices (s : State) : (titleReset s).voices = Vector.replicate 8 {} := by
  simp [titleReset, resetVoices]

theorem titleReset_mixer (s : State) : (titleReset s).mixer = {} := by
  simp [titleReset, resetVoices]

theorem titleReset_days (s : State) : (titleReset s).days = { s.days with sticky := false } := by
  simp [titleReset, resetVoices]

theorem titleReset_link (s : State) : (titleReset s).link = resetLink s.link := by
  simp [titleReset, resetVoices]

@[simp] theorem resetJournal_copy (s : State) : (resetJournal s).save.copy = s.save.copy := by
  simp only [resetJournal]
  split <;> simp

@[simp] theorem resetJournal_tries (s : State) : (resetJournal s).save.tries = s.save.tries := by
  simp only [resetJournal, setOutcome, setKept]
  split <;> simp

@[simp] theorem resetJournal_frozen (s : State) : (resetJournal s).save.frozen = s.save.frozen := by
  simp only [resetJournal, setOutcome, setKept]
  split <;> simp

/-- Settles O12: the reply at once, and the title reset block by block. -/
theorem titleResetTakenAfterReply : Obligations.TitleResetTakenAfterReply := by
  refine ⟨fun tag level s h => exec_of_takes h rfl, fun r s hsel => ?_⟩
  have hexec : exec .titleResetTaken s
      = .next { titleReset s with link := { (titleReset s).link with selection := .replying r false } } := by
    simp only [exec, execTitleResetTaken, hsel]
  have hceiling : ∀ l, ceilingOf { titleReset s with link := l } = ceilingOf (titleReset s) :=
    fun _ => ceilingOf_congr rfl rfl rfl
  have hsave := titleReset_save s
  have hport := titleReset_port s
  refine ⟨_, hexec, ?_⟩
  dsimp only
  refine ⟨?_, titleReset_voices s, titleReset_mixer s, ?_, titleReset_days s, ?_⟩
  · rw [titleReset_link]
    rfl
  · rw [hceiling]
    exact titleReset_rumble s
  · simp [hport, hsave]

/-- A discarded title slot, and the clock slot beside it. -/
theorem resetJournal_kept_of_collecting {s : State} (h : s.save.kept.title.state = .collecting) :
    (resetJournal s).save.kept = { s.save.kept with
      title := freedSlot s.save.kept.title, clock := firstInOrder s.save.kept.clock
      outcome := some ⟨s.save.kept.title.target, s.save.kept.title.tag, .commit, .discarded, none⟩ } := by
  simp only [resetJournal, h, if_true, setOutcome, setKept, freeSlot_title_kept]

theorem resetJournal_of_not_collecting {s : State} (h : s.save.kept.title.state ≠ .collecting) : resetJournal s = s := by
  simp only [resetJournal, h, if_false]

theorem resetJournal_kept_congr {s t : State} (h : t.save.kept = s.save.kept) :
    (resetJournal t).save.kept = (resetJournal s).save.kept := by
  by_cases hs : s.save.kept.title.state = .collecting
  · rw [resetJournal_kept_of_collecting hs, resetJournal_kept_of_collecting (h ▸ hs), h]
  · rw [resetJournal_of_not_collecting hs, resetJournal_of_not_collecting (h ▸ hs), h]

/-- R71: the records after a title reset. -/
theorem recordAt_titleReset (s : State) {i : Nat} (hi : i < 24) :
    recordAt (titleReset s) i = if inUse s i then relocked (recordAt s i) else recordAt s i := by
  have hrecords : (resetJournal { s with link := resetLink s.link }).save.kept.records = s.save.kept.records := by
    simp only [resetJournal]
    split <;> simp [setOutcome, setKept]
  have hrecord : ∀ j, recordAt (resetJournal { s with link := resetLink s.link }) j = recordAt s j := by
    intro j
    rw [recordAt, hrecords, recordAt]
  have hdir : (resetJournal { s with link := resetLink s.link }).dir = s.dir := by simp
  have huse : inUse (resetJournal { s with link := resetLink s.link }) i = inUse s i := by
    simp only [inUse, isAccepted, entryAt, hdir]
  rw [recordAt, titleReset_save, ← recordAt, recordAt_mapRecords _ _ hi, huse, hrecord]

/-- R55: the slots, the queue and the outcome after a title reset are those that the journal's part leaves. -/
theorem titleReset_slots (s : State) :
    (titleReset s).save.kept.title = (resetJournal s).save.kept.title
      ∧ (titleReset s).save.kept.clock = (resetJournal s).save.kept.clock
      ∧ (titleReset s).save.kept.outcome = (resetJournal s).save.kept.outcome
      ∧ (titleReset s).save.kept.queue = (resetJournal s).save.kept.queue
      ∧ (titleReset s).save.kept.master = (resetJournal s).save.kept.master := by
  have hkept : (resetJournal { s with link := resetLink s.link }).save.kept = (resetJournal s).save.kept :=
    resetJournal_kept_congr rfl
  rw [titleReset_save]
  simp only [mapRecords, setKept, hkept, and_self]

/-- Settles O13: the discarded title slot, and the locks record by record. -/
theorem titleResetDiscardsCollecting : Obligations.TitleResetDiscardsCollecting := by
  intro s
  obtain ⟨htitle, hclock, houtcome, hqueue, hmaster⟩ := titleReset_slots s
  rw [htitle, hclock, houtcome, hqueue, hmaster]
  refine ⟨fun h => ?_, fun h => ?_, ?_, ?_, fun i hi huse hopen => ?_, fun i hi hnot => ?_⟩
  · rw [resetJournal_kept_of_collecting h]
    exact ⟨rfl, rfl, rfl, rfl⟩
  · rw [resetJournal_of_not_collecting h]
    exact ⟨rfl, rfl, rfl⟩
  · unfold resetJournal
    dsimp only
    split <;> simp [setOutcome, setKept]
  · unfold resetJournal
    dsimp only
    split <;> simp [setOutcome, setKept]
  · rw [recordAt_titleReset s hi, if_pos huse, relocked, if_pos hopen]
  · rw [recordAt_titleReset s hi]
    split
    · rename_i huse
      have hlock : (recordAt s i).lock ≠ .opened := by simpa [huse] using hnot
      rw [relocked, if_neg hlock]
    · rfl

end Sys2Proof.Machine
end

section
/-! PROOF. The region directory's requests and checks (R11, R13, R15, R5, R6) and the notice requests (R193, R195). -/

namespace Sys2Proof.Machine

/-- Settles O15: the checks in order. -/
theorem regionPresentSetsTheFlag : Obligations.RegionPresentSetsTheFlag := by
  intro tag level sel v s h
  have hanswer : ∀ a, answerRegionPresent ⟨tag, level, [sel, v]⟩ (heard s) = a →
      exec (.regionPresent ⟨tag, level, [sel, v]⟩) s = .next (a.reply tag) := fun a ha => exec_of_takes h ha
  simp only [answerRegionPresent, byte_zero, byte_one] at hanswer
  have hacc : isAccepted (heard s) sel.toNat = isAccepted s sel.toNat := rfl
  have hentry : entryAt (heard s) sel.toNat = entryAt s sel.toNat := rfl
  rw [hacc, hentry] at hanswer
  refine ⟨fun h1 => hanswer (refuse .noEntry (heard s)) ?_, fun h1 h2 => hanswer (refuse .wrongKind (heard s)) ?_,
    fun h1 h2 h3 => hanswer (refuse .badValue (heard s)) ?_,
    fun h1 h2 h3 => hanswer (.now (setPresent sel.toNat (v == 1#8) (heard s)) .ok
      [if (entryAt s sel.toNat).present then 1#8 else 0#8]) ?_⟩
  · simp [h1]
  · simp [h1, h2]
  · simp [h1, h2, choice_eq_none_iff.mpr h3]
  · simp [h1, h2, choice_byte h3]

/-! ## The entries' windows -/

theorem entryAt_takeEntry (s : State) {i : Nat} (b : List Byte) (hi : i < 24) :
    entryAt (takeEntry i b s) i = checkEntry s i (loadedEntry b) := by
  simp [entryAt, takeEntry, hi]

/-- What R5 and R6 ask of an accepted SAVE or DAYS entry. -/
def WindowPlaced (s : State) (i : Nat) (en : Entry) : Prop :=
  0 < en.length ∧ en.base % 64 = 0 ∧ en.length % 64 = 0 ∧ en.base + en.length ≤ s.dir.sramSize
    ∧ overlapsEarlier s i en = false

theorem checkSave_accepted {s : State} {i : Nat} {en : Entry} (h : (checkSave s i en).standing = .accepted) :
    checkSave s i en = acceptEntry en.write en ∧ WindowPlaced s i en := by
  unfold checkSave at h ⊢
  split_ifs at h ⊢ with h1 h2 h3 h4
  · simp [rejectEntry] at h
  · simp [rejectEntry] at h
  · simp [rejectEntry] at h
  · simp [rejectEntry] at h
  · exact ⟨rfl, Nat.pos_of_ne_zero h1, by omega, by omega, by omega, by simpa using h4⟩

theorem checkDays_accepted {s : State} {i : Nat} {en : Entry} (h : (checkDays s i en).standing = .accepted) :
    checkDays s i en = acceptEntry false en ∧ WindowPlaced s i en ∧ en.length = 64 := by
  unfold checkDays at h ⊢
  split_ifs at h ⊢ with h1 h2 h3 h4 h5
  · simp [rejectEntry] at h
  · simp [rejectEntry] at h
  · simp [rejectEntry] at h
  · simp [rejectEntry] at h
  · simp [rejectEntry] at h
  · exact ⟨rfl, ⟨by omega, by omega, by omega, by omega, by simpa using h5⟩, by omega⟩

theorem checkSample_kind (s : State) (en : Entry) : (checkSample s en).kind = en.kind := by
  unfold checkSample
  split_ifs <;> rfl

theorem checkSave_kind (s : State) (i : Nat) (en : Entry) : (checkSave s i en).kind = en.kind := by
  unfold checkSave
  split_ifs <;> rfl

theorem checkDays_kind (s : State) (i : Nat) (en : Entry) : (checkDays s i en).kind = en.kind := by
  unfold checkDays
  split_ifs <;> rfl

/-- R3: the checks keep an entry's kind. -/
theorem checkEntry_kind (s : State) (i : Nat) (en : Entry) : (checkEntry s i en).kind = en.kind := by
  unfold checkEntry
  split_ifs
  · rfl
  · rfl
  · rfl
  · exact checkSample_kind s en
  · exact checkSave_kind s i en
  · exact checkDays_kind s i en
  · rfl

/-- R3: an accepted SAVE or DAYS entry has passed the checks of its kind. -/
theorem checkEntry_accepted {s : State} {i : Nat} {en : Entry} (hempty : en.standing = .empty)
    (h : (checkEntry s i en).standing = .accepted) (hkind : en.kind = kindSave ∨ en.kind = kindDays) :
    WindowPlaced s i en ∧ (en.kind = kindDays → en.length = 64)
      ∧ (checkEntry s i en).base = en.base ∧ (checkEntry s i en).length = en.length := by
  unfold checkEntry at h ⊢
  split_ifs at h ⊢ with h1 h2 h3 h4 h5 h6
  · simp [hempty] at h
  · simp [rejectEntry] at h
  · simp [rejectEntry] at h
  · rcases hkind with hk | hk <;> rw [hk] at h4 <;> exact absurd h4 (by decide)
  · obtain ⟨heq, hplaced⟩ := checkSave_accepted h
    refine ⟨hplaced, fun hk => ?_, by rw [heq]; rfl, by rw [heq]; rfl⟩
    rw [h5] at hk
    exact absurd hk (by decide)
  · obtain ⟨heq, hplaced, hlen⟩ := checkDays_accepted h
    exact ⟨hplaced, fun _ => hlen, by rw [heq]; rfl, by rw [heq]; rfl⟩
  · exact absurd hkind (not_or.mpr ⟨h5, h6⟩)

theorem overlapsEarlier_eq_false_iff {s : State} {i : Nat} {en : Entry} :
    overlapsEarlier s i en = false ↔ ∀ j, j < i → (entryAt s j).standing = .accepted →
      ((entryAt s j).kind = kindSave ∨ (entryAt s j).kind = kindDays) →
      en.base + en.length ≤ (entryAt s j).base ∨ (entryAt s j).base + (entryAt s j).length ≤ en.base := by
  simp only [overlapsEarlier, List.any_eq_false, List.mem_range, windowsShare, Bool.and_eq_true, Bool.or_eq_true,
    beq_iff_eq, decide_eq_true_eq, not_and]
  refine forall₂_congr fun j hj => ?_
  constructor
  · intro h hacc hk
    have := h ⟨hacc, hk⟩
    omega
  · rintro h ⟨hacc, hk⟩
    have := h hacc hk
    omega

/-- Settles O17: the checks that an accepted entry has passed. -/
theorem acceptedWindowsAreDisjoint : Obligations.AcceptedWindowsAreDisjoint := by
  intro s i b hi hacc hkind
  rw [entryAt_takeEntry s b hi] at *
  rw [checkEntry_kind] at hkind ⊢
  obtain ⟨⟨h1, h2, h3, h4, h5⟩, hlen, hbase, hlength⟩ := checkEntry_accepted rfl hacc hkind
  rw [hbase, hlength]
  exact ⟨h1, h2, h3, h4, hlen, overlapsEarlier_eq_false_iff.mp h5⟩

/-! ## Resolution (R13) -/

theorem recordRefusal_eq (s : State) (target : Nat) (test : RecordTest) : recordRefusal s target test
    = if test ≠ .none ∧ (recordAt s target).state = .unchecked then some .notReady
      else if test = .uncheckedAndLocked ∧ (recordAt s target).lock = .locked then some .locked
      else .none := by
  cases test <;> simp [recordRefusal]

/-- R13: the checks in order, the record's among them. -/
theorem resolve_eq (s : State) (i q need : Nat) (write : Bool) (test : RecordTest) (fits : Window → Bool) :
    resolve s i q need write test fits =
      if isAccepted s i = false then .refused .noEntry
      else if (entryAt s i).present = false then .refused .notPresent
      else if (entryAt s i).level < q then .refused .denied
      else if (entryAt s i).kind = kindAlias ∧ (entryAt s (entryAt s i).target).present = false then
        .refused .notPresent
      else if resolvedKind s i ≠ need then .refused .wrongKind
      else if write = true ∧ (entryAt s i).writeRight = false then .refused .readOnly
      else if test ≠ .none ∧ (recordAt s (windowOf s i q).target).state = .unchecked then .refused .notReady
      else if test = .uncheckedAndLocked ∧ (recordAt s (windowOf s i q).target).lock = .locked then .refused .locked
      else if fits (windowOf s i q) = true then .window (windowOf s i q) else .refused .outOfBounds := by
  have hwrite : (windowOf s i q).write = (entryAt s i).writeRight := rfl
  simp only [resolve, recordRefusal_eq, hwrite, Bool.not_eq_true', Bool.and_eq_true]
  refine ite_congr rfl (fun _ => rfl) fun _ => ite_congr rfl (fun _ => rfl) fun _ => ite_congr rfl (fun _ => rfl)
    fun _ => ite_congr rfl (fun _ => rfl) fun _ => ite_congr rfl (fun _ => rfl) fun _ =>
    ite_congr rfl (fun _ => rfl) fun _ => ?_
  split_ifs <;> rfl

theorem refusedIf_eq_window_iff {c : Prop} [Decidable c] {st : Status} {r : Resolution} {w : Window} :
    (if c then .refused st else r) = .window w ↔ ¬ c ∧ r = .window w := by
  by_cases h : c <;> simp [h]

theorem windowIf_eq_window_iff {c : Prop} [Decidable c] {st : Status} {w w' : Window} :
    (if c then .window w' else .refused st) = Resolution.window w ↔ c ∧ w = w' := by
  by_cases h : c <;> simp [h, eq_comm]

/-- Settles O18: every check passes, or the first that fails gives the status. -/
theorem resolutionPassesEveryCheck : Obligations.ResolutionPassesEveryCheck := by
  intro s i q need write test fits w en tg r
  refine ⟨?_, ?_, ?_⟩
  · simp only [resolve_eq, refusedIf_eq_window_iff, windowIf_eq_window_iff, resolvedKind, not_and, Bool.not_eq_false,
      ne_eq, not_not, not_lt]
    constructor
    · rintro ⟨h1, h2, h3, h4, h5, h6, h7, h8, h9, rfl⟩
      exact ⟨rfl, h1, h2, h3, h4, h5, h6, h7, h8, h9⟩
    · rintro ⟨rfl, h1, h2, h3, h4, h5, h6, h7, h8, h9⟩
      exact ⟨h1, h2, h3, h4, h5, h6, h7, h8, h9, rfl⟩
  · rintro rfl
    refine ⟨rfl, ?_, rfl, rfl, rfl, rfl, rfl, ?_⟩
    · simp only [windowOf]
      split <;> omega
    · simp only [windowOf, memoryOf]
      split_ifs <;> simp_all
  · rintro rfl rfl rfl hno
    rw [resolve_eq] at hno ⊢
    simp only [apply_ite Resolution.refused]
    refine ite_congr rfl (fun _ => rfl) fun h1 => ite_congr rfl (fun _ => rfl) fun h2 =>
      ite_congr rfl (fun _ => rfl) fun h3 => ite_congr rfl (fun _ => rfl) fun h4 => ite_congr rfl (fun _ => rfl)
      fun h5 => ite_congr rfl (fun _ => rfl) fun h6 => ite_congr rfl (fun _ => rfl) fun h7 =>
      ite_congr rfl (fun _ => rfl) fun h8 => if_neg fun h9 => hno (windowOf s i q) ?_
    exact (if_neg h1).trans <| (if_neg h2).trans <| (if_neg h3).trans <| (if_neg h4).trans <| (if_neg h5).trans <|
      (if_neg h6).trans <| (if_neg h7).trans <| (if_neg h8).trans <| if_pos h9

/-! ## The notice requests -/

/-- R194: after a reply in phase 5 or later the attention line is asserted while entries remain. -/
theorem latn_answered {s : State} (hup : slotUp s = true) (hphase : 5 ≤ s.supply.phase) (st : Status) (tag : Byte)
    (payload : List Byte) : latn (answered st tag payload s) = !s.link.queue.isEmpty := by
  have hup' : slotUp (answered st tag payload s) = true := hup
  have hphase' : 5 ≤ (answered st tag payload s).supply.phase := hphase
  rw [latn, hup', decide_eq_true hphase']
  rfl

/-- Settles O9: the record of the oldest entry, kind by kind, and the mask. -/
theorem noticeRequests : Obligations.NoticeRequests := by
  refine ⟨fun tag level s h => ⟨fun hq => ?_, fun x rest record hq hrecord => ?_⟩, fun tag level lo hi s h => ?_⟩
  · refine exec_of_takes_now h ?_
    simp only [ownerOf, answerNoticeFetch, heard_queue, hq]
  · have hbytes : record = noticeRecord x := by
      rw [hrecord]
      obtain ⟨count, n⟩ := x
      cases n with
      | supplyChange st => cases st <;> rfl
      | cellState c mv => cases c <;> rfl
      | saveDone r =>
        obtain ⟨target, tag', op, outcome, fault⟩ := r
        cases op <;> cases outcome <;> cases fault <;> rfl
      | regionState i st why => cases st <;> cases why <;> rfl
      | dayDue set passes => simp [noticeRecord, noticeKind, noticeDetail]
      | clockState r => cases r <;> rfl
      | dayUnordered day => rfl
      | mixFlags flags highest => cases highest <;> simp [noticeRecord, noticeKind, noticeDetail, flagKindCode]
      | voiceEnd set why => cases why <;> simp [noticeRecord, noticeKind, noticeDetail, voiceEndCode]
      | rumbleState r => cases r <;> rfl
    refine ⟨_, exec_of_takes (a := .now { heard s with link := { (heard s).link with queue := rest } } .ok
      (noticeRecord x)) h ?_, ?_, ?_⟩
    · simp only [ownerOf, answerNoticeFetch, heard_queue, hq]
    · rw [hbytes]
      rfl
    · obtain ⟨hhears, -, -, -, hphase⟩ := h
      have hup : slotUp s = true := (Bool.and_eq_true_iff.mp hhears).1
      exact latn_answered (s := { s with link := { s.link with queue := rest } }) hup hphase .ok tag _
  · have hword : (⟨tag, level, [lo, hi]⟩ : Request).word 0 = lo.toNat + 256 * hi.toNat := by
      simp [Request.word, field, leNat]
    have hlo := lo.isLt
    split_ifs with hhi
    · refine exec_of_takes (a := .now { heard s with link := { (heard s).link with
        mask := BitVec.ofNat 10 (lo.toNat + 256 * hi.toNat) } } .ok
        [BitVec.ofNat 8 (s.link.mask.toNat % 256), BitVec.ofNat 8 (s.link.mask.toNat / 256)]) h ?_
      have hmask : BitVec.ofNat 8 (s.link.mask.toNat % 256) = BitVec.ofNat 8 s.link.mask.toNat :=
        BitVec.eq_of_toNat_eq (by simp)
      simp only [ownerOf, answerNoticeMask, hword, leBytes_two, hmask, heard_mask]
      exact if_pos (by omega)
    · refine exec_of_takes (a := refuse .badValue (heard s)) h ?_
      simp only [ownerOf, answerNoticeMask, hword]
      exact if_neg (by omega)

end Sys2Proof.Machine
end

section
/-! PROOF. The save and lock requests that open, end or guard a transaction (R36, R39 to R42, R70 to R79). -/

namespace Sys2Proof.Machine

/-! ## Answers that a condition chooses -/

theorem reply_ite (c : Prop) [Decidable c] (a b : Answer) (tag : Byte) :
    (if c then a else b).reply tag = if c then a.reply tag else b.reply tag := apply_ite (Answer.reply tag) c a b

/-- A request that the link takes, by the reply its owner forms. -/
theorem exec_of_takes_reply {k : Kind} {q : Request} {s t : State} (h : Takes k q s)
    (ht : (ownerOf k q s.link.latch (heard s)).reply q.tag = t) : exec (requestOf k q) s = .next t :=
  (exec_of_takes h rfl).trans (congrArg _ ht)

/-! ## What the reception of a frame leaves as it was -/

@[simp] theorem resolveSave_heard (s : State) : resolveSave (heard s) = resolveSave s := rfl
@[simp] theorem resolveLock_heard (s : State) : resolveLock (heard s) = resolveLock s := rfl
@[simp] theorem recordAt_heard (s : State) : recordAt (heard s) = recordAt s := rfl
@[simp] theorem triesAt_heard (s : State) : triesAt (heard s) = triesAt s := rfl
@[simp] theorem inWarn_heard (s : State) : inWarn (heard s) = inWarn s := rfl
@[simp] theorem voiceAt_heard (s : State) : voiceAt (heard s) = voiceAt s := rfl
@[simp] theorem entryAt_heard (s : State) : entryAt (heard s) = entryAt s := rfl
@[simp] theorem storedPassword_heard (s : State) : storedPassword (heard s) = storedPassword s := rfl

/-- R15: the window a resolution gives names the selector and level asked with. -/
theorem window_of_resolve {s : State} {i q need : Nat} {write : Bool} {test : RecordTest} {fits : Window → Bool}
    {w : Window} (h : resolve s i q need write test fits = .window w) : w.selector = i ∧ w.level = q := by
  obtain ⟨rfl, -⟩ := (resolutionPassesEveryCheck s i q need write test fits w {} {} {}).1.mp h
  exact ⟨rfl, rfl⟩

/-! ## SAVE_BEGIN and SAVE_ABANDON -/

theorem inWarn_iff {s : State} : inWarn s = true ↔ s.supply.state = .warn := by simp [inWarn]

/-- Settles O19: the refusals in order, the collecting slot, and the slot freed. -/
theorem saveBeginAndAbandon : Obligations.SaveBeginAndAbandon := by
  refine ⟨fun tag level sel s h => ⟨fun st hres => ?_, fun w hres => ?_⟩, fun tag level s h => ⟨fun h1 => ?_,
    fun h1 h2 => ?_, fun h1 h2 h3 => ?_, fun h2 h3 => ?_⟩⟩
  · refine exec_of_takes_now h ?_
    simp only [ownerOf, answerSaveBegin, byte_zero, rank_eq, resolveSave_heard, hres]
    rfl
  · refine exec_of_takes_reply h ?_
    obtain ⟨hsel, hlevel⟩ := window_of_resolve hres
    simp only [ownerOf, answerSaveBegin, byte_zero, rank_eq, resolveSave_heard, hres]
    simp only [reply_ite, inWarn_iff]
    refine ite_congr rfl (fun _ => rfl) fun _ => ite_congr rfl (fun _ => rfl) fun _ => ?_
    rw [← hsel, ← hlevel]
    rfl
  · exact exec_of_takes_now h (if_pos h1)
  · exact exec_of_takes_now h ((if_neg h1).trans (if_pos h2))
  · refine exec_of_takes_now h ((if_neg h1).trans ((if_neg (Nat.not_lt.mpr h2)).trans (if_pos ?_)))
    simpa using h3
  · have h1 : s.save.kept.title.state ≠ .free := by
      intro hfree
      simp [committable, hfree] at h3
    refine ⟨_, exec_of_takes h ((if_neg h1).trans ((if_neg (Nat.not_lt.mpr h2)).trans (if_neg ?_))), ?_⟩
    · simpa using h3
    · have hkept : (freeSlot .title (heard s)).save.kept = { s.save.kept with
          title := freedSlot s.save.kept.title, clock := firstInOrder s.save.kept.clock } := freeSlot_title_kept (heard s)
      have hop : opOfKind s.save.kept.title.kind = if s.save.kept.title.kind = .erase then .erase else .commit := by
        cases s.save.kept.title.kind <;> rfl
      refine ⟨by simp [setOutcome, setKept, heard], ?_, ?_, ?_, ?_, ?_, ?_, ?_, ?_⟩
      · apply State.eq_of_fields <;> simp [setOutcome, setKept]
      all_goals simp [setOutcome, setKept, hkept, freedSlot, firstInOrder, hop]

/-! ## Passwords and locks -/

theorem lockLevelOf_byte {b : Byte} :
    lockLevelOf b.toNat = if 1 < b.toNat then none else some (if b = 0#8 then .high else .maximum) := by
  unfold lockLevelOf
  have h0 : b = 0#8 ↔ b.toNat = 0 := byte_eq_ofNat_iff (by decide)
  simp only [h0]
  split_ifs <;> first | rfl | omega

theorem modeOf_byte {b : Byte} :
    modeOf b.toNat = if 1 < b.toNat then none else some (if b = 0#8 then .title else .master) := by
  unfold modeOf
  have h0 : b = 0#8 ↔ b.toNat = 0 := byte_eq_ofNat_iff (by decide)
  simp only [h0]
  split_ifs <;> first | rfl | omega

theorem modeOf_eq_master_iff {b : Byte} : modeOf b.toNat = some .master ↔ b = 1#8 := by
  have h1 : b = 1#8 ↔ b.toNat = 1 := byte_eq_ofNat_iff (by decide)
  rw [h1]
  unfold modeOf
  split_ifs <;> simp_all

/-- R74: the given password is the stored one. -/
theorem passwordMatches_iff {stored : Option (List Byte)} {pw : List Byte} :
    passwordMatches stored pw = true ↔ stored = some pw := by simp [passwordMatches]

theorem storedPassword_eq (s : State) (region : Nat) (mode : Byte) :
    storedPassword s region (if mode = 0#8 then .title else .master)
      = if mode = 0#8 then (recordAt s region).password else s.save.kept.master := by
  split <;> rfl

/-- The fields of a request of selector, password and one byte. -/
theorem password_fields {tag level sel lv : Byte} {pw : List Byte} (hpw : pw.length = 8) :
    Request.password ⟨tag, level, sel :: (pw ++ [lv])⟩ 1 = pw
      ∧ Request.byte ⟨tag, level, sel :: (pw ++ [lv])⟩ 9 = lv.toNat := by
  simp [Request.password, Request.byte, field, hpw, leNat]

/-- Settles O29: the refusals in order, and the password stored. -/
theorem passwordsAreStored : Obligations.PasswordsAreStored := by
  refine ⟨?_, fun tag level pw s hpw => ⟨fun h => ?_, fun h => exec_of_takes h rfl⟩⟩
  · rintro tag level sel lv pw s q hpw rfl h
    obtain ⟨hpassword, hlv⟩ := password_fields (tag := tag) (level := level) (sel := sel) (lv := lv) hpw
    refine ⟨fun st hres => ?_, fun w hres => ?_⟩
    · refine exec_of_takes_now h ?_
      simp only [ownerOf, answerLockSet, byte_zero, rank_eq, resolveLock_heard, hres]
      rfl
    · refine exec_of_takes_reply h ?_
      simp only [ownerOf, answerLockSet, byte_zero, rank_eq, hpassword, hlv, resolveLock_heard, hres]
      simp only [reply_ite]
      refine ite_congr rfl (fun _ => rfl) fun _ => ite_congr rfl (fun _ => rfl) fun _ =>
        ite_congr rfl (fun _ => rfl) fun _ => ?_
      rw [lockLevelOf_byte]
      split_ifs <;> rfl
  · refine exec_of_takes_reply h ?_
    have hpassword : Request.password ⟨tag, level, pw⟩ 0 = pw := by simp [Request.password, hpw]
    simp only [ownerOf, answerMasterSet, reply_ite, hpassword]
    exact ite_congr rfl (fun _ => rfl) fun _ => rfl

/-- The password of a request of selector, mode and password, and of one of selector and password. -/
theorem password_last {tag level sel mode : Byte} {pw : List Byte} (hpw : pw.length = 8) :
    Request.password ⟨tag, level, sel :: mode :: pw⟩ 2 = pw ∧ Request.password ⟨tag, level, sel :: pw⟩ 1 = pw := by
  simp [Request.password, hpw]

/-- Settles O30: the refusals in order, and the comparison. -/
theorem lockRequestsCheckThePassword : Obligations.LockRequestsCheckThePassword := by
  refine ⟨?_, ?_⟩
  · rintro tag level sel mode pw s q hpw rfl h
    obtain ⟨hpassword, -⟩ := password_last (tag := tag) (level := level) (sel := sel) (mode := mode) hpw
    refine ⟨fun st hres => ?_, fun w hres => ?_⟩
    · refine exec_of_takes_now h ?_
      simp only [ownerOf, answerLockOpen, byte_zero, rank_eq, resolveLock_heard, hres]
      rfl
    · refine exec_of_takes_reply h ?_
      simp only [ownerOf, answerLockOpen, byte_zero, byte_one, rank_eq, hpassword, modeOf_eq_master_iff, resolveLock_heard, hres]
      simp only [reply_ite]
      refine ite_congr rfl (fun _ => rfl) fun _ => ite_congr rfl (fun hlock => ?_) fun _ =>
        ite_congr rfl (fun _ => rfl) fun _ => ite_congr rfl (fun _ => rfl) fun _ => ?_
      · rw [recordAt_heard, reply_now_heard]
        cases hl : (recordAt s w.target).lock
        · rfl
        · exact absurd hl hlock
        · rfl
      · rw [modeOf_byte]
        by_cases hmode : 1 < mode.toNat
        · rw [if_pos hmode, if_pos hmode]
          rfl
        · rw [if_neg hmode, if_neg hmode]
          simp only [reply_ite, storedPassword_eq, passwordMatches_iff]
          exact ite_congr rfl (fun _ => rfl) fun _ => rfl
  · rintro tag level sel pw s q hpw rfl h
    obtain ⟨-, hpassword⟩ := password_last (tag := tag) (level := level) (sel := sel) (mode := 0) hpw
    refine ⟨fun st hres => ?_, fun w hres => ?_⟩
    · refine exec_of_takes_now h ?_
      simp only [ownerOf, answerLockClear, byte_zero, rank_eq, resolveLock_heard, hres]
      rfl
    · refine exec_of_takes_reply h ?_
      simp only [ownerOf, answerLockClear, byte_zero, rank_eq, hpassword, passwordMatches_iff, resolveLock_heard, hres]
      simp only [reply_ite]
      exact ite_congr rfl (fun _ => rfl) fun _ => ite_congr rfl (fun _ => rfl) fun _ =>
        ite_congr rfl (fun _ => rfl) fun _ => ite_congr rfl (fun _ => rfl) fun _ => ite_congr rfl (fun _ => rfl)
        fun _ => rfl

end Sys2Proof.Machine
end

section
/-! Rules of the memory port's grants (R21, R22): a grant goes to a request that waits, and a request that waits is after
a grant still waiting or in progress. -/

namespace Sys2Proof.Machine

/-- R22: the request of a grant waits at the port. -/
def Waits (s : State) : Grant → Prop
  | .refill n => n ∈ s.port.refills
  | .linkRead r => s.port.linkRead = some r
  | .commit c => s.port.commit = some c
  | .scan a => s.port.scan = some a
  | .directory a => s.port.directory = some a

theorem lowestUrgent_waits {s : State} {ok : Nat → Bool} {n : Nat} (h : lowestUrgent s ok = some n) :
    n ∈ s.port.refills ∧ isUrgent s n = true ∧ ok n = true := by
  have hn := List.find?_some h
  simpa [and_assoc] using hn

theorem nextOrdinary_waits {s : State} {n : Nat} (h : nextOrdinary s = some n) :
    n ∈ s.port.refills ∧ isUrgent s n = false := by
  have hn := List.find?_some h
  simpa using hn

/-- R22, R24: the arbiter chooses a request that waits. -/
theorem waits_of_chooseGrant {s : State} {g : Grant} (h : chooseGrant s = some g) : Waits s g := by
  have hcommit : ∀ {g}, s.port.commit.map Grant.commit = some g → Waits s g := by
    intro g hg
    obtain ⟨c, hc, rfl⟩ := Option.map_eq_some_iff.mp hg
    exact hc
  unfold chooseGrant at h
  split_ifs at h
  · exact hcommit h
  · exact hcommit h
  · obtain ⟨x, hx, hxg⟩ := List.exists_of_findSome?_eq_some h
    obtain rfl : x = some g := hxg
    simp only [rankedGrants, List.mem_cons, List.not_mem_nil, or_false] at hx
    rcases hx with hx | hx | hx | hx | hx | hx | hx
    · obtain ⟨n, hn, rfl⟩ := Option.map_eq_some_iff.mp hx.symm
      exact (lowestUrgent_waits hn).1
    · obtain ⟨r, hr, rfl⟩ := Option.map_eq_some_iff.mp hx.symm
      exact hr
    · obtain ⟨n, hn, rfl⟩ := Option.map_eq_some_iff.mp hx.symm
      exact (lowestUrgent_waits hn).1
    · exact hcommit hx.symm
    · obtain ⟨a, ha, rfl⟩ := Option.map_eq_some_iff.mp hx.symm
      exact ha
    · obtain ⟨n, hn, rfl⟩ := Option.map_eq_some_iff.mp hx.symm
      exact (nextOrdinary_waits hn).1
    · obtain ⟨a, ha, rfl⟩ := Option.map_eq_some_iff.mp hx.symm
      exact ha

/-- R21, R22: what a grant leaves of the port: nothing is granted, or the burst of a waiting request begins. -/
theorem grant_cases (s : State) : grant s = s ∨ s.port.burst = none ∧ ∃ g, Waits s g ∧ chooseGrant s = some g
    ∧ grant s = grantTo s g := by
  unfold grant
  split
  · exact .inl rfl
  · rename_i hfree
    split
    · exact .inl rfl
    · rename_i g hg
      exact .inr ⟨hfree, g, waits_of_chooseGrant hg, hg, rfl⟩

section

variable {s : State}

/-- R22, R42: a link read that waits. -/
theorem readUnderWay_grant {r : LinkRead} (h : s.port.linkRead = some r) : readUnderWay r (grant s) := by
  rcases grant_cases s with hg | ⟨-, g, hw, -, hg⟩ <;> rw [hg]
  · exact .inl h
  · cases g with
    | linkRead r' =>
      cases h.symm.trans hw
      exact .inr rfl
    | _ => exact .inl h

/-- R22: a commit step that waits. -/
theorem stepUnderWay_grant {c : CommitStep} (h : s.port.commit = some c) : stepUnderWay c (grant s) := by
  rcases grant_cases s with hg | ⟨-, g, hw, -, hg⟩ <;> rw [hg]
  · exact .inl h
  · cases g with
    | commit c' =>
      cases h.symm.trans hw
      exact .inr rfl
    | _ => exact .inl h

/-- R22, R64: a scan step that waits. -/
theorem scanUnderWay_grant {a : Nat} (h : s.port.scan = some a) : scanUnderWay a (grant s) := by
  rcases grant_cases s with hg | ⟨-, g, hw, -, hg⟩ <;> rw [hg]
  · exact .inl h
  · cases g with
    | scan a' =>
      cases h.symm.trans hw
      exact .inr rfl
    | _ => exact .inl h

/-- R1, R22: a directory burst that waits. -/
theorem loadUnderWay_grant {a : Nat} (h : s.port.directory = some a) : loadUnderWay a (grant s) := by
  rcases grant_cases s with hg | ⟨-, g, hw, -, hg⟩ <;> rw [hg]
  · exact .inl h
  · cases g with
    | directory a' =>
      cases h.symm.trans hw
      exact .inr rfl
    | _ => exact .inl h

end

/-- R22, R44: the engine's taking of a slot posts a commit step, and nothing else at the port. -/
theorem takeHead_port (s : State) : (takeHead s).port = { s.port with commit := (takeHead s).port.commit } := by
  unfold takeHead
  split
  · split_ifs
    · rw [startCopy_eq]
      simp only [beginPart]
      split <;> split <;> simp [postStep, takenFrom, setQueue, setKept]
    · rfl
  · rfl

theorem scanUnderWay_settle {a : Nat} {s : State} (h : s.port.scan = some a) : scanUnderWay a (settle s) := by
  refine scanUnderWay_grant ?_
  have hport := congrArg Port.scan (takeHead_port (fillClock s))
  simpa [postRefills, h] using hport

theorem loadUnderWay_settle {a : Nat} {s : State} (h : s.port.directory = some a) : loadUnderWay a (settle s) := by
  refine loadUnderWay_grant ?_
  have hport := congrArg Port.directory (takeHead_port (fillClock s))
  simpa [postRefills, h] using hport

end Sys2Proof.Machine
end

section
/-! PROOF. The requests that hand a slot to the commit engine, and the reads of a region (R39, R40, R42, R79). -/

namespace Sys2Proof.Machine

/-! ## What `settle` does to the save engine -/

theorem settle_save (s : State) : (settle s).save = (takeHead (fillClock s)).save := by simp [settle]

/-- R50, R115: the fill touches of the save engine the clock slot, the title slot's order and the queue's tail alone. -/
theorem fillClock_save (s : State) : ∃ o c q, (fillClock s).save = { s.save with kept := { s.save.kept with
    title := { s.save.kept.title with order := o }, clock := c, queue := s.save.kept.queue ++ q } } := by
  have hkept : ∃ o c q, s.save = { s.save with kept := { s.save.kept with
      title := { s.save.kept.title with order := o }, clock := c, queue := s.save.kept.queue ++ q } } :=
    ⟨s.save.kept.title.order, s.save.kept.clock, [], by rw [List.append_nil]⟩
  unfold fillClock
  split
  · split
    · exact hkept
    · rw [joinQueue_clock_eq]
      exact ⟨_, _, [.clock], rfl⟩
  · exact hkept

/-- R44: the engine takes a slot only while no copy is in progress. -/
theorem takeHead_of_copy {s : State} (h : s.save.copy ≠ none) : takeHead s = s := by
  unfold takeHead
  split
  · rename_i hnone _
    exact absurd hnone h
  · rfl

theorem takeHead_of_head {s : State} {id : SlotId} {rest : List SlotId} (hcopy : s.save.copy = none)
    (hqueue : s.save.kept.queue = id :: rest) (hphase : 5 ≤ s.supply.phase) : takeHead s = startCopy id false s := by
  unfold takeHead
  rw [hcopy, hqueue]
  exact if_pos hphase

/-- R44: the title slot after the engine has looked at the queue: as it was, or taken. -/
theorem takeHead_title (s : State) : (takeHead s).save.kept.title = s.save.kept.title
    ∨ (takeHead s).save.kept.title = takenSlot .title false s := by
  unfold takeHead
  split
  · split_ifs
    · rename_i id _ _ _ _
      cases id
      · exact .inr (slotAt_startCopy_same .title false s)
      · exact .inl (slotAt_startCopy_other .clock false s)
    · exact .inl rfl
  · exact .inl rfl

/-- R58, R69: the engine's taking of a slot leaves the records and the tries. -/
theorem takeHead_records (s : State) : (takeHead s).save.kept.records = s.save.kept.records
    ∧ (takeHead s).save.tries = s.save.tries := by
  unfold takeHead
  split
  · split_ifs
    · rw [startCopy_eq]
      refine ⟨by rw [beginPart_kept]; simp [takenFrom, setQueue, setKept], ?_⟩
      simp only [beginPart]
      split <;> split <;> simp [postStep, takenFrom, setQueue, setKept]
    · exact ⟨rfl, rfl⟩
  · exact ⟨rfl, rfl⟩

theorem settle_records (s : State) : (settle s).save.kept.records = s.save.kept.records
    ∧ (settle s).save.tries = s.save.tries := by
  obtain ⟨hrecords, htries⟩ := takeHead_records (fillClock s)
  obtain ⟨o, c, q, hfill⟩ := fillClock_save s
  rw [settle_save, hrecords, htries, hfill]
  exact ⟨rfl, rfl⟩

/-- What `settle` may change of the title slot: its pending order, and by R44 its state, hold mark and zero base. -/
theorem settle_title (s : State) : ∃ o st held z, (settle s).save.kept.title
      = { s.save.kept.title with order := o, state := st, held := held, zeroBase := z }
    ∧ (st = s.save.kept.title.state ∧ held = s.save.kept.title.held ∨ st = .copying ∧ held = false) := by
  obtain ⟨o, c, q, hfill⟩ := fillClock_save s
  have htitle : (fillClock s).save.kept.title = { s.save.kept.title with order := o } := by rw [hfill]
  rw [settle_save]
  rcases takeHead_title (fillClock s) with h | h
  · rw [h, htitle]
    exact ⟨o, _, _, _, rfl, .inl ⟨rfl, rfl⟩⟩
  · rw [h, takenSlot, slotAt_title, htitle]
    exact ⟨o, .copying, false, _, by rw [Bool.or_false], .inr ⟨rfl, rfl⟩⟩

/-- R44: with a copy in progress nothing is taken. -/
theorem settle_of_copy {s : State} (h : s.save.copy ≠ none) : (settle s).save.copy = s.save.copy
    ∧ (settle s).save.kept.title.state = s.save.kept.title.state
    ∧ ∀ id ∈ s.save.kept.queue, id ∈ (settle s).save.kept.queue := by
  obtain ⟨o, c, q, hfill⟩ := fillClock_save s
  have hcopy : (fillClock s).save.copy = s.save.copy := by rw [hfill]
  rw [settle_save, takeHead_of_copy (hcopy ▸ h), hfill]
  exact ⟨rfl, rfl, fun id hid => List.mem_append_left q hid⟩

/-- R44: the free engine takes the head of the queue. -/
theorem settle_takes_title {s : State} {rest : List SlotId} (hcopy : s.save.copy = none)
    (hqueue : s.save.kept.queue = .title :: rest) (hphase : 5 ≤ s.supply.phase) :
    (settle s).save.kept.title.state = .copying ∧ ∃ c, (settle s).save.copy = some c ∧ c.slot = .title := by
  obtain ⟨o, c, q, hfill⟩ := fillClock_save s
  have htake : takeHead (fillClock s) = startCopy .title false (fillClock s) :=
    takeHead_of_head (rest := rest ++ q) (by rw [hfill]; exact hcopy) (by rw [hfill]; simp [hqueue])
      (by simpa using hphase)
  rw [settle_save, htake]
  obtain ⟨c', hc', hslot, -⟩ := startCopy_copy .title false (fillClock s)
  refine ⟨?_, c', hc', hslot⟩
  rw [← slotAt_title, slotAt_startCopy_same]
  rfl

/-! ## SAVE_COMMIT -/

/-- R39, R40: the title slot, queued with its tag and full-pass flag. -/
theorem queueTitle_title (tag : Byte) (full : Bool) (s : State) : (queueTitle tag full s).save.kept.title
    = { s.save.kept.title with
        tag := tag, fullPass := full, state := .pending, held := false
        order := if s.save.kept.clock.order = 0 then 1 else 2 } :=
  slotAt_joinQueue_same .title _

theorem queueTitle_queue (tag : Byte) (full : Bool) (s : State) :
    (queueTitle tag full s).save.kept.queue = s.save.kept.queue ++ [.title] := by simp [queueTitle]

theorem queueTitle_copy (tag : Byte) (full : Bool) (s : State) : (queueTitle tag full s).save.copy = s.save.copy := by
  simp [queueTitle]

/-- R39, R40, R44: the queued title slot after `settle`. -/
theorem settle_queueTitle (tag : Byte) (full : Bool) {s : State} (hphase : 5 ≤ s.supply.phase) :
    (settle (queueTitle tag full s)).save.kept.title.tag = tag
    ∧ (settle (queueTitle tag full s)).save.kept.title.blocks = s.save.kept.title.blocks
    ∧ (settle (queueTitle tag full s)).save.kept.title.faults = s.save.kept.title.faults
    ∧ (settle (queueTitle tag full s)).save.kept.title.held = false
    ∧ (settle (queueTitle tag full s)).save.kept.title.fullPass = full
    ∧ (s.save.copy = none → s.save.kept.queue = [] →
        (settle (queueTitle tag full s)).save.kept.title.state = .copying
        ∧ ∃ c, (settle (queueTitle tag full s)).save.copy = some c ∧ c.slot = .title)
    ∧ (s.save.copy ≠ none → (settle (queueTitle tag full s)).save.kept.title.state = .pending
        ∧ SlotId.title ∈ (settle (queueTitle tag full s)).save.kept.queue
        ∧ (settle (queueTitle tag full s)).save.copy = s.save.copy) := by
  have htitle := queueTitle_title tag full s
  have hqueue := queueTitle_queue tag full s
  have hcopy := queueTitle_copy tag full s
  have hsupply := queueTitle_supply tag full s
  refine ⟨?_, ?_, ?_, ?_, ?_, fun hnone hempty => ?_, fun hsome => ?_⟩
  case refine_6 =>
    exact settle_takes_title (rest := []) (by rw [hcopy, hnone]) (by rw [hqueue, hempty]; rfl) (by rw [hsupply]; exact hphase)
  case refine_7 =>
    obtain ⟨h1, h2, h3⟩ := settle_of_copy (s := queueTitle tag full s) (by rw [hcopy]; exact hsome)
    exact ⟨by rw [h2, htitle], h3 _ (by rw [hqueue]; simp), by rw [h1, hcopy]⟩
  all_goals
    obtain ⟨o, st, held, z, hsettled, hst⟩ := settle_title (queueTitle tag full s)
    rw [hsettled, htitle]
  case refine_4 =>
    rcases hst with ⟨-, hheld⟩ | ⟨-, hheld⟩
    · rw [hheld, htitle]
    · exact hheld

theorem reresolve_heard (s : State) (sl : Slot) : reresolve (heard s) sl = reresolve s sl := rfl

/-- Settles O21: the refusals in order, the empty commit, and the queued slot. -/
theorem saveCommitQueuesTheTransaction : Obligations.SaveCommitQueuesTheTransaction := by
  intro tag level s h
  obtain ⟨-, -, -, -, hphase⟩ := id h
  have hphase : 5 ≤ s.supply.phase := hphase
  have hanswer : ∀ a, answerSaveCommit ⟨tag, level, []⟩ (heard s) = a →
      exec (.saveCommit ⟨tag, level, []⟩) s = .next (a.reply tag) := fun a ha => exec_of_takes h ha
  have hcom : ∀ {b}, committable s.save.kept.title = b → (!committable (heard s).save.kept.title) = !b :=
    fun hb => congrArg _ hb
  refine ⟨fun h1 => ?_, fun h1 h2 => ?_, fun h1 h2 h3 => ?_, fun st h1 h2 h3 hres => ?_, fun w h1 h2 h3 hres => ?_⟩
  · exact hanswer (refuse .noTransaction (heard s)) (if_pos (hcom h1))
  · exact hanswer (refuse .denied (heard s)) ((if_neg (by simp [h1])).trans (if_pos h2))
  · exact hanswer (refuse .power (heard s)) ((if_neg (by simp [h1])).trans ((if_neg (Nat.not_lt.mpr h2)).trans
      (if_pos (inWarn_iff.mpr h3))))
  · refine hanswer (refuse st (heard s)) ((if_neg (by simp [h1])).trans ((if_neg (Nat.not_lt.mpr h2)).trans
      ((if_neg (fun hw => h3 (inWarn_iff.mp hw))).trans ?_)))
    rw [reresolve_heard, heard_save, hres]
  · have hchecks : answerSaveCommit ⟨tag, level, []⟩ (heard s) =
        if s.save.kept.title.state = .pending then .now (settle (queueTitle tag true (heard s))) .started []
        else if s.save.kept.title.blocks.isEmpty then .now (endEmpty tag (heard s)) .ok []
        else .now (settle (queueTitle tag (needsFullPass s s.save.kept.title.target) (heard s))) .started [] := by
      refine (if_neg (by simp [h1])).trans ((if_neg (Nat.not_lt.mpr h2)).trans
        ((if_neg (fun hw => h3 (inWarn_iff.mp hw))).trans ?_))
      rw [reresolve_heard, heard_save, hres]
      rfl
    have hstate : s.save.kept.title.state = .pending ∨ s.save.kept.title.state = .collecting := by
      revert h1
      unfold committable
      cases s.save.kept.title.state <;> simp
    rcases hstate with hpending | hcollecting
    · obtain ⟨q1, q2, q3, q4, q5, q6, q7⟩ := settle_queueTitle tag true (s := heard s) hphase
      refine ⟨_, hanswer _ (hchecks.trans (if_pos hpending)), fun hc => ?_, fun hc => ?_, fun _ => ?_, fun _ => ?_⟩
      · rw [hpending] at hc; cases hc
      · rw [hpending] at hc; cases hc
      · exact ⟨rfl, q1, q2, q3, q4, q5⟩
      · exact ⟨q6, q7⟩
    · have hnot : ¬ s.save.kept.title.state = .pending := by rw [hcollecting]; decide
      by_cases hempty : s.save.kept.title.blocks = []
      · refine ⟨_, hanswer _ (hchecks.trans ((if_neg hnot).trans (if_pos (by simp [hempty])))), fun _ _ => ?_,
          fun _ hne => absurd hempty hne, fun hc => absurd hc hnot, fun hc => ?_⟩
        · have hkept := freeSlot_title_kept (heard s)
          refine ⟨rfl, ?_, ?_, ⟨_, rfl⟩, ?_, ?_⟩
          · simp [endEmpty, setOutcome, setKept, hkept, freedSlot]
          · simp [endEmpty, setOutcome, setKept]
          · apply State.eq_of_fields <;> simp [endEmpty, setOutcome, setKept]
          · simp [endEmpty, setOutcome, setKept]
        · exact absurd hc (not_or.mpr ⟨hnot, fun hne => hne hempty⟩)
      · obtain ⟨q1, q2, q3, q4, q5, q6, q7⟩ :=
          settle_queueTitle tag (needsFullPass s s.save.kept.title.target) (s := heard s) hphase
        refine ⟨_, hanswer _ (hchecks.trans ((if_neg hnot).trans (if_neg (by simp [hempty])))), fun _ he => absurd he hempty,
          fun _ _ => ⟨rfl, q1, q2, ?_⟩, fun hc => absurd hc hnot, fun _ => ⟨q6, q7⟩⟩
        rw [reply_now, replyWith_save, q5]
        simp [needsFullPass]

/-! ## ERASE_ARM and ERASE -/

@[simp] theorem joinQueue_tries (id : SlotId) (s : State) : (joinQueue id s).save.tries = s.save.tries := by
  unfold joinQueue setOrder setQueue setKept; dsimp only; split <;> simp

/-- R79: the erase slot, queued and settled. -/
theorem settle_queueErase (w : Window) (tag : Byte) (s : State) : ∃ o st z,
    (settle (queueErase w tag s)).save.kept.title = { eraseSlot w tag s.save.kept.title with
      order := o, state := st, held := false, zeroBase := z } ∧ (st = .pending ∨ st = .copying) := by
  have htitle : (queueErase w tag s).save.kept.title = { eraseSlot w tag s.save.kept.title with
      state := .pending, held := false, order := if s.save.kept.clock.order = 0 then 1 else 2 } :=
    slotAt_joinQueue_same .title _
  obtain ⟨o, st, held, z, hsettled, hst⟩ := settle_title (queueErase w tag s)
  rw [hsettled, htitle]
  rw [htitle] at hst
  rcases hst with ⟨rfl, rfl⟩ | ⟨rfl, rfl⟩
  · exact ⟨o, .pending, z, rfl, .inl rfl⟩
  · exact ⟨o, .copying, z, rfl, .inr rfl⟩

/-- Settles O31: the arm's latch, the refusals in order, and the slot queued. -/
theorem eraseNeedsItsArm : Obligations.EraseNeedsItsArm := by
  refine ⟨fun tag level sel s h => ⟨fun st hres => ?_, fun w hres => ?_⟩, ?_⟩
  · refine exec_of_takes_now h ?_
    simp only [ownerOf, answerEraseArm, byte_zero, rank_eq, resolveLock_heard, hres]
    rfl
  · refine exec_of_takes_reply h ?_
    simp only [ownerOf, answerEraseArm, byte_zero, rank_eq, resolveLock_heard, hres, reply_ite]
    exact ite_congr rfl (fun _ => rfl) fun _ => rfl
  · rintro tag level sel mode pw s q hpw rfl h
    obtain ⟨hpassword, -⟩ := password_last (tag := tag) (level := level) (sel := sel) (mode := mode) hpw
    refine ⟨fun st hres => ?_, fun w hres => ?_⟩
    · refine exec_of_takes_now h ?_
      simp only [ownerOf, answerErase, byte_zero, rank_eq, resolveLock_heard, hres]
      rfl
    · have hanswer : ∀ a, answerErase ⟨tag, level, sel :: mode :: pw⟩ s.link.latch (heard s) = a →
          exec (.erase ⟨tag, level, sel :: mode :: pw⟩) s = .next (a.reply tag) := fun a ha => exec_of_takes h ha
      simp only [answerErase, byte_zero, byte_one, rank_eq, hpassword, resolveLock_heard, hres, heard_save, inWarn_heard,
        recordAt_heard, triesAt_heard, modeOf_byte] at hanswer
      refine ⟨fun h1 => hanswer (refuse .frozen (heard s)) (if_pos h1), fun h1 h2 =>
        hanswer (refuse .notArmed (heard s)) ((if_neg (by simp [h1])).trans (if_pos h2)), fun h1 h2 => ?_⟩
      have harm : ∀ a : Answer, _ → exec _ s = .next (a.reply tag) := fun a ha =>
        hanswer a ((if_neg (by simp [h1])).trans ((if_neg (not_not.mpr h2)).trans ha))
      refine ⟨fun h3 => harm (refuse .busy (heard s)) (if_pos h3), fun h3 h4 => harm (refuse .power (heard s))
        ((if_neg (not_not.mpr h3)).trans (if_pos (inWarn_iff.mpr h4))), fun h3 h4 h5 h6 => harm (refuse .triesExhausted (heard s))
        ((if_neg (not_not.mpr h3)).trans ((if_neg (fun hw => h4 (inWarn_iff.mp hw))).trans (if_pos ⟨h5, h6⟩))),
        fun h3 h4 h5 => ?_⟩
      have htry : ∀ a : Answer, _ → exec _ s = .next (a.reply tag) := fun a ha =>
        harm a ((if_neg (not_not.mpr h3)).trans ((if_neg (fun hw => h4 (inWarn_iff.mp hw))).trans
          ((if_neg (fun hex => h5.elim (fun hl => hl hex.1) (fun ht => ht hex.2))).trans ha)))
      refine ⟨fun h6 => htry (refuse .badValue (heard s)) ?_, fun h6 h7 h8 => htry (mismatch w.target (heard s)) ?_, fun h6 h7 => ?_⟩
      · rw [if_pos h6]
      · rw [if_neg (Nat.not_lt.mpr h6)]
        refine if_pos ⟨h7, ?_⟩
        rw [storedPassword_heard, storedPassword_eq]
        simpa [passwordMatches] using h8
      · obtain ⟨o, st, z, htitle, hst⟩ := settle_queueErase w tag (heard s)
        obtain ⟨hrecords, htries⟩ := settle_records (queueErase w tag (heard s))
        obtain ⟨hsel, hlevel⟩ := window_of_resolve hres
        refine ⟨_, htry (.now (settle (queueErase w tag (heard s))) .started []) ?_, rfl, by simp [queueErase, heard], ?_⟩
        · rw [if_neg (Nat.not_lt.mpr h6)]
          refine if_neg fun hbad => ?_
          rw [storedPassword_heard, storedPassword_eq] at hbad
          simp only [Bool.not_eq_true', ← Bool.not_eq_true, passwordMatches_iff] at hbad
          exact h7.elim (fun hl => hl hbad.1) hbad.2
        · simp only [reply_now, replyWith_save, replyWith_sram, htitle, hrecords, htries]
          refine ⟨rfl, rfl, rfl, rfl, rfl, rfl, hsel, hlevel, rfl, rfl, hst, ?_, ?_, ?_⟩
          all_goals simp [queueErase]

/-! ## SAVE_READ -/

/-- R31, R42: the completion of a link read in progress. -/
theorem exec_linkReadCompletion {r : LinkRead} {stale : Bool} {s : State} (bus : List Byte)
    (h : s.port.burst = some (.linkRead r stale)) : exec (.linkReadCompletion bus) s
      = .next (settle (deliverRead r stale (burstBytes s.sram r.addr r.count bus) (freeBus s))) := by
  simp only [exec, execLinkReadCompletion, h]

/-- Settles O22: the refusals, the zeros of a BLANK region, the read posted, and its completion. -/
theorem saveReadReturnsTheBytes : Obligations.SaveReadReturnsTheBytes := by
  refine ⟨?_, fun r tag bus s hburst hsel => ?_, fun r bus s hburst => ?_⟩
  · rintro tag level sel o0 o1 o2 o3 count s q rfl h
    have hoff : Request.quad ⟨tag, level, [sel, o0, o1, o2, o3, count]⟩ 1 = leNat [o0, o1, o2, o3] := rfl
    have hcount : Request.byte ⟨tag, level, [sel, o0, o1, o2, o3, count]⟩ 5 = count.toNat := by
      simp [Request.byte, field, leNat]
    refine ⟨fun st hres => ?_, fun w hres => ?_⟩
    · refine exec_of_takes_now h ?_
      simp only [ownerOf, answerSaveRead, byte_zero, rank_eq, hoff, hcount, resolveSave_heard, hres]
      rfl
    · have hanswer : ∀ a, answerSaveRead ⟨tag, level, [sel, o0, o1, o2, o3, count]⟩ (heard s) = a →
          exec (.saveRead ⟨tag, level, [sel, o0, o1, o2, o3, count]⟩) s = .next (a.reply tag) :=
        fun a ha => exec_of_takes h ha
      simp only [answerSaveRead, byte_zero, rank_eq, hoff, hcount, resolveSave_heard, hres, recordAt_heard] at hanswer
      refine ⟨fun h1 => hanswer (refuse .badValue (heard s)) (if_pos h1), fun h1 h2 h3 =>
        hanswer (.now (heard s) .ok (List.replicate count.toNat 0x00#8)) ((if_neg (by omega)).trans (if_pos h3)),
        fun h1 h2 h3 => ⟨_, hanswer _ ((if_neg (by omega)).trans (if_neg h3)), ?_⟩⟩
      refine ⟨by simp [postLinkRead, heard], readUnderWay_grant rfl, by simp [postLinkRead], by simp [postLinkRead]⟩
  · refine ⟨_, exec_linkReadCompletion bus hburst, ?_, ?_⟩
    · simp only [settle_link, deliverRead, freeBus, hsel]
      rfl
    · simp [deliverRead, hsel, freeBus]
  · refine ⟨_, exec_linkReadCompletion bus hburst, ?_, ?_⟩
    · simp [deliverRead, freeBus]
    · simp [deliverRead, freeBus]

end Sys2Proof.Machine
end

section
/-! PROOF. The voice requests, the envelope tick and the refill's completion (R122 to R138), and the mixer's two requests
(R148, R149). -/

namespace Sys2Proof.Machine

/-! ## A request's fields -/

theorem leNat_pair (a b : Byte) : leNat [a, b] = a.toNat + 256 * b.toNat := by simp [leNat]

/-! ## VOICE_PITCH, VOICE_LEVEL, VOICE_RAMP -/

/-- Settles O42: each request's stored values and reply. -/
theorem voiceSettingsAreClamped : Obligations.VoiceSettingsAreClamped := by
  intro tag level n a0 a1 b0 b1 s
  refine ⟨fun h => exec_of_takes_reply h ?_, fun h => exec_of_takes_reply h ?_, fun h => exec_of_takes_reply h ?_⟩
  · simp only [ownerOf, answerVoicePitch, byte_zero, word_one, reply_ite, leNat_pair]
    exact ite_congr rfl (fun _ => rfl) fun _ => rfl
  · simp only [ownerOf, answerVoiceLevel, byte_zero, byte_one, byte_two, reply_ite]
    exact ite_congr rfl (fun _ => rfl) fun _ => rfl
  · simp only [ownerOf, answerVoiceRamp, byte_zero, word_one, word_three, reply_ite, leNat_pair]
    exact ite_congr rfl (fun _ => rfl) fun _ => rfl

/-! ## What a request makes of the voices, and what follows it -/

theorem setVoice_self {n : Nat} (s : State) (hn : n < 8) : setVoice n (voiceAt s n) s = s := by
  have hvoices : s.voices.setIfInBounds n (voiceAt s n) = s.voices := by
    apply Vector.ext
    intro i hi
    by_cases h : n = i <;> simp_all [voiceAt]
  rw [setVoice, hvoices]

/-- R121, R136: a voice with an empty buffer has nothing to trim. -/
theorem trimRun_of_empty {v : Voice} (hrun : v.run = []) (hoff : v.runOffset = 0) : trimRun v = v := by
  obtain ⟨⟩ := v
  simp_all [trimRun]

theorem settle_voiceAt_empty (s : State) {n : Nat} (hrun : (voiceAt s n).run = []) (hoff : (voiceAt s n).runOffset = 0) :
    voiceAt (settle s) n = voiceAt s n := by
  rcases settle_voiceAt s n with h | ⟨-, -, -, h⟩
  · exact h
  · rw [h, trimRun_of_empty hrun hoff]

/-- R136: what `settle` does to a voice is a grant's trim. -/
theorem asGranted_settle (s : State) (n : Nat) : AsGranted (voiceAt (settle s) n) (voiceAt s n) :=
  (settle_voiceAt s n).imp id fun ⟨_, _, _, h⟩ => h

/-- R21: no grant is made over a burst in progress. -/
theorem settle_burst_of_some {s : State} {b : Burst} (h : s.port.burst = some b) : (settle s).port.burst = some b := by
  have hport : (recompute (postRefills (takeHead (fillClock s)))).port.burst = some b := by
    have := congrArg Port.burst (takeHead_port (fillClock s))
    simpa [postRefills, h] using this
  unfold settle grant
  rw [hport]
  exact hport

@[simp] theorem voiceAt_staleRefill (n m : Nat) (s : State) : voiceAt (staleRefill n s) m = voiceAt s m :=
  voiceAt_congr (by simp) m

/-- R31: a burst in flight for the voice will be discarded. -/
theorem staleRefill_burst {n a c : Nat} {x : Bool} {s : State} (h : s.port.burst = some (.refill n a c x)) :
    (staleRefill n s).port.burst = some (.refill n a c true) := by
  simp [staleRefill, h]

/-- R123, R127: a voice replaced by one with an empty buffer, its burst in flight to be discarded, and what follows. -/
theorem settle_staleRefill_setVoice {n : Nat} {v : Voice} (s : State) (hn : n < 8) (hrun : v.run = [])
    (hoff : v.runOffset = 0) :
    voiceAt (settle (staleRefill n (setVoice n v s))) n = v
    ∧ (∀ m, m < 8 → m ≠ n → AsGranted (voiceAt (settle (staleRefill n (setVoice n v s))) m) (voiceAt s m))
    ∧ (∀ a c x, s.port.burst = some (.refill n a c x) →
        (settle (staleRefill n (setVoice n v s))).port.burst = some (.refill n a c true)) := by
  have hv : voiceAt (staleRefill n (setVoice n v s)) n = v := by rw [voiceAt_staleRefill, voiceAt_setVoice]; simp [hn]
  refine ⟨?_, fun m _ hm => ?_, fun a c x hburst => settle_burst_of_some (staleRefill_burst hburst)⟩
  · rw [settle_voiceAt_empty _ (by rw [hv, hrun]) (by rw [hv, hoff]), hv]
  · have hother := asGranted_settle (staleRefill n (setVoice n v s)) m
    rwa [voiceAt_staleRefill, voiceAt_setVoice, if_neg (by simp [hm])] at hother

/-! ## VOICE_SETUP -/

theorem formatOf_eq (v : Nat) : formatOf v = if 3 < v then none
    else some (if v = 0 then .pcm8 else if v = 1 then .pcm16 else if v = 2 then .pulse else .noise) := by
  match v with
  | 0 | 1 | 2 | 3 => rfl
  | v + 4 => exact (if_pos (by omega)).symm

theorem formatOf_byte (b : Byte) : formatOf b.toNat = if 3 < b.toNat then none
    else some (if b = 0#8 then .pcm8 else if b = 1#8 then .pcm16 else if b = 2#8 then .pulse else .noise) := by
  have h0 : b = 0#8 ↔ b.toNat = 0 := byte_eq_ofNat_iff (by decide)
  have h1 : b = 1#8 ↔ b.toNat = 1 := byte_eq_ofNat_iff (by decide)
  have h2 : b = 2#8 ↔ b.toNat = 2 := byte_eq_ofNat_iff (by decide)
  simp only [h0, h1, h2]
  exact formatOf_eq b.toNat

/-- Settles O43: the resolution, the refusals in order, and the record written. -/
theorem voiceSetupChecksInOrder : Obligations.VoiceSetupChecksInOrder := by
  rintro tag level n f sel p0 p1 p2 l0 l1 l2 e0 e1 e2 loop duty s q st lp en win rfl h hst hlp hen
  have hsetup : setupOf ⟨tag, level, [n, f, sel, p0, p1, p2, l0, l1, l2, e0, e1, e2, loop, duty]⟩
      = ⟨n.toNat, f.toNat, sel.toNat, st, lp, en, loop.toNat, duty.toNat⟩ := by
    rw [hst, hlp, hen]
    simp [setupOf, Request.byte, Request.triple, field, leNat]
  generalize hu : (⟨n.toNat, f.toNat, sel.toNat, st, lp, en, loop.toNat, duty.toNat⟩ : Setup) = u at hsetup
  have hanswer : ∀ a, answerVoiceSetup ⟨tag, level, [n, f, sel, p0, p1, p2, l0, l1, l2, e0, e1, e2, loop, duty]⟩
      (heard s) = a → exec (.voiceSetup ⟨tag, level, [n, f, sel, p0, p1, p2, l0, l1, l2, e0, e1, e2, loop, duty]⟩) s
        = .next (a.reply tag) := fun a ha => exec_of_takes h ha
  simp only [answerVoiceSetup, hsetup, rank_eq] at hanswer
  have hpcm : f.toNat ≤ 1 → setupResolution u level.toNat (heard s) = some (resolve s sel.toNat level.toNat kindSample
      false .none (fun w => decide (st < en ∧ lp < en ∧ en * (if f = 0#8 then 1 else 2) ≤ w.length))) := by
    intro hf
    have hformat : f = 0#8 ∨ f = 1#8 := by
      rw [byte_eq_ofNat_iff (by decide), byte_eq_ofNat_iff (by decide)]; omega
    subst hu
    rcases hformat with rfl | rfl <;> rfl
  have hgenerated : 1 < f.toNat → setupResolution u level.toNat (heard s) = none := by
    intro hf
    have h0 : ¬ f = 0#8 := by rw [byte_eq_ofNat_iff (by decide)]; omega
    have h1 : ¬ f = 1#8 := by rw [byte_eq_ofNat_iff (by decide)]; omega
    subst hu
    simp only [setupResolution, formatOf_byte, h0, h1, if_false]
    split_ifs <;> rfl
  refine ⟨fun r hf hres => hanswer (refuse r (heard s)) (by rw [hpcm hf, hres]), fun hwin hnone => ?_⟩
  have hfinish : ∀ a, finishSetup u win (heard s) = a → exec (.voiceSetup
      ⟨tag, level, [n, f, sel, p0, p1, p2, l0, l1, l2, e0, e1, e2, loop, duty]⟩) s = .next (a.reply tag) := by
    intro a ha
    refine hanswer a ?_
    by_cases hf : f.toNat ≤ 1
    · obtain ⟨w, rfl, hw⟩ := hwin hf
      rw [hpcm hf, hw]
      exact ha
    · rw [hnone (by omega)] at ha
      rw [hgenerated (by omega)]
      exact ha
  have hrefused : ∀ r, setupRefusal u (heard s) = some r → exec (.voiceSetup
      ⟨tag, level, [n, f, sel, p0, p1, p2, l0, l1, l2, e0, e1, e2, loop, duty]⟩) s = .next (answered r tag [] s) :=
    fun r hr => hfinish (refuse r (heard s)) (by rw [finishSetup, hr])
  have hkind : (formatOf f.toNat = some .pulse ∨ formatOf f.toNat = some .noise) ↔ f.toNat = 2 ∨ f.toNat = 3 := by
    unfold formatOf
    split <;> simp_all
  have hunknown : formatOf f.toNat = none ↔ 3 < f.toNat := by
    rw [formatOf_byte]
    split_ifs <;> simp_all
  have hrefusal : setupRefusal u (heard s) =
      if n.toNat ≤ 7 ∧ (voiceAt s n.toNat).state ≠ .idle then some .busy
      else if (f.toNat = 2 ∨ f.toNat = 3) ∧ (en ≤ st ∨ en ≤ lp) then some .outOfBounds
      else if 7 < n.toNat ∨ 3 < f.toNat ∨ 1 < loop.toNat then some .badValue else none := by
    subst hu
    simp only [setupRefusal, voiceAt_heard, hkind, hunknown, choice_eq_none_iff]
  have hnotbusy : (7 < n.toNat ∨ (voiceAt s n.toNat).state = .idle) →
      ¬ (n.toNat ≤ 7 ∧ (voiceAt s n.toNat).state ≠ .idle) :=
    fun hor hand => hor.elim (fun h7 => by omega) fun hi => hand.2 hi
  have hordered : ((f.toNat = 2 ∨ f.toNat = 3) → st < en ∧ lp < en) →
      ¬ ((f.toNat = 2 ∨ f.toNat = 3) ∧ (en ≤ st ∨ en ≤ lp)) := by
    rintro hord ⟨hf, hbad⟩
    have := hord hf
    omega
  refine ⟨fun h1 h2 => hrefused _ (hrefusal.trans (if_pos ⟨h1, h2⟩)), fun h1 h2 h3 => hrefused _
    (hrefusal.trans ((if_neg (hnotbusy h1)).trans (if_pos ⟨h2, h3⟩))), fun h1 h2 h3 => hrefused _
    (hrefusal.trans ((if_neg (hnotbusy h1)).trans ((if_neg (hordered h2)).trans (if_pos h3)))),
    fun h1 h2 h3 h4 h5 => ?_⟩
  have haccepted : setupRefusal u (heard s) = none := hrefusal.trans ((if_neg (hnotbusy (.inr h2))).trans
    ((if_neg (hordered h5)).trans (if_neg (by omega))))
  have hvoice : setUpVoice u win (voiceAt s n.toNat) = { voiceAt s n.toNat with
      format := if f = 0#8 then .pcm8 else if f = 1#8 then .pcm16 else if f = 2#8 then .pulse else .noise
      window := win, startPos := st, loopStart := lp, endPos := en, looping := decide (loop = 1#8)
      duty := max 1 (min 7 duty.toNat), index := st, fraction := 0, run := [], runOffset := 0 } := by
    subst hu
    simp only [setUpVoice, formatOf_byte, if_neg (Nat.not_lt.mpr h3), choice_byte h4, Option.getD_some, clampDuty]
    rfl
  obtain ⟨hset, hothers, hburst⟩ := settle_staleRefill_setVoice (n := n.toNat)
    (v := setUpVoice u win (voiceAt s n.toNat)) (heard s) (by omega) rfl rfl
  have hvoiceNumber : u.voice = n.toNat := by rw [← hu]
  refine ⟨_, hfinish _ (by rw [finishSetup, haccepted]), ?_⟩
  rw [hvoiceNumber, voiceAt_heard]
  refine ⟨hset.trans hvoice, hothers, hburst, ?_, by simp [setVoice], by simp [setVoice]⟩
  rw [reply_now, replyWith_link, settle_link]
  simp only [staleRefill_link]
  cases win with
  | none => rfl
  | some w => rfl

/-! ## The key requests -/

theorem keyedOff_of_idle {v : Voice} (h : v.state = .idle) (step : Nat) : keyedOff step v = v := if_pos h

/-- Settles O44: the voice keyed on, released, or stopped. -/
theorem keysStartAndStopVoices : Obligations.KeysStartAndStopVoices := by
  rintro tag level n a0 a1 s v rfl
  refine ⟨fun h => ⟨fun h1 => ?_, fun h1 => ?_⟩, fun h => ?_, fun h => ?_⟩
  · refine exec_of_takes (a := refuse .badValue (heard s)) h (if_pos ?_)
    simpa using h1
  · obtain ⟨hset, hothers, hburst⟩ := settle_staleRefill_setVoice (n := n.toNat)
      (v := keyedOn (voiceAt s n.toNat)) (heard s) (by omega) rfl rfl
    refine ⟨_, exec_of_takes (a := .now (settle (staleRefill n.toNat (setVoice n.toNat
      (keyedOn (voiceAt s n.toNat)) (heard s)))) .ok []) h ?_, ?_⟩
    · simp only [ownerOf, answerVoiceKeyOn, byte_zero, voiceAt_heard]
      exact if_neg (by omega)
    · have hpriming : isPcm (voiceAt s n.toNat).format
          = decide ((voiceAt s n.toNat).format = .pcm8 ∨ (voiceAt s n.toNat).format = .pcm16) := by
        cases (voiceAt s n.toNat).format <;> rfl
      refine ⟨hset.trans ?_, hothers, hburst, by simp [answered, setVoice, heard], by simp [setVoice], by simp [setVoice]⟩
      rw [keyedOn, hpriming]
  · refine exec_of_takes_reply h ?_
    simp only [ownerOf, answerVoiceKeyOff, byte_zero, word_one, reply_ite, leNat_pair, voiceAt_heard]
    refine ite_congr rfl (fun _ => rfl) fun hn => ?_
    by_cases hidle : (voiceAt s n.toNat).state = .idle
    · rw [if_pos hidle, keyedOff_of_idle hidle]
      have hself : setVoice n.toNat (voiceAt s n.toNat) (heard s) = heard s := setVoice_self (heard s) (by omega)
      rw [hself, reply_now_heard]
    · rw [if_neg hidle, keyedOff, if_neg hidle]
      rfl
  · have hanswer : ∀ a, answerVoiceStop ⟨tag, level, [n]⟩ (heard s) = a →
        exec (.voiceStop ⟨tag, level, [n]⟩) s = .next (a.reply tag) := fun a ha => exec_of_takes h ha
    simp only [answerVoiceStop, byte_zero, voiceAt_heard, leBytes_one] at hanswer
    refine ⟨fun h1 => hanswer (refuse .badValue (heard s)) (if_pos h1), fun h1 h2 => ?_, fun h1 h2 => ?_⟩
    · refine hanswer (.now (heard s) .ok [0#8]) ((if_neg (Nat.not_lt.mpr h1)).trans ?_)
      rw [stopVoice, voiceAt_heard, if_pos h2, h2]
      rfl
    · have hstop : stopVoice n.toNat (heard s) = postRefills (staleRefill n.toNat (setVoice n.toNat
          (idleVoice (voiceAt s n.toNat)) (heard s))) := if_neg h2
      refine ⟨_, hanswer _ (if_neg (Nat.not_lt.mpr h1)), ?_⟩
      rw [hstop]
      refine ⟨by simp [setVoice, idleVoice], ?_, fun a c st hburst => ?_, ?_, by simp [setVoice]⟩
      · have hidle : (voiceAt (setVoice n.toNat (idleVoice (voiceAt s n.toNat)) (heard s)) n.toNat).state = .idle := by
          rw [voiceAt_setVoice, if_pos ⟨rfl, by omega⟩]
          rfl
        simp only [reply_now, replyWith_port, postRefills, voiceAt_staleRefill]
        split
        · simp
        · simp [wantsRefill, hidle]
      · exact staleRefill_burst hburst
      · have hcode : BitVec.ofNat 8 (voiceStateCode (voiceAt s n.toNat).state)
            = if (voiceAt s n.toNat).state = .playing then 1#8 else 2#8 := by
          revert h2
          cases (voiceAt s n.toNat).state <;> simp [voiceStateCode]
        rw [hcode]
        simp [answered, setVoice, heard]

/-! ## The envelope tick -/

/-- R134: the envelope moves before what they set off. -/
theorem moveEnvelopes_eq (s : State) : ∃ u, moveEnvelopes s = settle u
    ∧ ∀ n, n < 8 → voiceAt u n = envelopeVoice (voiceAt s n) :=
  ⟨_, rfl, fun _ hn => voiceAt_ofFn envelopeVoice hn (by simp)⟩

theorem moveEnvelopes_voiceAt (s : State) {n : Nat} (hn : n < 8) :
    AsGranted (voiceAt (moveEnvelopes s) n) (envelopeVoice (voiceAt s n)) := by
  obtain ⟨u, hu, hv⟩ := moveEnvelopes_eq s
  rw [hu, ← hv n hn]
  exact asGranted_settle u n

/-- R134: a voice that is IDLE after its move has nothing to trim. -/
theorem moveEnvelopes_voiceAt_idle (s : State) {n : Nat} (hn : n < 8) (h : (envelopeVoice (voiceAt s n)).state = .idle) :
    voiceAt (moveEnvelopes s) n = envelopeVoice (voiceAt s n) := by
  obtain ⟨u, hu, hv⟩ := moveEnvelopes_eq s
  rw [← hv n hn] at h ⊢
  rw [hu, settle_voiceAt_idle u n h]

/-- R31: a burst in flight for a voice of the set will be discarded. -/
theorem staleRefills_burst {ended : Nat → Bool} {n a c : Nat} {x : Bool} {s : State}
    (h : s.port.burst = some (.refill n a c x)) (hn : ended n = true) :
    (staleRefills ended s).port.burst = some (.refill n a c true) := by
  simp [staleRefills, h, hn]

/-- R138: VOICE_END for the voices that ended. -/
theorem reportEnds_link (ended : Nat → Bool) (why : VoiceEndReason) (s : State) : (reportEnds ended why s).link
    = (if maskOf ended = 0 then s else notify (.voiceEnd (maskOf ended) why) s).link := rfl

theorem reportEnds_link_congr (ended : Nat → Bool) (why : VoiceEndReason) {s t : State} (h : t.link = s.link) :
    (reportEnds ended why t).link = (reportEnds ended why s).link := by
  unfold reportEnds
  split
  · exact h
  · exact notify_link_congr h _

theorem moveEnvelopes_link (s : State) :
    (moveEnvelopes s).link = (reportEnds (fun n => releaseEnds (voiceAt s n)) .released s).link := by
  unfold moveEnvelopes
  rw [settle_link]
  exact reportEnds_link_congr _ _ (by simp)

theorem releaseEnds_iff {v : Voice} : releaseEnds v = true ↔ v.state = .releasing ∧ v.e ≤ v.releaseStep := by
  simp [releaseEnds, Nat.sub_eq_zero_iff_le]

/-! ## The refill's completion -/

theorem cellsFrom_eq (a : Nat) (bytes : List Byte) :
    cellsFrom a bytes = (List.range bytes.length).map (fun k => (a + k, bytes.getD k 0#8)) := by
  induction bytes generalizing a with
  | nil => rfl
  | cons b bs ih =>
    rw [cellsFrom, ih, List.length_cons, List.range_succ_eq_map, List.map_cons, List.map_map]
    simp [Nat.add_assoc, Nat.add_comm 1]

/-- R137: the voice with the burst's bytes at its run's end. -/
theorem appendBurst_eq (a : Nat) (bytes : List Byte) (v : Voice) : appendBurst a bytes v = { v with
    run := v.run ++ (List.range bytes.length).map (fun k => (a + k, bytes.getD k 0#8))
    priming := v.priming && decide (v.run.length + bytes.length < v.runOffset + sampleBytes v.format) } := by
  simp only [appendBurst, samplePresent, List.length_append, cellsFrom_length, ← cellsFrom_eq]
  congr 2
  rw [← decide_not, decide_eq_decide, Nat.not_le]

theorem exec_refillCompletion {n a c : Nat} {stale : Bool} {s : State} (bus : List Byte)
    (h : s.port.burst = some (.refill n a c stale)) : exec (.refillCompletion bus) s
      = .next (settle (deliverRefill n a stale (burstBytes s.rom a c bus) (freeBus s))) := by
  simp only [exec, execRefillCompletion, h]

/-- Settles O45: the envelope moves voice by voice, and the refill's bytes. -/
theorem envelopesMoveAndRefillsArrive : Obligations.EnvelopesMoveAndRefillsArrive := by
  refine ⟨fun s hs => ?_, fun s h1 h2 => ?_, fun bus n a c s hburst hn => ?_, fun bus n a c s hburst => ?_,
    fun bus s hburst => ?_⟩
  · have hoff : (slotUp s && !inWarn s) = false := by rcases hs with h | h <;> simp [slotUp, inWarn, h]
    simp only [exec, execEnvelopeTick, hoff]
    rfl
  · have hon : (slotUp s && !inWarn s) = true := by simp [slotUp, inWarn, h1, h2]
    refine ⟨moveEnvelopes s, by simp only [exec, execEnvelopeTick, hon, if_true], ?_, ?_, ?_, ?_, ?_, ?_, ?_, ?_⟩
    · intro n hn hidle
      have henv : envelopeVoice (voiceAt s n) = voiceAt s n := by simp only [envelopeVoice, hidle]
      rw [moveEnvelopes_voiceAt_idle s hn (by rw [henv]; exact hidle), henv]
    · intro n hn hplaying
      have henv : envelopeVoice (voiceAt s n) = { voiceAt s n with
          e := rampTo (voiceAt s n).e (voiceAt s n).target (voiceAt s n).step } := by simp only [envelopeVoice, hplaying]
      refine ⟨_, henv ▸ moveEnvelopes_voiceAt s hn, fun hup => if_pos hup, fun hdown => ?_, fun heq => ?_⟩
      · exact (if_neg (by omega)).trans (if_pos hdown)
      · exact ((if_neg (by omega)).trans (if_neg (by omega))).trans heq
    · intro n hn hreleasing hmore
      have henv : envelopeVoice (voiceAt s n) = { voiceAt s n with
          e := (voiceAt s n).e - (voiceAt s n).releaseStep } := by
        simp only [envelopeVoice, hreleasing]
        exact if_neg (by omega)
      exact henv ▸ moveEnvelopes_voiceAt s hn
    · intro n hn hreleasing hlast
      have henv : envelopeVoice (voiceAt s n) = idleVoice (voiceAt s n) := by
        simp only [envelopeVoice, hreleasing]
        exact if_pos (by omega)
      refine ⟨(moveEnvelopes_voiceAt_idle s hn (by rw [henv]; rfl)).trans henv, fun a c x hburst => ?_⟩
      refine settle_burst_of_some ?_
      rw [reportEnds_port]
      exact staleRefills_burst hburst (releaseEnds_iff.mpr ⟨hreleasing, hlast⟩)
    · intro hnone
      rw [moveEnvelopes_link, reportEnds_link, if_pos]
      refine (maskOf_eq_zero _).mpr fun n hn => ?_
      rw [← Bool.not_eq_true, releaseEnds_iff]
      rintro ⟨hreleasing, hlast⟩
      have := hnone n hn hreleasing
      omega
    · intro n hn hreleasing hlast
      refine ⟨maskOf (fun n => releaseEnds (voiceAt s n)), ?_, fun m hm => ?_⟩
      · rw [moveEnvelopes_link, reportEnds_link, if_neg]
        intro hzero
        have := (maskOf_eq_zero _).mp hzero n hn
        rw [releaseEnds_iff.mpr ⟨hreleasing, hlast⟩] at this
        cases this
      · rw [getLsbD_maskOf _ m hm, releaseEnds_iff]
    · simp [moveEnvelopes]
    · simp [moveEnvelopes]
  · refine ⟨_, appendBurst a (burstBytes s.rom a c bus) (voiceAt s n), exec_refillCompletion bus hburst, ?_, ?_,
      fun m _ hm => ?_, by simp [deliverRefill, setVoice, freeBus], by simp [deliverRefill, setVoice, freeBus]⟩
    · rw [appendBurst_eq, burstBytes_length]
    · have hsettled := asGranted_settle (setVoice n (appendBurst a (burstBytes s.rom a c bus) (voiceAt s n)) (freeBus s)) n
      rw [voiceAt_setVoice, if_pos ⟨rfl, hn⟩] at hsettled
      exact hsettled
    · have hsettled := asGranted_settle (setVoice n (appendBurst a (burstBytes s.rom a c bus) (voiceAt s n)) (freeBus s)) m
      rw [voiceAt_setVoice, if_neg (by simp [hm])] at hsettled
      exact hsettled
  · exact ⟨_, exec_refillCompletion bus hburst, fun m _ => asGranted_settle (freeBus s) m,
      fun m _ hidle => settle_voiceAt_idle (freeBus s) m hidle, settle_link _, settle_mixer _, settle_rom _⟩
  · have hnone : execRefillCompletion bus s = .next s := by
      unfold execRefillCompletion
      split
      · rename_i n a c stale hb
        exact absurd hb (hburst n a c stale)
      · rfl
    exact hnone

/-! ## The mixer's requests -/

theorem roundingOf_eq (v : Nat) : roundingOf v = if 3 < v then none
    else some (if v = 0 then .nearest else if v = 1 then .zero else if v = 2 then .floor else .ceiling) := by
  match v with
  | 0 | 1 | 2 | 3 => rfl
  | v + 4 => exact (if_pos (by omega)).symm

theorem roundingOf_byte (b : Byte) : roundingOf b.toNat = if 3 < b.toNat then none
    else some (if b = 0#8 then .nearest else if b = 1#8 then .zero else if b = 2#8 then .floor else .ceiling) := by
  have h0 : b = 0#8 ↔ b.toNat = 0 := byte_eq_ofNat_iff (by decide)
  have h1 : b = 1#8 ↔ b.toNat = 1 := byte_eq_ofNat_iff (by decide)
  have h2 : b = 2#8 ↔ b.toNat = 2 := byte_eq_ofNat_iff (by decide)
  simp only [h0, h1, h2]
  exact roundingOf_eq b.toNat

/-- R199: the code of the rounding mode that a byte names is the byte. -/
theorem roundingCode_byte {b : Byte} (h : b.toNat ≤ 3) : BitVec.ofNat 8 (roundingCode
    (if b = 0#8 then .nearest else if b = 1#8 then .zero else if b = 2#8 then .floor else .ceiling)) = b := by
  have hb : b = 0#8 ∨ b = 1#8 ∨ b = 2#8 ∨ b = 3#8 := by
    simp only [← BitVec.toNat_inj, BitVec.toNat_ofNat]; omega
  rcases hb with rfl | rfl | rfl | rfl <;> rfl

/-- R199: a choice byte reported back is the byte. -/
theorem flagCode_byte {b : Byte} (h : b.toNat ≤ 1) : BitVec.ofNat 8 (flagCode (b == 1#8)) = b := by
  have hb : b = 0#8 ∨ b = 1#8 := by
    simp only [← BitVec.toNat_inj, BitVec.toNat_ofNat]; omega
  rcases hb with rfl | rfl <;> rfl

/-- R148: the enable set that a choice byte leaves. -/
theorem enableChoice_byte {b : Byte} {kept en : BitVec 4} (h : (b = 0xFF#8 ∧ en = kept) ∨ b.toNat = en.toNat) :
    enableChoice b.toNat kept = some en := by
  rcases h with ⟨rfl, rfl⟩ | h
  · rfl
  · have hlt := en.isLt
    rw [h, enableChoice, if_neg (by omega), if_pos (by omega)]
    simp

/-- Settles O48: the settings stored, and the flags cleared. -/
theorem mixRequestsChangeTheSettings : Obligations.MixRequestsChangeTheSettings := by
  intro tag level m0 m1 mode out clear choice' s
  refine ⟨fun h => ?_, fun h => ?_⟩
  · have hanswer : ∀ a, answerMixConfig ⟨tag, level, [m0, m1, mode, out]⟩ (heard s) = a →
        exec (.mixConfig ⟨tag, level, [m0, m1, mode, out]⟩) s = .next (a.reply tag) := fun a ha => exec_of_takes h ha
    simp only [answerMixConfig, byte_two, byte_three, word_zero, roundingOf_byte, ← leNat_pair] at hanswer
    refine ⟨fun hbad => hanswer (refuse .badValue (heard s)) ?_, fun hmode hout => ?_⟩
    · by_cases hmode : 3 < mode.toNat
      · rw [if_pos hmode]
      · rw [if_neg hmode, choice_eq_none_iff.mpr (hbad.resolve_left hmode)]
    · rw [if_neg (Nat.not_lt.mpr hmode), choice_byte hout] at hanswer
      refine ⟨_, hanswer _ rfl, rfl, rfl, ?_⟩
      simp only [settingsBytes, configured, leBytes_one, roundingCode_byte hmode, flagCode_byte hout, List.append_assoc]
      rfl
  · have hanswer : ∀ a, answerMixFlags ⟨tag, level, [clear, choice']⟩ (heard s) = a →
        exec (.mixFlags ⟨tag, level, [clear, choice']⟩) s = .next (a.reply tag) := fun a ha => exec_of_takes h ha
    simp only [answerMixFlags, byte_zero, byte_one] at hanswer
    refine ⟨fun h1 h2 => hanswer (refuse .badValue (heard s)) ?_, fun en hen => ?_⟩
    · have h255 : ¬ choice'.toNat = 255 := by rwa [← byte_eq_ofNat_iff (by decide)]
      rw [enableChoice, if_neg h255, if_neg (by omega)]
    · rw [heard_mixer, enableChoice_byte hen] at hanswer
      refine (hanswer _ rfl).trans ?_
      simp only [settingsBytes, leBytes_one, ofNat_toNat_byte, ofNat_flagCode, List.append_assoc]
      rfl

end Sys2Proof.Machine
end

section
/-! PROOF. The rumble driver's requests and tick (R156 to R169). -/

namespace Sys2Proof.Machine

/-! ## RUMBLE_DEFINE -/

/-- R199: a request's steps as its bytes lay them out. -/
theorem stepsOf_flatten (xs : List (Byte × Byte × Byte)) : stepsOf (xs.map (fun x => [x.1, x.2.1, x.2.2])).flatten
    = xs.map (fun x => PatternStep.mk x.1.toNat (max 1 (min 4095 (x.2.1.toNat + 256 * x.2.2.toNat)))) := by
  induction xs with
  | nil => rfl
  | cons x xs ih =>
    simp only [List.map_cons, List.flatten_cons, List.cons_append, List.nil_append, stepsOf, ih, leNat_pair, clampDuration]

theorem patternHeld_iff (r : Rumble) (p : Nat) : patternHeld r p = true
    ↔ ∃ x, (r.current = some x ∨ x ∈ r.waiting) ∧ x.pattern = p := by
  simp only [patternHeld, Bool.or_eq_true, Option.any_eq_true, List.any_eq_true, beq_iff_eq]
  constructor
  · rintro (⟨x, hx, hp⟩ | ⟨x, hx, hp⟩)
    · exact ⟨x, .inl hx, hp⟩
    · exact ⟨x, .inr hx, hp⟩
  · rintro ⟨x, hx | hx, hp⟩
    · exact .inl ⟨x, hx, hp⟩
    · exact .inr ⟨x, hx, hp⟩

/-! ## RUMBLE_CANCEL, RUMBLE_FOLLOW, RUMBLE_HOLD -/

/-- Settles O51: the refusals, and the driver's records after each request. -/
theorem rumbleRequestsSetTheDriver : Obligations.RumbleRequestsSetTheDriver := by
  refine ⟨?_, fun tag level scope s h => ?_, ?_, ?_⟩
  · rintro tag level p xs s q held rfl h hheld
    have hheld' : held ↔ patternHeld s.rumble p.toNat = true := by rw [hheld, patternHeld_iff]
    have hanswer : ∀ a, answerRumbleDefine ⟨tag, level, p :: (xs.map (fun x => [x.1, x.2.1, x.2.2])).flatten⟩ (heard s) = a →
        exec (.rumbleDefine ⟨tag, level, p :: (xs.map (fun x => [x.1, x.2.1, x.2.2])).flatten⟩) s
          = .next (a.reply tag) := fun a ha => exec_of_takes h ha
    simp only [answerRumbleDefine, byte_zero, List.drop_succ_cons, List.drop_zero, stepsOf_flatten, List.length_map,
      heard_rumble] at hanswer
    refine ⟨fun h1 => hanswer (refuse .busy (heard s)) (if_pos (hheld'.mp h1)), fun h1 h2 =>
      hanswer (refuse .badValue (heard s)) ((if_neg fun hc => h1 (hheld'.mpr hc)).trans (if_pos h2)), fun h1 h2 h3 => ?_⟩
    refine (hanswer _ ((if_neg fun hc => h1 (hheld'.mpr hc)).trans (if_neg (by omega)))).trans ?_
    simp only [playLength, List.map_map, leBytes_one]
    rfl
  · have hanswer : ∀ a, answerRumbleCancel ⟨tag, level, [scope]⟩ (heard s) = a →
        exec (.rumbleCancel ⟨tag, level, [scope]⟩) s = .next (a.reply tag) := fun a ha => exec_of_takes h ha
    simp only [answerRumbleCancel, byte_zero, heard_rumble, leBytes_one] at hanswer
    refine ⟨fun h1 => hanswer (refuse .badValue (heard s)) ((if_neg (by omega)).trans (if_neg (by omega))), ?_, ?_, ?_, ?_⟩
    · rintro rfl hcur
      refine hanswer (.now (heard s) .ok [0#8]) ((if_pos rfl).trans ?_)
      simp [currentCount, hcur]
    · rintro rfl x hcur hwait
      refine (hanswer _ (if_pos rfl)).trans ?_
      simp only [currentCount, hcur, startNext, hwait, Option.isSome_some, if_true]
      rfl
    · rintro rfl x y rest hcur hwait
      refine (hanswer _ (if_pos rfl)).trans ?_
      simp only [currentCount, hcur, startNext, hwait, Option.isSome_some, if_true]
      rfl
    · rintro rfl
      exact hanswer _ ((if_neg (by decide)).trans (if_pos rfl))
  · rintro tag level on n g s old timer h rfl hold
    refine exec_of_takes_reply h ?_
    have hbytes : followBytes (heard s).rumble.follow = old := by
      rw [hold, heard_rumble]
      cases s.rumble.follow <;> rfl
    simp only [ownerOf, answerRumbleFollow, byte_zero, byte_one, byte_two]
    by_cases hoff : on = 0#8
    · have hchoice : choice on.toNat = some false := by rw [hoff]; rfl
      rw [if_pos hoff, hchoice]
      simp only [setFollow, hbytes]
      rfl
    · by_cases hon : on = 1#8
      · have hchoice : choice on.toNat = some true := by rw [hon]; rfl
        rw [if_neg hoff, if_pos hon, hchoice]
        simp only [setFollow, hbytes, reply_ite, inWarn_heard, inWarn_iff]
        exact ite_congr rfl (fun _ => rfl) fun _ => ite_congr rfl (fun _ => rfl) fun _ => rfl
      · have hchoice : choice on.toNat = none := by
          rw [choice_eq_none_iff]
          rw [byte_eq_ofNat_iff (by decide)] at hoff hon
          omega
        rw [if_neg hoff, if_neg hon, hchoice]
        rfl
  · rintro tag level lo hi s _ h rfl
    refine exec_of_takes_reply h ?_
    simp only [ownerOf, answerRumbleHold, word_zero]
    rfl

/-! ## RUMBLE_PLAY -/

/-- R188, R192: a reply formed after a notice. -/
theorem replyWith_notify_heard (st : Status) (tag : Byte) (payload : List Byte) (x : Notice) (s : State) :
    replyWith st tag payload false (notify x (heard s)) = answered st tag payload (notify x s) := by
  unfold notify
  rw [heard_mask]
  split <;> rfl

/-- R157, R158: where a new entry stands in the waiting list: after every entry of equal or higher priority. -/
theorem insertEntry_append {x : PlayerEntry} {before after : List PlayerEntry}
    (hbefore : ∀ y ∈ before, x.priority ≤ y.priority) (hafter : ∀ y, after.head? = some y → y.priority < x.priority) :
    insertEntry x (before ++ after) = before ++ x :: after
      ∧ insertPosition x (before ++ after) = before.length + 1 := by
  induction before with
  | nil =>
    cases after with
    | nil => exact ⟨rfl, rfl⟩
    | cons y ys => exact ⟨if_pos (hafter y rfl), if_pos (hafter y rfl)⟩
  | cons y ys ih =>
    obtain ⟨hy, hys⟩ := List.forall_mem_cons.mp hbefore
    obtain ⟨hentry, hpos⟩ := ih hys
    simp only [List.cons_append, insertEntry, insertPosition, if_neg (Nat.not_lt.mpr hy), hentry, hpos, List.length_cons]
    exact ⟨trivial, trivial⟩

/-- Settles O52: the refusals in order, and each placement. -/
theorem rumblePlayPlacesTheEntry : Obligations.RumblePlayPlacesTheEntry := by
  rintro tag level p pr n s q x st r rfl h hx hst hr
  have hanswer : ∀ a, answerRumblePlay ⟨tag, level, [p, pr, n]⟩ (heard s) = a →
      exec (.rumblePlay ⟨tag, level, [p, pr, n]⟩) s = .next (a.reply tag) := fun a ha => exec_of_takes h ha
  have hrefusal : playRefusal ⟨tag, level, [p, pr, n]⟩ (heard s) =
      if s.supply.state = .warn then some .power
      else if 15 < p.toNat ∨ 3 < pr.toNat ∨ patternAt s.rumble p.toNat = [] then some .badValue
      else if wouldWait s.rumble pr.toNat ∧ waitingRefuses s.rumble pr.toNat then some .queueFull
      else none := by
    simp only [playRefusal, byte_zero, byte_one, inWarn_heard, inWarn_iff, heard_rumble]
  have hrefused : ∀ status, playRefusal ⟨tag, level, [p, pr, n]⟩ (heard s) = some status →
      exec (.rumblePlay ⟨tag, level, [p, pr, n]⟩) s = .next (answered status tag [] s) :=
    fun status hs => hanswer (refuse status (heard s)) (by rw [answerRumblePlay, hs])
  have hplaced : playRefusal ⟨tag, level, [p, pr, n]⟩ (heard s) = none →
      exec (.rumblePlay ⟨tag, level, [p, pr, n]⟩) s = .next
        (replyWith .ok tag (placementBytes (place x { heard s with rumble := r }).2) false
          (place x { heard s with rumble := r }).1) := by
    intro hs
    refine hanswer (.now (place x { heard s with rumble := r }).1 .ok
      (placementBytes (place x { heard s with rumble := r }).2)) ?_
    rw [answerRumblePlay, hs, hx, hr]
    simp only [byte_zero, byte_one, byte_two]
    rfl
  have hpriority : x.priority = pr.toNat := by rw [hx]
  have hstart : startEntry r x = st := by rw [hst, hx, hr]; rfl
  have hcur : r.current = s.rumble.current := by rw [hr]
  have hwait : r.waiting = s.rumble.waiting := by rw [hr]
  refine ⟨fun h1 => hrefused _ (hrefusal.trans (if_pos h1)), fun h1 h2 => hrefused _
    (hrefusal.trans ((if_neg h1).trans (if_pos h2))), fun h1 h2 h3 h4 => ?_⟩
  have hbad : ¬ (15 < p.toNat ∨ 3 < pr.toNat ∨ patternAt s.rumble p.toNat = []) := by
    rintro (hb | hb | hb)
    · omega
    · omega
    · exact h4 hb
  have haccepts : ¬ (wouldWait s.rumble pr.toNat = true ∧ waitingRefuses s.rumble pr.toNat = true) →
      playRefusal ⟨tag, level, [p, pr, n]⟩ (heard s) = none :=
    fun hno => hrefusal.trans ((if_neg h1).trans ((if_neg hbad).trans (if_neg hno)))
  refine ⟨fun hnone => ?_, fun c hc hlt => ?_, fun c before after hc hle hroom hsplit hbefore hafter => ?_,
    fun c xs y hc hle hfull hxs => ⟨fun hy => ?_, fun before after hy hsplit hbefore hafter => ?_⟩⟩
  · refine (hplaced (haccepts (by simp [wouldWait, hnone]))).trans ?_
    have hplace : place x { heard s with rumble := r }
        = ({ heard s with rumble := { r with current := some st } }, .startedNow) := by
      simp only [place, hcur, hnone, hstart]
      rfl
    rw [hplace]
    rfl
  · refine (hplaced (haccepts (by simp [wouldWait, hc, hlt]))).trans ?_
    have hplace : place x { heard s with rumble := r } = (notify (.rumbleState .preempted)
        { heard s with rumble := { r with current := some st } }, .preempted) := by
      simp only [place, hcur, hc, hstart, hpriority, hlt, if_true]
      rfl
    rw [hplace]
    exact congrArg _ (replyWith_notify_heard .ok tag _ _ { s with rumble := { r with current := some st } })
  · refine (hplaced (haccepts (by simp [waitingRefuses]; omega))).trans ?_
    obtain ⟨hentry, hpos⟩ := insertEntry_append (x := x) (before := before) (after := after)
      (by rwa [hpriority]) (by rwa [hpriority])
    have hplace : place x { heard s with rumble := r } = ({ heard s with rumble := { r with
        waiting := before ++ x :: after } }, .waiting (before.length + 1)) := by
      simp only [place, hcur, hc, hpriority, if_neg (Nat.not_lt.mpr hle), placeWaiting, hwait, hroom, if_true]
      rw [hsplit, hentry, hpos]
      rfl
    rw [hplace]
    rfl
  · refine hrefused _ (hrefusal.trans ((if_neg h1).trans ((if_neg hbad).trans (if_pos ⟨?_, ?_⟩))))
    · simpa [wouldWait, hc] using hle
    · simp [waitingRefuses, hfull, hxs, hy]
  · refine (hplaced (haccepts ?_)).trans ?_
    · simp [waitingRefuses, hfull, hxs, hy]
    · obtain ⟨hentry, hpos⟩ := insertEntry_append (x := x) (before := before) (after := after)
        (by rwa [hpriority]) (by rwa [hpriority])
      have hlen : ¬ s.rumble.waiting.length < 4 := by simp [hfull, hxs]
      have hplace : place x { heard s with rumble := r } = (notify (.rumbleState .displaced) { heard s with rumble := { r with
          waiting := before ++ x :: after } }, .waiting (before.length + 1)) := by
        simp only [place, hcur, hc, hpriority, if_neg (Nat.not_lt.mpr hle), placeWaiting, hwait, if_neg hlen]
        rw [hfull, List.dropLast_concat, hsplit, hentry, hpos]
        rfl
      rw [hplace]
      exact congrArg _ (replyWith_notify_heard .ok tag _ _ { s with rumble := { r with waiting := before ++ x :: after } })

/-! ## The tick -/

/-- R159 step 1, R166: Q after the tick. -/
def heatAfter (r : Rumble) : Nat := if r.heatCount = 15 then heated r.heat r.applied else r.heat

/-- R159 step 1, R167: the limiter after the tick. -/
def limiterAfter (r : Rumble) : Bool :=
  if r.heatCount = 15 then limited (heated r.heat r.applied) r.limiter else r.limiter

/-- R159 step 1: the heat count after the tick. -/
def heatCountAfter (r : Rumble) : Nat := if r.heatCount = 15 then 0 else r.heatCount + 1

section

variable (s : State)

theorem heatStep_rumble : (heatStep s).rumble = { s.rumble with
    heat := heatAfter s.rumble, limiter := limiterAfter s.rumble, heatCount := heatCountAfter s.rumble } := by
  simp only [heatStep, heatAfter, limiterAfter, heatCountAfter]
  split_ifs
  · rw [reportLimiter_rumble]
    rfl
  · rfl

/-- R167: the notice of the limiter's change. -/
theorem heatStep_link : (heatStep s).link = (if limiterAfter s.rumble = s.rumble.limiter then s
    else notify (.rumbleState (if limiterAfter s.rumble then .limitOn else .limitOff)) s).link := by
  simp only [heatStep, limiterAfter, reportLimiter, reportRumble]
  by_cases hcount : s.rumble.heatCount = 15
  · simp only [hcount, if_true, eq_comm (a := s.rumble.limiter)]
    split_ifs
    · rfl
    all_goals exact notify_link_congr (by rfl) _
  · simp only [hcount, if_false, if_true]
    rfl

theorem limiterAfter_of_count {r : Rumble} (h : r.heatCount ≠ 15) : limiterAfter r = r.limiter := if_neg h

/-- R159 step 2: a timer that does not run out. -/
theorem holdStep_of_running {s : State} (h : ∀ n, s.rumble.timer = some n → 1 < n) :
    holdStep s = { s with rumble := { s.rumble with timer := s.rumble.timer.map (· - 1) } } := by
  unfold holdStep
  dsimp only
  split
  · rename_i ht
    have hkept : s.rumble = { s.rumble with timer := s.rumble.timer.map (· - 1) } := by
      rw [ht, Option.map_none, ← ht]
    rw [← hkept]
  · rename_i n ht
    rw [if_pos (h n ht), ht]
    rfl

/-- R159 step 2, R169: a timer that runs out leaves nothing that drives. -/
theorem holdStep_of_expiry {s : State} {n : Nat} (ht : s.rumble.timer = some n) (hn : n ≤ 1) :
    (holdStep s).rumble = { s.rumble with
      timer := none, current := none, follow := none
      waiting := if drives s.rumble then [] else s.rumble.waiting }
    ∧ (holdStep s).link = (if drives s.rumble then notify (.rumbleState .holdExpired) s else s).link := by
  simp only [holdStep, ht, if_neg (Nat.not_lt.mpr hn)]
  by_cases hd : drives s.rumble = true
  · simp only [hd, if_true, reportRumble, notify_rumble]
    exact ⟨rfl, notify_link_congr (by rfl) _⟩
  · have hnothing : s.rumble.current = none ∧ s.rumble.follow = none := by
      simpa [drives] using hd
    simp only [if_neg hd, setRumble, ← hnothing.1, ← hnothing.2, and_self]

/-- R159 steps 3 to 5: the demand, the ceiling and the applied strength. -/
theorem recompute_demandStep_rumble : (recompute (demandStep s)).rumble = { s.rumble with
    lastFollow := followStrength s, lastDemand := max (patternStrength s.rumble) (followStrength s)
    ceiling := ceilingOf s
    applied := appliedFrom (max (patternStrength s.rumble) (followStrength s)) (ceilingOf s) s.rumble.limiter } := rfl

/-- R159 step 6: the player's advance touches the current entry and the waiting list alone. -/
theorem advanceStep_rumble : ∃ c w, (advanceStep s).rumble = { s.rumble with current := c, waiting := w } := by
  unfold advanceStep
  split
  · exact ⟨s.rumble.current, s.rumble.waiting, rfl⟩
  · split
    · exact ⟨_, s.rumble.waiting, rfl⟩
    · simp only [endStep]
      split
      · exact ⟨_, s.rumble.waiting, rfl⟩
      · split
        · rw [reportRumble, notify_rumble]
          simp only [setRumble, startNext]
          split
          · exact ⟨none, s.rumble.waiting, rfl⟩
          · exact ⟨_, _, rfl⟩
        · exact ⟨_, s.rumble.waiting, rfl⟩

theorem advanceStep_of_none {s : State} (h : s.rumble.current = none) : advanceStep s = s := by
  unfold advanceStep
  rw [h]

theorem advanceStep_of_more {s : State} {x : PlayerEntry} (h : s.rumble.current = some x) (hx : 1 < x.ticksLeft) :
    advanceStep s = { s with rumble := { s.rumble with current := some { x with ticksLeft := x.ticksLeft - 1 } } } := by
  unfold advanceStep
  rw [h]
  exact if_pos hx

theorem advanceStep_of_end {s : State} {x : PlayerEntry} (h : s.rumble.current = some x) (hx : x.ticksLeft ≤ 1) :
    advanceStep s = endStep x s := by
  unfold advanceStep
  rw [h]
  exact if_neg (Nat.not_lt.mpr hx)

/-- R159: the state before the player's advance. -/
def driven : State := recompute (demandStep (holdStep (heatStep s)))

theorem tickWork_eq : tickWork s = advanceStep (driven s) := rfl

theorem ceilingOf_holdStep_heatStep : ceilingOf (holdStep (heatStep s)) = ceilingOf s :=
  ceilingOf_congr (by simp) (by simp) (by simp)

theorem followStrength_congr {s t : State} (hfollow : t.rumble.follow = s.rumble.follow) (hvoices : t.voices = s.voices) :
    followStrength t = followStrength s := by
  simp only [followStrength, hfollow, voiceAt, hvoices]

theorem patternStrength_congr {r r' : Rumble} (hcurrent : r'.current = r.current) (hpatterns : r'.patterns = r.patterns) :
    patternStrength r' = patternStrength r := by
  simp only [patternStrength, hcurrent, strengthAt, patternAt, hpatterns]

theorem driven_link : (driven s).link = (holdStep (heatStep s)).link := by simp [driven]

/-- R159: the driver before the player's advance, at a tick at which the hold timer does not run out. -/
theorem driven_of_running {s : State} (h : ∀ n, s.rumble.timer = some n → 1 < n) :
    (driven s).rumble = { s.rumble with
      heat := heatAfter s.rumble, limiter := limiterAfter s.rumble, heatCount := heatCountAfter s.rumble
      timer := s.rumble.timer.map (· - 1)
      lastFollow := followStrength s, lastDemand := max (patternStrength s.rumble) (followStrength s)
      ceiling := ceilingOf s
      applied := appliedFrom (max (patternStrength s.rumble) (followStrength s)) (ceilingOf s) (limiterAfter s.rumble) }
    ∧ (driven s).link = (heatStep s).link := by
  have hheat := heatStep_rumble s
  have hhold : holdStep (heatStep s) = { heatStep s with rumble := { (heatStep s).rumble with
      timer := (heatStep s).rumble.timer.map (· - 1) } } := holdStep_of_running (by rw [hheat]; exact h)
  have hceiling := ceilingOf_holdStep_heatStep s
  have hfollow : followStrength (holdStep (heatStep s)) = followStrength s :=
    followStrength_congr (by rw [hhold, hheat]) (by simp)
  have hpattern : patternStrength (holdStep (heatStep s)).rumble = patternStrength s.rumble :=
    patternStrength_congr (by rw [hhold, hheat]) (by rw [hhold, hheat])
  refine ⟨?_, by rw [driven_link, hhold]⟩
  rw [driven, recompute_demandStep_rumble, hceiling, hfollow, hpattern, hhold, hheat]

/-- R159, R169: the driver before the player's advance, at a tick at which the hold timer runs out. -/
theorem driven_of_expiry {s : State} {n : Nat} (ht : s.rumble.timer = some n) (hn : n ≤ 1) :
    (driven s).rumble = { s.rumble with
      heat := heatAfter s.rumble, limiter := limiterAfter s.rumble, heatCount := heatCountAfter s.rumble
      timer := none, current := none, follow := none
      waiting := if drives s.rumble then [] else s.rumble.waiting
      lastFollow := 0, lastDemand := 0, ceiling := ceilingOf s
      applied := appliedFrom 0 (ceilingOf s) (limiterAfter s.rumble) }
    ∧ (driven s).link = (if drives s.rumble then notify (.rumbleState .holdExpired) (heatStep s) else heatStep s).link := by
  have hheat := heatStep_rumble s
  obtain ⟨hrumble, hlink⟩ := holdStep_of_expiry (s := heatStep s) (by rw [hheat]; exact ht) hn
  have hceiling := ceilingOf_holdStep_heatStep s
  have hdrives : drives (heatStep s).rumble = drives s.rumble := by rw [hheat]; rfl
  have hfollow : followStrength (holdStep (heatStep s)) = 0 := by simp only [followStrength, hrumble]
  have hpattern : patternStrength (holdStep (heatStep s)).rumble = 0 := by simp only [patternStrength, hrumble]
  refine ⟨?_, by rw [driven_link, hlink, hdrives]⟩
  rw [driven, recompute_demandStep_rumble, hceiling, hfollow, hpattern, hrumble, hdrives, hheat]
  rfl

end

/-! ## The tick's notices and advance -/

theorem patternAt_congr {r r' : Rumble} (h : r'.patterns = r.patterns) (p : Nat) : patternAt r' p = patternAt r p := by
  rw [patternAt, patternAt, h]

theorem durationAt_congr {r r' : Rumble} (h : r'.patterns = r.patterns) (p k : Nat) :
    durationAt r' p k = durationAt r p k := by
  rw [durationAt, durationAt, patternAt_congr h]

theorem startNext_of_nil {r : Rumble} (h : r.waiting = []) : startNext r = { r with current := none } := by
  unfold startNext
  rw [h]

theorem startNext_of_cons {r : Rumble} {x : PlayerEntry} {rest : List PlayerEntry} (h : r.waiting = x :: rest) :
    startNext r = { r with current := some (startEntry r x), waiting := rest } := by
  unfold startNext
  rw [h]

/-- R160: what the end of a step makes of the current entry and the waiting list. -/
theorem endStep_spec (s : State) (x : PlayerEntry) :
    (x.stepIndex + 1 < (patternAt s.rumble x.pattern).length →
      (endStep x s).rumble.current = some { x with
        stepIndex := x.stepIndex + 1, ticksLeft := durationAt s.rumble x.pattern (x.stepIndex + 1) })
    ∧ ((patternAt s.rumble x.pattern).length ≤ x.stepIndex + 1 →
      (x.playsLeft ≠ 1 → (endStep x s).rumble.current = some { x with
        playsLeft := x.playsLeft - 1, stepIndex := 0, ticksLeft := durationAt s.rumble x.pattern 0 })
      ∧ (x.playsLeft = 1 → (endStep x s).rumble = startNext s.rumble
        ∧ (endStep x s).link = (notify (.rumbleState .finished) s).link)) := by
  refine ⟨fun h => ?_, fun h => ⟨fun hmore => ?_, fun hlast => ?_⟩⟩
  · rw [endStep, if_pos h]
    rfl
  · rw [endStep, if_neg (Nat.not_lt.mpr h), if_neg hmore]
    rfl
  · rw [endStep, if_neg (Nat.not_lt.mpr h), if_pos hlast, reportRumble, notify_rumble]
    exact ⟨rfl, notify_link_congr (by rfl) _⟩

/-- R164: the ceiling in the rule's own numbers. -/
theorem ceilingOf_eq (s : State) : ceilingOf s = min 255 (((match s.supply.state with
    | .normal => 100 | .low => 45 | .warn => 0 | .start => 0 | .off => 0)
    - ((if s.mixer.output = true ∧ s.supply.state ≠ .off ∧ s.supply.state ≠ .warn then 10 else 0)
      + (if s.save.copy = none then 0 else 15))) * 255 / 75) := by
  have hcopy : copyReported s = true ↔ ¬ s.save.copy = none := by
    rw [copyReported, Option.isSome_iff_ne_none]
  have hout : outputReservation s = true ↔ s.mixer.output = true ∧ s.supply.state ≠ .off ∧ s.supply.state ≠ .warn := by
    simp [outputReservation, slotUp, inWarn, and_assoc]
  simp only [ceilingOf, reservedUnits, hcopy, hout, ite_not]
  cases s.supply.state <;> rfl

/-- R159: the tick's work in a driver that runs, whatever the tick is called. -/
theorem exec_rumbleTick_of_up {s : State} (h : s.supply.state ≠ .off) : exec .rumbleTick s = .next (tickWork s) := by
  simp [exec, execRumbleTick, slotUp, h]

/-- R159: what the player's advance leaves of the tick's work. -/
theorem tickWork_rumble (s : State) : ∃ c w, (tickWork s).rumble
    = { (driven s).rumble with current := c, waiting := w } := advanceStep_rumble (driven s)

theorem tickWork_fields (s : State) : (tickWork s).rumble.heat = heatAfter s.rumble
    ∧ (tickWork s).rumble.limiter = limiterAfter s.rumble ∧ (tickWork s).rumble.heatCount = heatCountAfter s.rumble
    ∧ (tickWork s).rumble.ceiling = ceilingOf s
    ∧ (tickWork s).rumble.applied = appliedFrom (tickWork s).rumble.lastDemand (ceilingOf s) (limiterAfter s.rumble) := by
  obtain ⟨c, w, hwork⟩ := tickWork_rumble s
  by_cases hrun : ∀ n, s.rumble.timer = some n → 1 < n
  · rw [hwork, (driven_of_running hrun).1]
    exact ⟨rfl, rfl, rfl, rfl, rfl⟩
  · simp only [not_forall, Nat.not_lt] at hrun
    obtain ⟨n, ht, hn⟩ := hrun
    rw [hwork, (driven_of_expiry ht hn).1]
    exact ⟨rfl, rfl, rfl, rfl, rfl⟩

theorem heatStep_link_of_count {s : State} (h : s.rumble.heatCount ≠ 15) : (heatStep s).link = s.link := by
  rw [heatStep_link, limiterAfter_of_count h, if_pos rfl]

/-- Settles O53: the tick's names, and its work step by step. -/
theorem ticksDriveTheMotor : Obligations.TicksDriveTheMotor := by
  refine ⟨fun s hoff => ?_, fun s hon => ⟨fun hcount => ?_, fun n ht hn => ?_, fun x hx hleft ht => ?_,
    tickWork s, exec_rumbleTick_of_up hon, ?_, fun hcount => ?_, fun hcount => ?_, ?_, ?_, ?_, ?_, fun n ht hn => ?_,
    fun hrun => ?_⟩⟩
  · have hdown : slotUp s = false := by simp [slotUp, hoff]
    simp [exec, execRumbleTick, execHeatTick, execHoldTimerExpiry, execStepEnd, mdrv, hdown]
  · simp [exec, execRumbleTick, execHeatTick, slotUp, hon, hcount]
  · simp [exec, execRumbleTick, execHoldTimerExpiry, slotUp, hon, holdExpires, ht, hn]
  · have hstays : holdExpires s = false := by
      unfold holdExpires
      split
      · rename_i n hn
        simpa using ht n hn
      · rfl
    simp [exec, execRumbleTick, execStepEnd, slotUp, hon, stepEnds, hx, hleft, hstays]
  · apply State.eq_of_fields <;> simp
  · obtain ⟨hheat, hlimiter, hheatCount, -, -⟩ := tickWork_fields s
    rw [hheat, hlimiter, hheatCount]
    exact ⟨if_neg hcount, if_neg hcount, if_neg hcount⟩
  · obtain ⟨hheat, hlimiter, hheatCount, -, -⟩ := tickWork_fields s
    have hlimited : limiterAfter s.rumble = limited (heatAfter s.rumble) s.rumble.limiter := by
      rw [limiterAfter, heatAfter, if_pos hcount, if_pos hcount]
    rw [hheat, hlimiter, hheatCount, hlimited]
    exact ⟨if_pos hcount, if_pos hcount, fun hoff => by rw [hoff]; rfl, fun hlim => by rw [hlim]; rfl⟩
  · exact (tickWork_fields s).2.2.2.1
  · rintro _ _ rfl rfl
    obtain ⟨-, -, -, hceiling, -⟩ := tickWork_fields s
    refine hceiling.trans ((ceilingOf_eq s).trans ?_)
    cases s.supply.state <;> rfl
  · simp [mdrv, slotUp, hon]
  · obtain ⟨-, hlimiter, -, -, happlied⟩ := tickWork_fields s
    rw [happlied, hlimiter, appliedFrom]
    split_ifs
    · exact Nat.min_comm ..
    · rfl
  · obtain ⟨hrumble, hlink⟩ := driven_of_expiry ht hn
    have hnone : (driven s).rumble.current = none := by rw [hrumble]
    rw [tickWork_eq, advanceStep_of_none hnone, hrumble, hlink]
    have hdrives : (s.rumble.current ≠ none ∨ s.rumble.follow ≠ none) → drives s.rumble = true := by
      simp [drives, Option.isSome_iff_ne_none]
    refine ⟨rfl, rfl, rfl, rfl, fun hd => if_pos (hdrives hd), fun hcount hd => ?_⟩
    rw [if_pos (hdrives hd)]
    exact notify_link_congr (heatStep_link_of_count hcount) _
  · obtain ⟨hrumble, hlink⟩ := driven_of_running hrun
    obtain ⟨c, w, hwork⟩ := tickWork_rumble s
    have hlimiter : (tickWork s).rumble.limiter = limiterAfter s.rumble := (tickWork_fields s).2.1
    have hcurrent : (driven s).rumble.current = s.rumble.current := by rw [hrumble]
    have hwaiting : (driven s).rumble.waiting = s.rumble.waiting := by rw [hrumble]
    have hpatterns : (driven s).rumble.patterns = s.rumble.patterns := by rw [hrumble]
    have hend : ∀ x, s.rumble.current = some x → x.ticksLeft = 1 → tickWork s = endStep x (driven s) :=
      fun x hx hleft => advanceStep_of_end (hcurrent.trans hx) hleft.le
    refine ⟨by rw [hwork, hrumble], by rw [hwork, hrumble], ?_, ?_, fun hnone => ?_, fun x hx hleft => ?_,
      fun x hx hleft hmore => ?_, fun x hx hleft hlast => ⟨fun hplays => ?_, fun hplays => ?_⟩, fun hall => ?_⟩
    · rw [hwork, hrumble]
      rfl
    · rw [hwork, hrumble]
      exact Nat.max_comm (patternStrength s.rumble) (followStrength s)
    · rw [tickWork_eq, advanceStep_of_none (hcurrent.trans hnone)]
      exact ⟨hcurrent.trans hnone, hwaiting⟩
    · rw [tickWork_eq, advanceStep_of_more (hcurrent.trans hx) hleft]
      exact ⟨rfl, hwaiting⟩
    · rw [hend x hx hleft, (endStep_spec (driven s) x).1 (by rwa [patternAt_congr hpatterns]), durationAt_congr hpatterns]
    · rw [hend x hx hleft, ((endStep_spec (driven s) x).2 (by rwa [patternAt_congr hpatterns])).1 hplays,
        durationAt_congr hpatterns]
    · obtain ⟨hnext, hfinished⟩ := ((endStep_spec (driven s) x).2 (by rwa [patternAt_congr hpatterns])).2 hplays
      rw [hend x hx hleft, hnext, hfinished]
      refine ⟨fun hempty => ?_, fun y rest hyrest => ?_, fun hcount => ?_⟩
      · rw [startNext_of_nil (hwaiting.trans hempty)]
        exact ⟨rfl, hwaiting.trans hempty⟩
      · rw [startNext_of_cons (hwaiting.trans hyrest)]
        refine ⟨rfl, ?_⟩
        simp only [startEntry, durationAt_congr hpatterns]
      · exact notify_link_congr (hlink.trans (heatStep_link_of_count hcount)) _
    · rw [hlimiter, tickWork_eq]
      rw [← heatStep_link, ← hlink]
      cases hx : s.rumble.current with
      | none => rw [advanceStep_of_none (hcurrent.trans hx)]
      | some x => rw [advanceStep_of_more (hcurrent.trans hx) (hall x hx)]

end Sys2Proof.Machine
end

section
/-! PROOF. The reporting requests (R19, R43, R92, R111, R139, R172, R177, R196), report by report. -/

namespace Sys2Proof.Machine

section

variable (s : State)

theorem identPayload_eq : identPayload s =
    [0x44#8, 0xFD#8, 0x01#8, BitVec.ofNat 8 (dirResultCode s.dir.result)]
      ++ (if s.dir.result = .loaded then
            [BitVec.ofNat 8 s.dir.count, BitVec.ofNat 8 s.dir.rejected, BitVec.ofNat 8 s.dir.revision]
              ++ leBytes 2 (s.dir.romSize / 1024) ++ leBytes 2 (s.dir.sramSize / 1024)
          else List.replicate 7 0x00#8)
      ++ [BitVec.ofNat 8 s.supply.phase, BitVec.ofNat 8 (retentionCode s.supply.retention),
          BitVec.ofNat 8 (if s.supply.waiting then 1 else 0), BitVec.ofNat 8 (cellCode s.supply.cell)]
      ++ leBytes 2 s.supply.reading := by
  by_cases h : s.dir.result = .loaded
  · simp only [identPayload, ifLoaded, h, if_true]
    rfl
  · simp only [identPayload, ifLoaded, h, if_false]
    rfl

theorem supplyReadPayload_eq : supplyReadPayload s =
    [BitVec.ofNat 8 (supplyCode s.supply.state), BitVec.ofNat 8 (budget s.supply.state),
        BitVec.ofNat 8 s.supply.phase, BitVec.ofNat 8 (retentionCode s.supply.retention),
        BitVec.ofNat 8 (if s.supply.waiting then 1 else 0), BitVec.ofNat 8 (cellCode s.supply.cell)]
      ++ leBytes 2 s.supply.reading
      ++ [if s.supply.measuring then 1#8 else 0#8, if s.supply.checkWaiting then 1#8 else 0#8] := by
  rw [← ofNat_flagCode, ← ofNat_flagCode]
  rfl

/-- R174, R177: the budget's byte. -/
theorem ofNat_budget (st : SupplyState) : BitVec.ofNat 8 (budget st)
    = match st with | .normal => 100#8 | .low => 45#8 | _ => 0#8 := by
  cases st <;> rfl

/-- R43: the byte of a place of the pending queue. -/
def queueByte : Option SlotId → Byte
  | some .title => 0#8
  | some .clock => 1#8
  | none => 0xFF#8

theorem queuePlace_eq (x : Option SlotId) : optField 1 (x.map slotIdCode) = [queueByte x] := by
  match x with
  | none | some .title | some .clock => rfl

/-- R43: the slot that is COPYING. -/
theorem copyingPlace_eq : optField 1 ((copyingSlot s).map slotIdCode)
    = [if s.save.kept.title.state = .copying then 0#8 else if s.save.kept.clock.state = .copying then 1#8 else 0xFF#8] := by
  unfold copyingSlot
  split_ifs <;> rfl

/-- R51: the outcome record's fields. -/
theorem outcomeBytes_eq (o : Option OutcomeRecord) : outcomeBytes o = match o with
    | some r => [BitVec.ofNat 8 r.target, r.tag, BitVec.ofNat 8 (saveOpCode r.op), BitVec.ofNat 8 (saveOutcomeCode r.outcome)]
        ++ optField 4 r.faultOffset
    | none => List.replicate 8 0xFF#8 := by
  cases o <;> rfl

/-- R43: the fields that a FREE title slot leaves out. -/
theorem titleFields_eq (t : Slot) : optField 1 (if t.state = .free then none else some t.target)
      ++ optField 1 (if t.state = .free then none else some t.selector)
      ++ optField 1 (if t.state = .free then none else some t.level)
    = if t.state = .free then List.replicate 3 0xFF#8
      else [BitVec.ofNat 8 t.target, BitVec.ofNat 8 t.selector, BitVec.ofNat 8 t.level] := by
  split_ifs <;> rfl

theorem saveStatusPayload_eq : saveStatusPayload s =
    [BitVec.ofNat 8 (slotStateCode s.save.kept.title.state), if s.save.kept.title.held then 1#8 else 0#8,
        BitVec.ofNat 8 (slotKindCode s.save.kept.title.kind), BitVec.ofNat 8 s.save.kept.title.blocks.length,
        BitVec.ofNat 8 s.save.kept.title.faults]
      ++ (if s.save.kept.title.state = .free then List.replicate 3 0xFF#8
          else [BitVec.ofNat 8 s.save.kept.title.target, BitVec.ofNat 8 s.save.kept.title.selector,
            BitVec.ofNat 8 s.save.kept.title.level])
      ++ [BitVec.ofNat 8 (slotStateCode s.save.kept.clock.state), if s.save.kept.clock.held then 1#8 else 0#8,
          BitVec.ofNat 8 s.save.kept.clock.faults]
      ++ [queueByte s.save.kept.queue[0]?, queueByte s.save.kept.queue[1]?]
      ++ [if s.save.kept.title.state = .copying then 0#8 else if s.save.kept.clock.state = .copying then 1#8 else 0xFF#8]
      ++ outcomeBytes s.save.kept.outcome := by
  rw [← copyingPlace_eq, ← titleFields_eq]
  simp only [saveStatusPayload, queuePlace_eq, leBytes_one, ofNat_flagCode, List.append_assoc, List.cons_append, List.nil_append]

/-- R92: the fields of a VALID clock alone. -/
theorem clockDateBytes_eq (c : Clock) : clockDateBytes c = if c.state = .valid then
      leBytes 2 (dateOf c.day).year ++ [BitVec.ofNat 8 (dateOf c.day).month, BitVec.ofNat 8 (dateOf c.day).day,
        BitVec.ofNat 8 (c.second / 3600), BitVec.ofNat 8 (c.second % 3600 / 60), BitVec.ofNat 8 (c.second % 60),
        BitVec.ofNat 8 ((c.day + 6) % 7)] ++ leBytes 2 (dateOf c.day).dayOfYear
    else List.replicate 10 0xFF#8 := by
  unfold clockDateBytes
  cases c.state <;> rfl

/-- R92, R101: the game day as CLOCK_READ shows it. -/
theorem gameDayShown_eq : gameDayShown s
    = if s.clock.state = .unset ∨ (hasDays s = true ∧ s.days.inService = false) then none
      else some (if turnSecond s ≤ s.clock.second then (s.clock.day : Int) else (s.clock.day : Int) - 1) := by
  have hshown : dayBlockShown s = true ↔ ¬ (hasDays s = true ∧ s.days.inService = false) := by
    unfold dayBlockShown
    cases hasDays s <;> cases s.days.inService <;> decide
  simp only [gameDayShown, hshown, gameDay, gameDayOf]
  cases s.clock.state <;> split_ifs <;> simp_all

theorem clockReadPayload_eq : clockReadPayload s =
    [if s.clock.state = .valid then 0#8 else 1#8] ++ leBytes 2 s.clock.day ++ leBytes 4 s.clock.second
      ++ leBytes 2 s.clock.subsecond ++ clockDateBytes s.clock ++ leInt 2 s.clock.trim
      ++ optSigned 3 (gameDayShown s) ++ optSigned 3 (if s.days.inService then s.days.highDay else none)
      ++ [if s.clock.state = .valid ∧ s.days.inService = true ∧ s.days.behind = true then 1#8 else 0#8] := by
  have hstate : BitVec.ofNat 8 (clockStateCode s.clock.state) = if s.clock.state = .valid then 0#8 else 1#8 := by
    cases s.clock.state <;> rfl
  have hbehind : behindShown s = true ↔ s.clock.state = .valid ∧ s.days.inService = true ∧ s.days.behind = true := by
    simp [behindShown, and_assoc]
  simp only [← hstate, ← hbehind, ← ofNat_flagCode, clockReadPayload, leBytes_one, highDayShown]

theorem counterReadPayload_eq (c : Counter) :
    counterReply c ++ optSigned 3 s.days.highDay ++ leBytes 4 s.days.turnSecond ++ leBytes 1 (flagCode (durable s))
    = [BitVec.ofNat 8 (counterStateCode c.state)] ++ leBytes 2 c.remaining ++ leBytes 2 c.period
      ++ [BitVec.ofNat 8 c.passes] ++ optSigned 3 s.days.highDay ++ leBytes 4 s.days.turnSecond
      ++ [if s.days.dirty = false ∧ s.save.kept.clock.state = .free then 1#8 else 0#8] := by
  have hdurable : durable s = true ↔ s.days.dirty = false ∧ s.save.kept.clock.state = .free := by
    simp [durable]
  simp only [← hdurable, ← ofNat_flagCode, counterReply, leBytes_one]

/-- R139: the buffer fields. -/
theorem bufferBytes_eq (n : Nat) : bufferBytes s n = if (voiceAt s n).format = .pcm8 ∨ (voiceAt s n).format = .pcm16 then
      [BitVec.ofNat 8 (voiceAt s n).run.length, BitVec.ofNat 8 ((voiceAt s n).run.length - (voiceAt s n).runOffset),
        if n ∈ s.port.refills then (if (voiceAt s n).run.length - (voiceAt s n).runOffset < 2 then 1#8 else 0#8) else 0xFF#8]
    else List.replicate 3 0xFF#8 := by
  have hpcm : isPcm (voiceAt s n).format = true ↔ (voiceAt s n).format = .pcm8 ∨ (voiceAt s n).format = .pcm16 := by
    cases (voiceAt s n).format <;> decide
  have hclass : optField 1 (refillClass s n) = [if n ∈ s.port.refills then
      (if (voiceAt s n).run.length - (voiceAt s n).runOffset < 2 then 1#8 else 0#8) else 0xFF#8] := by
    simp only [refillClass, isUrgent, bytesAhead, List.contains_iff_mem]
    split_ifs with hmem hahead
    · simp [optField, hahead]
    · simp [optField, hahead]
    · rfl
  simp only [bufferBytes, hpcm, hclass]
  rfl

theorem voiceReadPayload_eq (n : Nat) : voiceReadPayload s n =
    [BitVec.ofNat 8 (voiceStateCode (voiceAt s n).state), BitVec.ofNat 8 (formatCode (voiceAt s n).format),
        if (voiceAt s n).priming then 1#8 else 0#8]
      ++ windowBytes (voiceAt s n).window
      ++ leBytes 3 (voiceAt s n).startPos ++ leBytes 3 (voiceAt s n).loopStart ++ leBytes 3 (voiceAt s n).endPos
      ++ [if (voiceAt s n).looping then 1#8 else 0#8, BitVec.ofNat 8 (voiceAt s n).duty]
      ++ leBytes 2 (voiceAt s n).rate ++ leBytes 3 (voiceAt s n).index ++ leBytes 2 (voiceAt s n).fraction
      ++ leBytes 2 (voiceAt s n).e ++ leBytes 2 (voiceAt s n).target
      ++ leBytes 2 (voiceAt s n).step ++ leBytes 2 (voiceAt s n).releaseStep
      ++ [BitVec.ofNat 8 (voiceAt s n).volume, BitVec.ofNat 8 (voiceAt s n).pan]
      ++ leBytes 2 (voiceAt s n).noise.toNat ++ leInt 2 (voiceAt s n).last ++ bufferBytes s n := by
  unfold voiceReadPayload
  generalize voiceAt s n = v
  generalize bufferBytes s n = buffer
  simp only [leBytes_one, ofNat_flagCode, List.append_assoc, List.cons_append, List.nil_append]

/-- R172: the reservations that stand, as a set. -/
theorem reservationSet_eq : reservationSet s
    = (if s.mixer.output = true ∧ s.supply.state ≠ .off ∧ s.supply.state ≠ .warn then 1 else 0)
      + if s.save.copy = none then 0 else 2 := by
  have hout : outputReservation s = true ↔ s.mixer.output = true ∧ s.supply.state ≠ .off ∧ s.supply.state ≠ .warn := by
    simp [outputReservation, slotUp, inWarn, and_assoc]
  have hcopy : copyReported s = true ↔ ¬ s.save.copy = none := by
    rw [copyReported, Option.isSome_iff_ne_none]
  simp only [reservationSet, flagCode, hout, hcopy]
  split_ifs <;> simp

theorem rumbleReadPayload_eq : rumbleReadPayload s =
    currentBytes s.rumble.current
      ++ [waitingBytes s.rumble.waiting[0]?, waitingBytes s.rumble.waiting[1]?, waitingBytes s.rumble.waiting[2]?,
          waitingBytes s.rumble.waiting[3]?].flatten
      ++ followBytes s.rumble.follow
      ++ [BitVec.ofNat 8 s.rumble.lastFollow, BitVec.ofNat 8 s.rumble.lastDemand] ++ leBytes 2 s.rumble.heat
      ++ [if s.rumble.limiter then 1#8 else 0#8, BitVec.ofNat 8 (budget s.supply.state), BitVec.ofNat 8 (reservationSet s),
          BitVec.ofNat 8 s.rumble.ceiling, BitVec.ofNat 8 s.rumble.applied]
      ++ leBytes 2 s.rumble.hold ++ optField 3 s.rumble.timer := by
  simp only [rumbleReadPayload, leBytes_one, ofNat_flagCode, List.flatten_cons, List.flatten_nil, List.append_nil,
    List.append_assoc, List.cons_append, List.nil_append]

end

/-! ## REGION_INFO -/

section

variable (s : State) (i : Nat)

/-- R19: the memory byte of an entry. -/
def memoryByte (en : Entry) : Byte := (memoryField s i en).headD 0

theorem memoryField_eq (en : Entry) : memoryField s i en = [memoryByte s i en] := by
  unfold memoryByte memoryField
  split_ifs <;> rfl

theorem memoryByte_spec (en : Entry) :
    (en.kind = kindSample → memoryByte s i en = 0#8)
    ∧ (en.kind = kindSave ∨ en.kind = kindDays → memoryByte s i en = 1#8)
    ∧ (en.kind = kindAlias → en.standing = .accepted →
        memoryByte s i en = if (entryAt s en.target).kind = kindSample then 0#8 else 1#8) := by
  refine ⟨fun h => ?_, fun h => ?_, fun h hacc => ?_⟩
  · rw [memoryByte, memoryField, if_pos h]
    rfl
  · have hsample : ¬ en.kind = kindSample := by rcases h with h | h <;> rw [h] <;> decide
    rw [memoryByte, memoryField, if_neg hsample, if_pos h]
    rfl
  · have hsample : ¬ en.kind = kindSample := by rw [h]; decide
    have hsave : ¬ (en.kind = kindSave ∨ en.kind = kindDays) := by rw [h]; decide
    rw [memoryByte, memoryField, if_neg hsample, if_neg hsave, if_pos ⟨h, hacc⟩, memoryOf, if_neg hsample]
    by_cases htarget : (entryAt s en.target).kind = kindSample
    · rw [if_pos ⟨h, htarget⟩, if_pos htarget]
      rfl
    · rw [if_neg (fun hc => htarget hc.2), if_neg htarget]
      rfl

theorem isAccepted_iff : isAccepted s i = true ↔ i < 24 ∧ (shownEntry s i).standing = .accepted := by
  unfold isAccepted shownEntry
  by_cases h : s.dir.result = .loaded
  · simp [h]
  · simp [h]

theorem shownEntry_of_accepted (h : (shownEntry s i).standing = .accepted) : shownEntry s i = entryAt s i := by
  revert h
  unfold shownEntry
  split_ifs
  · exact fun _ => rfl
  · rintro ⟨⟩

/-- R19: the record fields of the entries that show a record, and of those that show none. -/
theorem recordField_spec (hi : i < 24) :
    (∀ j, (shownEntry s i).standing = .accepted
        ∧ ((((shownEntry s i).kind = kindSave ∨ (shownEntry s i).kind = kindDays) ∧ j = i)
          ∨ ((shownEntry s i).kind = kindAlias ∧ (entryAt s (shownEntry s i).target).kind = kindSave
            ∧ j = (shownEntry s i).target)) →
      recordField s i = [BitVec.ofNat 8 (recordStateCode (recordAt s j).state)] ++ leBytes 4 (recordAt s j).generation
        ++ [BitVec.ofNat 8 (lockCode (recordAt s j).lock)])
    ∧ ((shownEntry s i).standing ≠ .accepted ∨ (shownEntry s i).kind = kindSample
        ∨ ((shownEntry s i).kind = kindAlias ∧ (entryAt s (shownEntry s i).target).kind ≠ kindSave) →
      recordField s i = List.replicate 6 0xFF#8) := by
  have hshow : ∀ j, shownRecord s i = some j → recordField s i
      = [BitVec.ofNat 8 (recordStateCode (recordAt s j).state)] ++ leBytes 4 (recordAt s j).generation
        ++ [BitVec.ofNat 8 (lockCode (recordAt s j).lock)] := by
    intro j hj
    rw [recordField, hj]
    rfl
  have hhide : shownRecord s i = none → recordField s i = List.replicate 6 0xFF#8 := by
    intro hj
    rw [recordField, hj]
    rfl
  constructor
  · rintro j ⟨hacc, hkind⟩
    have haccepted : isAccepted s i = true := (isAccepted_iff s i).mpr ⟨hi, hacc⟩
    rw [shownEntry_of_accepted s i hacc] at hkind
    refine hshow j ?_
    rw [shownRecord, haccepted]
    rcases hkind with ⟨hkind, rfl⟩ | ⟨hkind, htarget, rfl⟩
    · have halias : ¬ (entryAt s j).kind = kindAlias := by rcases hkind with h | h <;> rw [h] <;> decide
      have hsample : ¬ (entryAt s j).kind = kindSample := by rcases hkind with h | h <;> rw [h] <;> decide
      simp [halias, hsample]
    · simp [hkind, resolvedKind, htarget]
  · intro h
    refine hhide ?_
    by_cases hacc : (shownEntry s i).standing = .accepted
    · have haccepted : isAccepted s i = true := (isAccepted_iff s i).mpr ⟨hi, hacc⟩
      rw [shownEntry_of_accepted s i hacc] at h hacc
      rw [shownRecord, haccepted]
      rcases h with h | h | ⟨h, htarget⟩
      · exact absurd hacc h
      · simp [h, kindSample, kindAlias]
      · simp [h, resolvedKind, htarget]
    · have hrefused : isAccepted s i = false := by
        rw [← Bool.not_eq_true, isAccepted_iff]
        exact fun hc => hacc hc.2
      rw [shownRecord, hrefused]
      rfl

theorem rightField_eq (en : Entry) : rightField en = [if en.standing = .accepted ∧ en.kind ≠ kindSample then
    (if en.writeRight then 1#8 else 0#8) else 0xFF#8] := by
  unfold rightField
  split_ifs with h hright
  · simp [optField, hright]
  · simp [optField, hright]
  · rfl

theorem targetField_eq (en : Entry) : optField 1 (if en.kind = kindAlias then some en.target else none)
    = [if en.kind = kindAlias then BitVec.ofNat 8 en.target else 0xFF#8] := by
  split_ifs <;> rfl

theorem regionInfoPayload_eq : regionInfoPayload s i =
    [BitVec.ofNat 8 i, BitVec.ofNat 8 (standingCode (shownEntry s i).standing),
        BitVec.ofNat 8 (reasonCode (shownEntry s i).reason), BitVec.ofNat 8 (shownEntry s i).kind,
        BitVec.ofNat 8 (shownEntry s i).level,
        BitVec.ofNat 8 ((if (shownEntry s i).write then 1 else 0) + if (shownEntry s i).presentFlag then 2 else 0),
        if (shownEntry s i).standing = .accepted ∧ (shownEntry s i).kind ≠ kindSample then
          (if (shownEntry s i).writeRight then 1#8 else 0#8) else 0xFF#8,
        if (shownEntry s i).present then 1#8 else 0#8, memoryByte s i (shownEntry s i)]
      ++ leBytes 4 (shownEntry s i).base ++ leBytes 4 (shownEntry s i).length
      ++ [if (shownEntry s i).kind = kindAlias then BitVec.ofNat 8 (shownEntry s i).target else 0xFF#8]
      ++ recordField s i := by
  have hflags : flagCode (shownEntry s i).write + 2 * flagCode (shownEntry s i).presentFlag
      = (if (shownEntry s i).write then 1 else 0) + if (shownEntry s i).presentFlag then 2 else 0 := by
    cases (shownEntry s i).write <;> cases (shownEntry s i).presentFlag <;> rfl
  simp only [regionInfoPayload, rightField_eq, targetField_eq, memoryField_eq, hflags, leBytes_one, ofNat_flagCode,
    List.append_assoc, List.cons_append, List.nil_append]

end

/-- R111: the refusals of the counter requests that a statement names apart. -/
theorem counterRefusal_eq (tag level b : Byte) (bs : List Byte) (s : State) : counterRefusal ⟨tag, level, b :: bs⟩ (heard s)
    = if hasDays s = false then some .noEntry else if 7 < b.toNat then some .badValue else none := by
  have hdays : hasDays (heard s) = hasDays s := rfl
  simp only [counterRefusal, byte_zero, hdays, Bool.not_eq_true']

/-- Settles O8: each request's report, and its refusals. -/
theorem reportsChangeNothing : Obligations.ReportsChangeNothing := by
  intro tag level b s
  refine ⟨fun h => ?_, ?_, fun h hb => ?_, ?_, ?_, fun h hdays hb => ?_, ?_, fun h hb => ?_, fun h hdays => ?_,
    fun h hdays hb => ?_, ?_, fun h => ?_⟩
  · exact exec_of_takes_now h (congrArg _ (identPayload_eq s))
  · rintro _ rfl h hb
    refine ⟨memoryByte s b.toNat (shownEntry s b.toNat), recordField s b.toNat, exec_of_takes_now h ?_, ?_⟩
    · simp only [ownerOf, answerRegionInfo, byte_zero]
      refine (if_pos (by omega)).trans (congrArg (Answer.now _ _) ?_)
      refine (regionInfoPayload_eq s b.toNat).trans ?_
      rw [ofNat_toNat_byte]
      rfl
    · obtain ⟨hsample, hsave, halias⟩ := memoryByte_spec s b.toNat (shownEntry s b.toNat)
      obtain ⟨hshow, hhide⟩ := recordField_spec s b.toNat (by omega)
      exact ⟨hsample, hsave, halias, hshow, hhide⟩
  · refine exec_of_takes (a := refuse .noEntry (heard s)) h ?_
    simp only [ownerOf, answerRegionInfo, byte_zero]
    exact if_neg (by omega)
  · rintro _ _ rfl rfl h
    refine exec_of_takes_now h (congrArg (Answer.now _ _) ((saveStatusPayload_eq s).trans ?_))
    rw [outcomeBytes_eq]
    rfl
  · rintro _ _ rfl rfl h
    refine exec_of_takes_now h (congrArg (Answer.now _ _) ((clockReadPayload_eq s).trans ?_))
    rw [clockDateBytes_eq, gameDayShown_eq]
  · refine ⟨_, rfl, exec_of_takes_now h ?_⟩
    simp only [ownerOf, answerCounterRead, counterRefusal_eq]
    rw [if_neg (by simp [hdays]), if_neg (by omega), byte_zero]
    exact congrArg (Answer.now _ _) (counterReadPayload_eq s _)
  · rintro _ rfl h hb
    refine exec_of_takes_now h ?_
    simp only [ownerOf, answerVoiceRead, byte_zero]
    refine (if_neg (by omega)).trans (congrArg (Answer.now _ _) ((voiceReadPayload_eq s b.toNat).trans ?_))
    rw [bufferBytes_eq]
    cases (voiceAt s b.toNat).window <;> rfl
  · refine exec_of_takes (a := refuse .badValue (heard s)) h ?_
    simp only [ownerOf, answerVoiceRead, byte_zero]
    exact if_pos hb
  · refine exec_of_takes (a := refuse .noEntry (heard s)) h ?_
    simp only [ownerOf, answerCounterRead, counterRefusal_eq]
    rw [if_pos hdays]
  · refine exec_of_takes (a := refuse .badValue (heard s)) h ?_
    simp only [ownerOf, answerCounterRead, counterRefusal_eq]
    rw [if_neg (by simp [hdays]), if_pos hb]
  · rintro _ rfl h
    refine exec_of_takes_now h (congrArg (Answer.now _ _) ((rumbleReadPayload_eq s).trans ?_))
    rw [ofNat_budget, reservationSet_eq]
    rfl
  · refine exec_of_takes_now h (congrArg (Answer.now _ _) ((supplyReadPayload_eq s).trans ?_))
    cases s.supply.state <;> rfl

end Sys2Proof.Machine
end

section
/-! PROOF. The calendar's requests and ticks (R82 to R91), and the requests on the day counters and the game day (R108
to R114). -/

namespace Sys2Proof.Machine

/-! ## What a catch-up and the fill rest on -/

section

variable {s t : State}

/-- R77, R192: notices do not look at the latch that a frame has emptied. -/
theorem notify_heard (x : Notice) (s : State) : notify x (heard s) = heard (notify x s) := by
  unfold notify
  rw [heard_mask]
  split <;> rfl

theorem reportBehind_heard (before after : Bool) (s : State) :
    reportBehind before after (heard s) = heard (reportBehind before after s) := by
  unfold reportBehind
  split
  · rfl
  · exact notify_heard ..

theorem reportDue_heard (due : BitVec 8) (s : State) : reportDue due (heard s) = heard (reportDue due s) := by
  unfold reportDue
  split
  · rfl
  · exact notify_heard ..

/-- R77, R102: nor does a catch-up. -/
theorem catchUp_heard (s : State) : catchUp (heard s) = heard (catchUp s) := by
  by_cases hserv : s.days.inService = true
  · cases hg : gameDay s with
    | none => rw [catchUp_of_no_game_day (s := heard s) (.inr hg), catchUp_of_no_game_day (.inr hg)]
    | some g =>
      rw [catchUp_of_game_day (s := heard s) hserv hg, catchUp_of_game_day hserv hg, ← reportDue_heard,
        ← reportBehind_heard]
      rfl
  · rw [Bool.not_eq_true] at hserv
    rw [catchUp_of_no_game_day (s := heard s) (.inl hserv), catchUp_of_no_game_day (.inl hserv)]

theorem gameDay_congr (hdays : t.days = s.days) (hclock : t.clock = s.clock) : gameDay t = gameDay s := by
  simp only [gameDay, turnSecond, hdays, hclock]

/-- R102: a catch-up's update follows from the clock and the working copy. -/
theorem catchUp_days_congr (hdays : t.days = s.days) (hclock : t.clock = s.clock) :
    (catchUp t).days = (catchUp s).days := by
  have hgame := gameDay_congr hdays hclock
  by_cases hserv : s.days.inService = true
  · have hserv' : t.days.inService = true := by rw [hdays, hserv]
    cases hg : gameDay s with
    | none => rw [catchUp_of_no_game_day (.inr (hgame.trans hg)), catchUp_of_no_game_day (.inr hg), hdays]
    | some g => rw [catchUp_days hserv' (hgame.trans hg), catchUp_days hserv hg, hdays]
  · rw [Bool.not_eq_true] at hserv
    have hserv' : t.days.inService = false := by rw [hdays, hserv]
    rw [catchUp_of_no_game_day (.inl hserv'), catchUp_of_no_game_day (.inl hserv), hdays]

/-- R103: a catch-up keeps the turn second. -/
theorem catchUp_turnSecond (s : State) : (catchUp s).days.turnSecond = s.days.turnSecond := by
  by_cases hserv : s.days.inService = true
  · cases hg : gameDay s with
    | none => rw [catchUp_of_no_game_day (.inr hg)]
    | some g =>
      rw [catchUp_days hserv hg]
      unfold caughtUp
      split
      · rfl
      · split_ifs <;> rfl
  · rw [Bool.not_eq_true] at hserv
    rw [catchUp_of_no_game_day (.inl hserv)]

theorem daysRegion_congr (hdir : t.dir = s.dir) : daysRegion t = daysRegion s := by
  simp only [daysRegion, isAccepted, entryAt, hdir]

/-- R115: what the fill makes of the working copy. -/
theorem fillClock_days_eq (s : State) : (fillClock s).days = if fillDue s = true ∧ daysRegion s ≠ none then
    { s.days with dirty := false, rebuilt := false } else s.days := by
  by_cases hdue : fillDue s = true
  · cases hregion : daysRegion s with
    | none => rw [fillClock_of_no_region hregion, if_neg (fun hc => hc.2 rfl)]
    | some sel =>
      rw [fillClock_of_due hdue hregion, joinQueue_days, setDays_days, if_pos ⟨hdue, Option.some_ne_none _⟩]
  · rw [Bool.not_eq_true] at hdue
    rw [fillClock_of_not_due hdue, if_neg (by simp [hdue])]

/-- R115: the fill follows from the working copy, the clock slot's state, the supply and the directory. -/
theorem fillClock_days_congr (hdays : t.days = s.days) (hslot : t.save.kept.clock.state = s.save.kept.clock.state)
    (hsupply : t.supply.state = s.supply.state) (hdir : t.dir = s.dir) : (fillClock t).days = (fillClock s).days := by
  have hdue : fillDue t = fillDue s := by simp only [fillDue, inWarn, slotUp, hdays, hslot, hsupply]
  rw [fillClock_days_eq, fillClock_days_eq, hdue, daysRegion_congr hdir, hdays]

theorem settle_days_eq (s : State) : (settle s).days = (fillClock s).days := by simp [settle]

end

/-- R188: the link's records after a reply that follows `settle`. -/
theorem settle_heard_link (st : Status) (tag : Byte) (p : List Byte) (s : State) :
    (replyWith st tag p false (settle (heard s))).link = (answered st tag p s).link := by
  rw [replyWith_link, settle_link]
  rfl

/-! ## CLOCK_SET and CLOCK_TRIM -/

/-- R199: two bytes read as two's complement. -/
theorem signedOf_pair (lo hi : Byte) : signedOf 2 (lo.toNat + 256 * hi.toNat) = (hi ++ lo : BitVec 16).toInt := by
  have hnat : (hi ++ lo : BitVec 16).toNat = lo.toNat + 256 * hi.toNat := by
    rw [BitVec.toNat_append, ← Nat.shiftLeft_add_eq_or_of_lt lo.isLt, Nat.shiftLeft_eq]
    omega
  rw [BitVec.toInt_eq_toNat_cond, hnat, signedOf]
  have hlo := lo.isLt
  have hhi := hi.isLt
  split_ifs <;> omega

theorem tickDue_iff {c : Clock} : tickDue c = true
    ↔ (if c.adjust = 0 then 32 else if c.early = true then 31 else 33) ≤ c.divider := decide_eq_true_iff

theorem restartedDivider_eq (c : Clock) : restartedDivider c =
    if (if c.adjust = 0 then 32 else if c.early = true then 31 else 33) ≤ c.divider then 1 else 0 :=
  if_congr tickDue_iff rfl rfl

/-- Settles the accepted CLOCK_SET of O33, in either form. -/
theorem clockSet_accepted {q : Request} {s : State} {day second : Nat} (h : Takes .clockSet q s)
    (htarget : clockSetTarget q = some (day, second)) : ∃ t, exec (.clockSet q) s = .next t
      ∧ t.clock = { s.clock with
          state := .valid, subsecond := 0, second := second, day := day, adjust := 0
          divider :=
            if (if s.clock.adjust = 0 then 32 else if s.clock.early = true then 31 else 33) ≤ s.clock.divider then 1
            else 0 }
      ∧ t.link = (answered .ok q.tag [] (catchUp (notify (.clockState .set) { s with clock := t.clock }))).link
      ∧ t.days = (fillClock (catchUp { s with clock := t.clock })).days ∧ t.days.turnSecond = s.days.turnSecond
      ∧ t.sram = s.sram ∧ t.save.kept.records = s.save.kept.records ∧ t.save.kept.title.blocks = s.save.kept.title.blocks
      ∧ t.mixer = s.mixer ∧ t.supply = s.supply ∧ t.dir = s.dir := by
  have hset : catchUp (notify (.clockState .set) { heard s with clock := setClock day second s.clock })
      = heard (catchUp (notify (.clockState .set) { s with clock := setClock day second s.clock })) := by
    rw [← catchUp_heard, ← notify_heard]
    rfl
  generalize hu : catchUp (notify (.clockState .set) { s with clock := setClock day second s.clock }) = u at hset
  have hanswer : answerClockSet q (heard s) = .now (settle (heard u)) .ok [] := by
    rw [answerClockSet, htarget, ← hset]
    rfl
  have hclock : u.clock = setClock day second s.clock := by rw [← hu]; simp
  refine ⟨_, exec_of_takes h hanswer, ?_⟩
  have htclock : (Answer.reply q.tag (.now (settle (heard u)) .ok [])).clock = setClock day second s.clock := by
    rw [reply_now, replyWith_clock, settle_clock, heard_clock, hclock]
  rw [htclock, hu]
  obtain ⟨o, st, held, z, htitle, -⟩ := settle_title (heard u)
  have hdays : (settle (heard u)).days = (fillClock (catchUp { s with clock := setClock day second s.clock })).days := by
    rw [settle_days_eq]
    refine fillClock_days_congr ?_ ?_ ?_ ?_
    · rw [heard_days, ← hu]
      exact catchUp_days_congr (by simp) (by simp)
    all_goals simp [← hu]
  refine ⟨by rw [setClock, restartedDivider_eq], settle_heard_link .ok q.tag [] u, hdays, ?_, ?_, ?_, ?_, ?_, ?_, ?_⟩
  · rw [reply_now, replyWith_days, settle_days_turnSecond, heard_days, ← hu, catchUp_turnSecond]
    simp
  · simp [← hu]
  · rw [reply_now, replyWith_save, (settle_records (heard u)).1]
    simp [← hu]
  · rw [reply_now, replyWith_save, htitle]
    simp [← hu]
  all_goals simp [← hu]

theorem clockSet_refused {q : Request} {s : State} (h : Takes .clockSet q s) (htarget : clockSetTarget q = none) :
    exec (.clockSet q) s = .next (answered .badValue q.tag [] s) := by
  refine exec_of_takes (a := refuse .badValue (heard s)) h ?_
  simp only [ownerOf, answerClockSet, htarget]

theorem clampTrim_spec (v : Int) : -127 ≤ clampTrim v ∧ clampTrim v ≤ 127 ∧ (-127 ≤ v → v ≤ 127 → clampTrim v = v)
    ∧ (127 < v → clampTrim v = 127) ∧ (v < -127 → clampTrim v = -127) := by
  unfold clampTrim
  omega

/-- Settles O33: the two forms of CLOCK_SET, and CLOCK_TRIM. -/
theorem clockSetAndTrim : Obligations.ClockSetAndTrim := by
  refine ⟨?_, ?_, fun tag level form p s _ hform h => ?_, fun tag level lo hi s h => ?_⟩
  · rintro tag level d0 d1 s0 s1 s2 s3 x s q rfl h
    have htarget : clockSetTarget ⟨tag, level, [0x00#8, d0, d1, s0, s1, s2, s3, x]⟩
        = if leNat [d0, d1] ≤ 36524 ∧ leNat [s0, s1, s2, s3] ≤ 86399 then
            some (leNat [d0, d1], leNat [s0, s1, s2, s3]) else none := if_pos rfl
    refine ⟨fun hbad => clockSet_refused h (htarget.trans (if_neg (by omega))), fun h1 h2 => ?_⟩
    exact clockSet_accepted h (htarget.trans (if_pos ⟨h1, h2⟩))
  · rintro tag level y0 y1 m dd hh mi ss s q rfl h
    have hfields : Request.byte ⟨tag, level, [0x01#8, y0, y1, m, dd, hh, mi, ss]⟩ 3 = m.toNat
        ∧ Request.byte ⟨tag, level, [0x01#8, y0, y1, m, dd, hh, mi, ss]⟩ 4 = dd.toNat
        ∧ Request.byte ⟨tag, level, [0x01#8, y0, y1, m, dd, hh, mi, ss]⟩ 5 = hh.toNat
        ∧ Request.byte ⟨tag, level, [0x01#8, y0, y1, m, dd, hh, mi, ss]⟩ 6 = mi.toNat
        ∧ Request.byte ⟨tag, level, [0x01#8, y0, y1, m, dd, hh, mi, ss]⟩ 7 = ss.toNat := by
      simp [Request.byte, field, leNat]
    obtain ⟨f3, f4, f5, f6, f7⟩ := hfields
    have hform : Request.byte ⟨tag, level, [0x01#8, y0, y1, m, dd, hh, mi, ss]⟩ 0 = 1 := rfl
    have hyear : Request.word ⟨tag, level, [0x01#8, y0, y1, m, dd, hh, mi, ss]⟩ 1 = leNat [y0, y1] := rfl
    have htarget : clockSetTarget ⟨tag, level, [0x01#8, y0, y1, m, dd, hh, mi, ss]⟩
        = if validDate (leNat [y0, y1]) m.toNat dd.toNat = true ∧ hh.toNat ≤ 23 ∧ mi.toNat ≤ 59 ∧ ss.toNat ≤ 59 then
            some (dayNumberOf (leNat [y0, y1]) m.toNat dd.toNat, hh.toNat * 3600 + mi.toNat * 60 + ss.toNat)
          else none := by
      rw [clockSetTarget, hform, hyear, f3, f4, f5, f6, f7]
      rfl
    refine ⟨fun hbad => clockSet_refused h (htarget.trans (if_neg ?_)), fun h1 h2 h3 h4 => ?_⟩
    · rintro ⟨h1, h2, h3, h4⟩
      rcases hbad with hbad | hbad | hbad | hbad
      · rw [h1] at hbad; cases hbad
      all_goals omega
    · exact clockSet_accepted h (htarget.trans (if_pos ⟨h1, h2, h3, h4⟩))
  · refine clockSet_refused h ?_
    rw [clockSetTarget, byte_zero, if_neg (by omega), if_neg (by omega)]
  · obtain ⟨h1, h2, h3, h4, h5⟩ := clampTrim_spec (hi ++ lo : BitVec 16).toInt
    refine ⟨_, h1, h2, h3, h4, h5, exec_of_takes_reply h ?_⟩
    simp only [ownerOf, answerClockTrim, word_zero, signedOf_pair]
    rfl

/-! ## Ticks -/

theorem takeTick_of_not_due {s : State} (h : tickDue s.clock = false) (named : Bool) : takeTick named s = s := by
  simp [takeTick, h]

theorem takeTick_of_due {s : State} (h : tickDue s.clock = true) (named : Bool) :
    takeTick named s = if named = true then clockTick s else s := by
  simp [takeTick, h]

section

variable {c : Clock}

theorem wrapsSubsecond_iff : wrapsSubsecond c = true ↔ c.state = .valid ∧ 1023 ≤ c.subsecond := by
  simp [wrapsSubsecond]

theorem atEndOfRange_iff : atEndOfRange c = true
    ↔ c.state = .valid ∧ 1023 ≤ c.subsecond ∧ 86399 ≤ c.second ∧ 36524 ≤ c.day := by
  simp [atEndOfRange]

theorem atMinuteBoundary_iff : atMinuteBoundary c = true
    ↔ wrapsSubsecond c = true ∧ atEndOfRange c = false ∧ nextSecond c % 60 = 0 := by
  simp [atMinuteBoundary, and_assoc]

theorem atDayTurn_iff {turn : Nat} : atDayTurn turn c = true
    ↔ wrapsSubsecond c = true ∧ atEndOfRange c = false ∧ nextSecond c = turn := by
  simp [atDayTurn, and_assoc]

/-- R82: a tick that does not wrap the subsecond is nothing else. -/
theorem plain_tick (h : wrapsSubsecond c = false) : atEndOfRange c = false ∧ atMinuteBoundary c = false
    ∧ ∀ turn, atDayTurn turn c = false := by
  have hend : atEndOfRange c = false := by
    rw [← Bool.not_eq_true, atEndOfRange_iff]
    rintro ⟨hv, hsub, -⟩
    rw [wrapsSubsecond_iff.mpr ⟨hv, hsub⟩] at h
    cases h
  refine ⟨hend, ?_, fun turn => ?_⟩
  · simp [atMinuteBoundary, h]
  · simp [atDayTurn, h]

theorem not_wraps_of (h : c.state = .unset ∨ c.subsecond < 1023) : wrapsSubsecond c = false := by
  rw [← Bool.not_eq_true, wrapsSubsecond_iff]
  rintro ⟨hv, hsub⟩
  rcases h with h | h
  · rw [hv] at h; cases h
  · omega

end

theorem mayBeDayTurn_of_plain {s : State} (h : wrapsSubsecond s.clock = false) : mayBeDayTurn s = false := by
  unfold mayBeDayTurn
  split
  · exact (plain_tick h).2.2 _
  · simp [h]

/-- R82: a tick that is no live day turn changes the clock alone. -/
theorem clockTick_of_no_turn {s : State} (hend : atEndOfRange s.clock = false)
    (hturn : atDayTurn (turnSecond s) s.clock = false ∨ turnsLive s = false) :
    clockTick s = { s with clock := tickedClock s.clock } := by
  have hno : ¬ (atDayTurn (turnSecond s) s.clock && turnsLive s) = true := by
    rcases hturn with h | h <;> simp [h]
  rw [clockTick, if_neg (by simp [hend])]
  exact if_neg hno

/-- R83, R85: the clock at a carry. -/
theorem tickedClock_of_carry {c : Clock} (hv : c.state = .valid) (hsub : c.subsecond = 1023) {sec day : Nat}
    (hsec : sec = nextSecond c) (hday : day = if 86399 ≤ c.second then c.day + 1 else c.day)
    (hend : atEndOfRange c = false) : tickedClock c = if sec % 60 = 0 then
      { c with subsecond := 0, second := sec, day := day, adjust := c.trim.natAbs, early := decide (0 < c.trim), divider := 0 }
    else { c with subsecond := 0, second := sec, day := day, adjust := c.adjust - 1, divider := 0 } := by
  have hminute : atMinuteBoundary c = true ↔ sec % 60 = 0 := by
    rw [atMinuteBoundary_iff, hsec]
    exact ⟨fun h => h.2.2, fun h => ⟨wrapsSubsecond_iff.mpr ⟨hv, hsub.ge⟩, hend, h⟩⟩
  simp only [tickedClock, hv, if_neg (show ¬ c.subsecond < 1023 by omega), adjusted, hminute, ← hsec, ← hday]

/-- R84: the end-of-range tick. -/
theorem clockTick_of_end {s : State} (h : atEndOfRange s.clock = true) : clockTick s = endRange s := by
  rw [clockTick, if_pos h]

/-- R86: the end of range, reported or kept. -/
theorem endRange_of_off {s : State} (h : s.supply.state = .off) :
    endRange s = { s with clock := { endedClock s.clock with pendingLimit := true } } := by
  have hdown : ¬ slotUp { s with clock := endedClock s.clock } = true := by simp [slotUp, h]
  exact if_neg hdown

theorem endRange_of_up {s : State} (h : s.supply.state ≠ .off) :
    endRange s = notify (.clockState .limit) { s with clock := endedClock s.clock } := by
  have hup : slotUp { s with clock := endedClock s.clock } = true := by simp [slotUp, h]
  exact if_pos hup

theorem turnsLive_iff {s : State} : turnsLive s = true ↔ s.supply.state ≠ .off ∧ s.supply.phase = 8 := by
  simp [turnsLive, slotUp]

/-- R87: a carry may be a day turn where it reaches the turn second, or that is out of reach (log 7). -/
theorem mayBeDayTurn_of_carry {s : State} {sec : Nat} (hwraps : wrapsSubsecond s.clock = true)
    (hend : atEndOfRange s.clock = false) (hsec : sec = nextSecond s.clock) : mayBeDayTurn s = true
      ↔ sec = turnSecond s ∨ (s.days.inService = false ∧ (s.dir.result = .notYet ∨ hasDays s = true)) := by
  have hknown : turnKnown s = true ↔ ¬ (s.days.inService = false ∧ (s.dir.result = .notYet ∨ hasDays s = true)) := by
    unfold turnKnown
    cases s.days.inService <;> cases hasDays s <;> simp
  by_cases hk : turnKnown s = true
  · rw [mayBeDayTurn, if_pos hk, atDayTurn_iff, ← hsec, or_iff_left (hknown.mp hk)]
    exact ⟨fun h => h.2.2, fun h => ⟨hwraps, hend, h⟩⟩
  · rw [mayBeDayTurn, if_neg hk, hwraps, hend]
    exact iff_of_true rfl (.inr (not_not.mp fun hn => hk (hknown.mpr hn)))

/-- Settles O34: no tick before its frames, a plain tick, a carry, and the end of range. -/
theorem ticksAdvanceTheClock : Obligations.TicksAdvanceTheClock := by
  refine ⟨fun s hwait => ?_, fun s hdue => ?_⟩
  · have hno : tickDue s.clock = false := by
      rw [← Bool.not_eq_true, tickDue_iff]
      exact Nat.not_le.mpr hwait
    simp only [exec, execClockTick, execMinuteBoundary, execEndOfRange, execDayTurn, takeTick_of_not_due hno, and_self]
  have hdue := tickDue_iff.mpr hdue
  have htick : exec .clockTick s = .next (clockTick s) := congrArg _ ((takeTick_of_due hdue true).trans (if_pos rfl))
  have hminute : exec .minuteBoundary s = .next (if atMinuteBoundary s.clock = true then clockTick s else s) :=
    congrArg _ (takeTick_of_due hdue _)
  have hended : exec .endOfRange s = .next (if atEndOfRange s.clock = true then clockTick s else s) :=
    congrArg _ (takeTick_of_due hdue _)
  have hturn : exec .dayTurn s = .next (if mayBeDayTurn s = true then clockTick s else s) :=
    congrArg _ (takeTick_of_due hdue _)
  refine ⟨fun hunset => ?_, fun hv hsub => ?_, fun hplain => ?_, fun sec day hv hsub hsec hday hrange => ?_,
    fun hv hsub hsec hday => ?_⟩
  · obtain ⟨hend, -, hno⟩ := plain_tick (not_wraps_of (c := s.clock) (.inl hunset))
    rw [htick, clockTick_of_no_turn hend (.inl (hno _))]
    simp only [tickedClock, hunset]
  · obtain ⟨hend, hnominute, hno⟩ := plain_tick (not_wraps_of (c := s.clock) (.inr hsub))
    rw [htick, clockTick_of_no_turn hend (.inl (hno _))]
    simp only [tickedClock, hv, hsub, if_true, adjusted, hnominute]
    rfl
  · have hwraps := not_wraps_of hplain
    obtain ⟨hend, hnominute, -⟩ := plain_tick hwraps
    rw [hminute, hended, hturn, hend, hnominute, mayBeDayTurn_of_plain hwraps]
    exact ⟨rfl, rfl, rfl⟩
  · have hwraps : wrapsSubsecond s.clock = true := wrapsSubsecond_iff.mpr ⟨hv, hsub.ge⟩
    have hend : atEndOfRange s.clock = false := by
      rw [← Bool.not_eq_true, atEndOfRange_iff]
      rintro ⟨-, -, h1, h2⟩
      rw [hday, if_neg (by omega)] at hrange
      omega
    have hsec' : sec = nextSecond s.clock := by
      rw [hsec, nextSecond]
      split_ifs <;> omega
    have hday' : day = if 86399 ≤ s.clock.second then s.clock.day + 1 else s.clock.day := by
      rw [hday]
      split_ifs <;> omega
    have hminute' : atMinuteBoundary s.clock = true ↔ sec % 60 = 0 := by
      rw [atMinuteBoundary_iff, ← hsec']
      exact ⟨fun h => h.2.2, fun h => ⟨hwraps, hend, h⟩⟩
    refine ⟨by rw [hended, hend]; rfl, ?_, ?_, fun hno => ?_⟩
    · rw [hminute, htick]
      simp only [hminute', apply_ite Host.Outcome.next]
    · rw [hturn, htick]
      simp only [mayBeDayTurn_of_carry hwraps hend hsec', apply_ite Host.Outcome.next]
    · rw [htick, clockTick_of_no_turn hend ?_, tickedClock_of_carry hv hsub hsec' hday' hend]
      by_cases heq : sec = turnSecond s
      · right
        rw [← Bool.not_eq_true, turnsLive_iff]
        rintro ⟨hup, hphase⟩
        rcases hno with h | h | h
        · exact h heq
        · exact h hphase
        · exact hup h
      · left
        rw [← Bool.not_eq_true, atDayTurn_iff, ← hsec']
        exact fun h => heq h.2.2
  · have hend : atEndOfRange s.clock = true := atEndOfRange_iff.mpr ⟨hv, hsub.ge, hsec.ge, hday.ge⟩
    have hnoturn : mayBeDayTurn s = false := by
      unfold mayBeDayTurn
      split <;> simp [atDayTurn, hend]
    have hnominute : atMinuteBoundary s.clock = false := by simp [atMinuteBoundary, hend]
    rw [htick, hended, hend, hturn, hminute, hnoturn, hnominute, clockTick_of_end hend]
    exact ⟨rfl, rfl, rfl, fun hoff => congrArg _ (endRange_of_off hoff), fun hon => congrArg _ (endRange_of_up hon)⟩

/-! ## The live day turn -/

/-- R44, R50: the clock slot after `settle`, where the fill has no say. -/
theorem settle_clockSlot {s : State} (h : s.save.kept.clock.state ≠ .free) :
    (settle s).save.kept.clock = s.save.kept.clock ∨ (settle s).save.kept.clock = takenSlot .clock false s := by
  have hfill : fillClock s = s := by
    refine fillClock_of_not_due ?_
    rw [← Bool.not_eq_true, fillDue_iff]
    exact fun hdue => h hdue.2.2.1
  rw [settle_save, hfill]
  unfold takeHead
  split
  · split_ifs
    · rename_i id _ _ _ _
      cases id
      · exact .inl (slotAt_startCopy_other .title false s)
      · exact .inr (slotAt_startCopy_same .clock false s)
    · exact .inl rfl
  · exact .inl rfl

/-- R50: the held clock slot, retried. -/
theorem retryClockSlot_clockSlot {s : State} (hpending : s.save.kept.clock.state = .pending)
    (hheld : s.save.kept.clock.held = true) : (retryClockSlot s).save.kept.clock.state = .pending
      ∧ (retryClockSlot s).save.kept.clock.held = false ∧ (retryClockSlot s).save.kept.clock.fullPass = true := by
  have hretry : retryClockSlot s = joinQueue .clock (setSlot .clock { s.save.kept.clock with fullPass := true } s) :=
    if_pos ⟨hpending, hheld⟩
  rw [hretry, joinQueue_clock_eq]
  exact ⟨rfl, rfl, rfl⟩

/-- R50: the retry leaves a clock slot that is not held as it is, and none FREE that was not. -/
theorem retryClockSlot_keeps (s : State) :
    (retryClockSlot s).save.kept.clock.state = s.save.kept.clock.state
      ∧ (retryClockSlot s).save.kept.records = s.save.kept.records := by
  by_cases h : s.save.kept.clock.state = .pending ∧ s.save.kept.clock.held = true
  · refine ⟨(retryClockSlot_clockSlot h.1 h.2).1.trans h.1.symm, ?_⟩
    have hretry : retryClockSlot s = joinQueue .clock (setSlot .clock { s.save.kept.clock with fullPass := true } s) :=
      if_pos h
    rw [hretry, joinQueue_records, setSlot_records]
  · have hretry : retryClockSlot s = s := if_neg h
    rw [hretry]
    exact ⟨rfl, rfl⟩

/-- Settles O35: the carry, and what it is handed to. -/
theorem dayTurnIsHandedOn : Obligations.DayTurnIsHandedOn := by
  intro s hv hsub hphase hon hrange hturn hdue
  have hdue := tickDue_iff.mpr hdue
  have hwraps : wrapsSubsecond s.clock = true := wrapsSubsecond_iff.mpr ⟨hv, hsub.ge⟩
  have hend : atEndOfRange s.clock = false := by
    rw [← Bool.not_eq_true, atEndOfRange_iff]
    omega
  have hsec : turnSecond s = nextSecond s.clock := by
    rw [← hturn, nextSecond]
    split_ifs <;> omega
  have hmay : mayBeDayTurn s = true := (mayBeDayTurn_of_carry hwraps hend hsec).mpr (.inl rfl)
  have hlive : clockTick s = liveDayTurn { s with clock := tickedClock s.clock } := by
    rw [clockTick, if_neg (by simp [hend])]
    exact if_pos (by rw [atDayTurn_iff.mpr ⟨hwraps, hend, hsec.symm⟩, turnsLive_iff.mpr ⟨hon, hphase⟩]; rfl)
  have htick : exec .clockTick s = .next (clockTick s) := congrArg _ ((takeTick_of_due hdue true).trans (if_pos rfl))
  have hturned : exec .dayTurn s = .next (clockTick s) := congrArg _ ((takeTick_of_due hdue _).trans (if_pos hmay))
  generalize hu : ({ s with clock := tickedClock s.clock } : State) = u at hlive
  have hclock : (liveDayTurn u).clock = tickedClock s.clock := by simp [liveDayTurn, ← hu]
  have hticked := tickedClock_of_carry hv hsub hsec rfl hend
  refine ⟨hturned.trans htick.symm, liveDayTurn u, hturned.trans (congrArg _ hlive), ?_⟩
  have hstate : { s with clock := (liveDayTurn u).clock } = u := by rw [hclock, hu]
  rw [hstate]
  refine ⟨?_, ?_, ?_, ?_, ?_, ?_, ?_, ?_, fun hpending hheld => ?_, ?_, ?_, ?_⟩
  · rw [hclock, hticked]
    split <;> exact hv
  · rw [hclock, hticked]
    split <;> rfl
  · rw [hclock, hticked]
    split <;> rfl
  · rw [hclock, hticked]
    split_ifs <;> first | rfl | omega
  · rw [hclock, hticked]
    split <;> rfl
  · rw [liveDayTurn, settle_days_eq]
    refine fillClock_days_congr ?_ ?_ ?_ ?_
    · simp [beginMeasurement]
    · exact (retryClockSlot_keeps (catchUp u)).1
    · simp [beginMeasurement]
    · simp [beginMeasurement]
  · simp [liveDayTurn, beginMeasurement]
  · simp [liveDayTurn, beginMeasurement, ← hu]
  · obtain ⟨hst, hno, hfull⟩ := retryClockSlot_clockSlot (s := catchUp u) (by simpa [← hu] using hpending)
      (by simpa [← hu] using hheld)
    have hbusy : (beginMeasurement (retryClockSlot (catchUp u))).save.kept.clock.state ≠ .free := by
      rw [show (beginMeasurement (retryClockSlot (catchUp u))).save.kept.clock.state = _ from hst]
      decide
    rcases settle_clockSlot hbusy with h | h <;> rw [liveDayTurn, h]
    · exact ⟨hno, hfull⟩
    · exact ⟨rfl, (Bool.or_false _).trans hfull⟩
  · simp [liveDayTurn, beginMeasurement, ← hu]
  · rw [liveDayTurn, (settle_records _).1]
    refine (retryClockSlot_keeps (catchUp u)).2.trans ?_
    simp [← hu]
  · simp [liveDayTurn, beginMeasurement, ← hu]

end Sys2Proof.Machine
end

section
/-! PROOF. The requests on the day counters and the game day (R108 to R114). -/

namespace Sys2Proof.Machine

/-! ## The counter requests -/

/-- R108 to R110: a counter replaced, and the fill that follows. -/
theorem settle_putCounter (i : Nat) (c : Counter) (changed : Bool) (s : State) :
    (settle (putCounter i c changed (heard s))).days.counters = s.days.counters.setIfInBounds i c
    ∧ (settle (putCounter i c changed (heard s))).days = (fillClock { s with days := { s.days with
        counters := (settle (putCounter i c changed (heard s))).days.counters, dirty := s.days.dirty || changed } }).days
    ∧ (settle (putCounter i c changed (heard s))).days.highDay = s.days.highDay
    ∧ (settle (putCounter i c changed (heard s))).days.turnSecond = s.days.turnSecond
    ∧ (settle (putCounter i c changed (heard s))).clock = s.clock
    ∧ (settle (putCounter i c changed (heard s))).sram = s.sram := by
  have hcounters : (settle (putCounter i c changed (heard s))).days.counters = s.days.counters.setIfInBounds i c := by
    rw [settle_days_counters]
    rfl
  refine ⟨hcounters, ?_, ?_, ?_, by simp [putCounter], by simp [putCounter]⟩
  · rw [hcounters, settle_days_eq]
    exact fillClock_days_congr rfl rfl rfl rfl
  · rw [settle_days_highDay]
    rfl
  · rw [settle_days_turnSecond]
    rfl

theorem putCounter_heard (i : Nat) (c : Counter) (changed : Bool) (s : State) :
    putCounter i c changed (heard s) = heard (putCounter i c changed s) := rfl

/-- R188: the reply after a counter was replaced. -/
theorem settle_putCounter_link (i : Nat) (c : Counter) (changed : Bool) (tag : Byte) (p : List Byte) (s : State) :
    (replyWith .ok tag p false (settle (putCounter i c changed (heard s)))).link = (answered .ok tag p s).link :=
  settle_heard_link .ok tag p (putCounter i c changed s)

theorem leBytes_leNat_pair (a b : Byte) : leBytes 2 (leNat [a, b]) = [a, b] := by
  have ha := a.isLt
  rw [leNat_pair, leBytes_two]
  congr 2
  · apply BitVec.eq_of_toNat_eq
    rw [BitVec.toNat_ofNat]
    omega
  · apply BitVec.eq_of_toNat_eq
    have hb := b.isLt
    rw [BitVec.toNat_ofNat]
    omega

/-- R110: an acknowledgement changes a counter with passes, or a DUE one. -/
theorem ackedCounter_ne_iff (c : Counter) : (ackedCounter c != c) = decide (c.passes ≠ 0 ∨ c.state = .due) := by
  obtain ⟨st, remaining, period, passes⟩ := c
  have hpasses : (passes = 0) ↔ ¬ passes ≠ 0 := not_not.symm
  cases st <;> rw [Bool.eq_iff_iff, bne_iff_ne, decide_eq_true_iff] <;>
    simp [ackedCounter, Counter.mk.injEq, eq_comm (a := 0)]

/-- R108 to R110: the counter requests are refused alike. -/
theorem exec_of_counterRefusal {k : Kind} {tag level i : Byte} {bs : List Byte} {s : State}
    (h : Takes k ⟨tag, level, i :: bs⟩ s) (hbad : hasDays s = false ∨ 7 < i.toNat)
    (howner : ∀ st, counterRefusal ⟨tag, level, i :: bs⟩ (heard s) = some st →
      ownerOf k ⟨tag, level, i :: bs⟩ s.link.latch (heard s) = refuse st (heard s)) :
    exec (requestOf k ⟨tag, level, i :: bs⟩) s
      = .next (answered (if hasDays s = true then .badValue else .noEntry) tag [] s) := by
  refine exec_of_takes (a := refuse (if hasDays s = true then .badValue else .noEntry) (heard s)) h (howner _ ?_)
  rw [counterRefusal_eq]
  by_cases hdays : hasDays s = true
  · have hi : 7 < i.toNat := hbad.resolve_left (by simp [hdays])
    simp [hdays, hi]
  · simp [hdays]

/-- Settles O38: the refusals, and the counter each request leaves. -/
theorem counterRequestsChangeTheirCounter : Obligations.CounterRequestsChangeTheirCounter := by
  have harm : ∀ {tag level i r0 r1 p0 p1 : Byte} {s : State}, Takes .counterArm ⟨tag, level, [i, r0, r1, p0, p1]⟩ s →
      (hasDays s = false ∨ 7 < i.toNat) → exec (.counterArm ⟨tag, level, [i, r0, r1, p0, p1]⟩) s
        = .next (answered (if hasDays s = true then .badValue else .noEntry) tag [] s) := fun h hbad =>
    exec_of_counterRefusal h hbad fun st hst => by simp only [ownerOf, answerCounterArm, hst]
  refine ⟨?_, fun tag level i s hbad => ⟨fun h => ?_, fun h => ?_⟩, fun tag level i s hi hdays h => ?_,
    fun tag level i s c hi hdays hc h => ?_⟩
  · rintro tag level i r0 r1 p0 p1 s q rfl h
    refine ⟨fun hdays => ?_, fun hdays hi => ?_, fun hdays hi => ?_⟩
    · simpa [hdays] using harm h (.inl hdays)
    · simpa [hdays] using harm h (.inr hi)
    · have haccepted : counterRefusal ⟨tag, level, [i, r0, r1, p0, p1]⟩ (heard s) = none := by
        rw [counterRefusal_eq, if_neg (by simp [hdays]), if_neg (by omega)]
      obtain ⟨hcounters, hfill, hhigh, hturn, hclock, hsram⟩ := settle_putCounter i.toNat
        (armedCounter (leNat [r0, r1]) (leNat [p0, p1])) true s
      refine ⟨_, clampRemaining (leNat [r0, r1]) (leNat [p0, p1]), exec_of_takes (a := .now (settle (putCounter i.toNat
        (armedCounter (leNat [r0, r1]) (leNat [p0, p1])) true (heard s))) .ok
        (counterReply (armedCounter (leNat [r0, r1]) (leNat [p0, p1])))) h ?_, rfl, hcounters, ?_, ?_, hhigh, hturn, hclock,
        hsram⟩
      · simp only [ownerOf, answerCounterArm, haccepted, byte_zero]
        rfl
      · refine (settle_putCounter_link ..).trans ?_
        rw [counterReply, armedCounter, leBytes_leNat_pair]
        rfl
      · refine hfill.trans ?_
        rw [Bool.or_true]
        rfl
  · exact exec_of_counterRefusal h hbad fun st hst => by simp only [ownerOf, answerCounterDisarm, hst]
  · exact exec_of_counterRefusal h hbad fun st hst => by simp only [ownerOf, answerCounterAck, hst]
  · have haccepted : counterRefusal ⟨tag, level, [i]⟩ (heard s) = none := by
      rw [counterRefusal_eq, if_neg (by simp [hdays]), if_neg (by omega)]
    obtain ⟨hcounters, hfill, hhigh, -, hclock, hsram⟩ := settle_putCounter i.toNat
      { counterOf s.days.counters i.toNat with state := .disarmed }
      (decide ((counterOf s.days.counters i.toNat).state ≠ .disarmed)) s
    refine ⟨_, exec_of_takes (a := .now (settle (putCounter i.toNat
      { counterOf s.days.counters i.toNat with state := .disarmed }
      (decide ((counterOf s.days.counters i.toNat).state ≠ .disarmed)) (heard s))) .ok
      (counterReply (counterOf s.days.counters i.toNat))) h ?_, hcounters,
      ⟨_, rfl, settle_putCounter_link .., hfill⟩, hhigh, hclock, hsram⟩
    have hchanged : ((counterOf s.days.counters i.toNat).state != .disarmed)
        = decide ((counterOf s.days.counters i.toNat).state ≠ .disarmed) := by
      cases (counterOf s.days.counters i.toNat).state <;> rfl
    simp only [ownerOf, answerCounterDisarm, haccepted, byte_zero, counterAt, heard_days, hchanged]
  · subst hc
    have haccepted : counterRefusal ⟨tag, level, [i]⟩ (heard s) = none := by
      rw [counterRefusal_eq, if_neg (by simp [hdays]), if_neg (by omega)]
    obtain ⟨hcounters, hfill, hhigh, -, hclock, hsram⟩ := settle_putCounter i.toNat
      (ackedCounter (counterOf s.days.counters i.toNat))
      (decide ((counterOf s.days.counters i.toNat).passes ≠ 0 ∨ (counterOf s.days.counters i.toNat).state = .due)) s
    refine ⟨_, exec_of_takes (a := .now (settle (putCounter i.toNat (ackedCounter (counterOf s.days.counters i.toNat))
      (decide ((counterOf s.days.counters i.toNat).passes ≠ 0 ∨ (counterOf s.days.counters i.toNat).state = .due))
      (heard s))) .ok [BitVec.ofNat 8 (counterOf s.days.counters i.toNat).passes]) h ?_, hcounters,
      settle_putCounter_link .., hfill, hhigh, hclock, hsram⟩
    simp only [ownerOf, answerCounterAck, haccepted, byte_zero, counterAt, heard_days, ackedCounter_ne_iff, leBytes_one]

/-! ## DAYS_CONFIG and DAY_TEST -/

theorem gameDay_eq (s : State) : gameDay s = if s.clock.state = .unset then none
    else some (if turnSecond s ≤ s.clock.second then (s.clock.day : Int) else (s.clock.day : Int) - 1) := by
  unfold gameDay gameDayOf
  cases s.clock.state <;> rfl

/-- R113: bit `r` of the accept set. -/
theorem accepts_byte (set : Byte) (r : Relation) : accepts set.toNat r = set.getLsbD (relationCode r) := by
  rw [accepts, BitVec.getLsbD, Nat.testBit_eq_decide_div_mod_eq]
  rfl

theorem unordered_heard (x : Nat) (s : State) : unordered x (heard s) = heard (unordered x s) :=
  notify_heard (.dayUnordered x) (setDays { s.days with sticky := true } s)

/-- R188, R192: a reply and a notice before it change the link's records alone. -/
theorem answered_notify (st : Status) (tag : Byte) (p : List Byte) (n : Notice) (s : State) :
    answered st tag p (notify n s) = { s with link := (answered st tag p (notify n s)).link } := by
  unfold notify
  split <;> rfl

/-- R188: what a reply does to the link's records follows from those records alone. -/
theorem answered_link_congr {s t : State} {st : Status} {tag : Byte} {p : List Byte} (h : s.link = t.link) :
    (answered st tag p s).link = (answered st tag p t).link := by
  rw [answered, answered, h]

/-- Settles O39: the new turn second and its catch-up, and the relation of a day to the game day. -/
theorem daysConfigAndDayTest : Obligations.DaysConfigAndDayTest := by
  refine ⟨?_, ?_⟩
  · rintro tag level t0 t1 t2 t3 s q rfl h
    have hquad : Request.quad ⟨tag, level, [t0, t1, t2, t3]⟩ 0 = leNat [t0, t1, t2, t3] := rfl
    have hanswer : ∀ a, answerDaysConfig ⟨tag, level, [t0, t1, t2, t3]⟩ (heard s) = a →
        exec (.daysConfig ⟨tag, level, [t0, t1, t2, t3]⟩) s = .next (a.reply tag) := fun a ha => exec_of_takes h ha
    have hheard : hasDays (heard s) = hasDays s := rfl
    simp only [answerDaysConfig, hquad, hheard, Bool.not_eq_true'] at hanswer
    refine ⟨fun hdays => hanswer (refuse .noEntry (heard s)) (if_pos hdays), fun hdays hbad =>
      hanswer (refuse .badValue (heard s)) ((if_neg (by simp [hdays])).trans (if_pos hbad)), fun hdays hok => ?_⟩
    have hcaught : catchUp (setDays { (heard s).days with turnSecond := leNat [t0, t1, t2, t3], dirty := true } (heard s))
        = heard (catchUp { s with days := { s.days with turnSecond := leNat [t0, t1, t2, t3], dirty := true } }) :=
      catchUp_heard { s with days := { s.days with turnSecond := leNat [t0, t1, t2, t3], dirty := true } }
    generalize hu : catchUp { s with days := { s.days with turnSecond := leNat [t0, t1, t2, t3], dirty := true } } = u
      at hcaught
    rw [hcaught] at hanswer
    refine ⟨_, u, hanswer _ ((if_neg (by simp [hdays])).trans (if_neg (by omega))), rfl, ?_, ?_,
      settle_heard_link .ok tag _ u, ?_, ?_⟩
    · rw [reply_now, replyWith_days, settle_days_turnSecond, heard_days, ← hu, catchUp_turnSecond]
    · rw [reply_now, replyWith_days, settle_days_eq]
      exact fillClock_days_congr rfl rfl rfl rfl
    · simp [← hu]
    · simp [← hu]
  · rintro tag level form x0 x1 a b set strict s q operand g rfl h hoperand hg
    have hfields : Request.byte ⟨tag, level, [form, x0, x1, a, b, set, strict]⟩ 4 = b.toNat
        ∧ Request.byte ⟨tag, level, [form, x0, x1, a, b, set, strict]⟩ 5 = set.toNat
        ∧ Request.byte ⟨tag, level, [form, x0, x1, a, b, set, strict]⟩ 6 = strict.toNat := by
      simp [Request.byte, field, leNat]
    obtain ⟨f4, f5, f6⟩ := hfields
    have hday : dayOperand ⟨tag, level, [form, x0, x1, a, b, set, strict]⟩ = operand := by
      have h0 : form = 0#8 ↔ form.toNat = 0 := byte_eq_ofNat_iff (by decide)
      have h1 : form = 1#8 ↔ form.toNat = 1 := byte_eq_ofNat_iff (by decide)
      rw [hoperand]
      simp only [dayOperand, byte_zero, word_one, byte_three, f4, h0, h1, leNat_pair]
    have hgame : gameDay (heard s) = g := (gameDay_eq s).trans hg.symm
    have hanswer : ∀ x, answerDayTest ⟨tag, level, [form, x0, x1, a, b, set, strict]⟩ (heard s) = x →
        exec (.dayTest ⟨tag, level, [form, x0, x1, a, b, set, strict]⟩) s = .next (x.reply tag) :=
      fun x hx => exec_of_takes h hx
    simp only [answerDayTest, hday, f5, f6, hgame, accepts_byte] at hanswer
    refine ⟨fun hbad => hanswer (refuse .badValue (heard s)) ?_, ?_⟩
    · cases operand with
      | none => rfl
      | some x =>
        by_cases hstrict : 1 < strict.toNat
        · rw [choice_eq_none_iff.mpr hstrict]
        · rw [choice_byte (by omega)]
          exact if_pos ((hbad.resolve_left (Option.some_ne_none x)).resolve_right hstrict)
    · rintro x rfl hset hstrict
      rw [choice_byte hstrict] at hanswer
      refine ⟨fun v hv r hr => ?_, fun hnone hlax => ?_, fun hnone hstrict => ?_⟩
      · subst hv
        have hrel : relationCode (relationOf x (some v)) = r := by
          rw [hr, relationOf]
          split_ifs <;> rfl
        have hun : (relationOf x (some v) == .un) = false := by
          rw [relationOf]
          split_ifs <;> rfl
        refine (hanswer _ ((if_neg (Nat.not_lt.mpr hset)).trans (if_neg (by simp [hun])))).trans ?_
        simp only [hrel, leBytes_one, ofNat_flagCode]
        rfl
      · subst hnone hlax
        refine (hanswer _ ((if_neg (Nat.not_lt.mpr hset)).trans (if_neg (by
          simp)))).trans ?_
        simp only [leBytes_one, ofNat_flagCode]
        rfl
      · subst hnone hstrict
        refine ⟨_, hanswer _ ((if_neg (Nat.not_lt.mpr hset)).trans (if_pos (by
          simp [relationOf]))), ?_, ?_⟩
        · rw [reply_now, unordered_heard]
          exact answered_notify ..
        · rw [reply_now, unordered_heard]
          exact answered_link_congr (s := unordered x s)
            (notify_link_congr (s := setDays { s.days with sticky := true } s) (t := s) rfl (.dayUnordered x))

end Sys2Proof.Machine
end

section
/-! PROOF. The memory port's grants (R21 to R28, R136): which request a grant goes to, and what the grant changes. -/

namespace Sys2Proof.Machine

variable {s : State}

/-! ## The arbiter's choice -/

/-- R24, R25: the lowest-numbered voice with a waiting urgent refill that `ok` admits. -/
theorem lowestUrgent_eq_some_iff {ok : Nat → Bool} {n : Nat} : lowestUrgent s ok = some n ↔
    n < 8 ∧ (n ∈ s.port.refills ∧ bytesAhead (voiceAt s n) < 2 ∧ ok n = true)
      ∧ ∀ m, m < n → ¬ (m ∈ s.port.refills ∧ bytesAhead (voiceAt s m) < 2 ∧ ok m = true) := by
  rw [lowestUrgent, List.find?_range_eq_some]
  simp only [isUrgent, Bool.and_eq_true, List.contains_iff_mem, decide_eq_true_iff, List.mem_range, Bool.not_eq_true',
    ← Bool.not_eq_true, and_assoc]
  tauto

theorem lowestUrgent_eq_none_iff {ok : Nat → Bool} : lowestUrgent s ok = none ↔
    ∀ m, m < 8 → ¬ (m ∈ s.port.refills ∧ bytesAhead (voiceAt s m) < 2 ∧ ok m = true) := by
  rw [lowestUrgent, List.find?_range_eq_none]
  simp only [isUrgent, Bool.and_eq_true, List.contains_iff_mem, decide_eq_true_iff, Bool.not_eq_true',
    ← Bool.not_eq_true, and_assoc]

/-- R25: the first voice after the mark whose ordinary refill waits, where no urgent one does. -/
theorem nextOrdinary_of_first {n k : Nat} (hk : k < 8) (hn : n = (s.port.mark + 1 + k) % 8) (hwaits : n ∈ s.port.refills)
    (hurgent : ∀ m, m < 8 → m ∈ s.port.refills → 2 ≤ bytesAhead (voiceAt s m))
    (hfirst : ∀ j, j < k → (s.port.mark + 1 + j) % 8 ∉ s.port.refills) : nextOrdinary s = some n := by
  have hordinary := hurgent n (by omega) hwaits
  rw [nextOrdinary, List.find?_map, Option.map_eq_some_iff]
  refine ⟨k, List.find?_range_eq_some.mpr ⟨?_, List.mem_range.mpr hk, fun j hj => ?_⟩, hn.symm⟩
  · simpa [← hn, hwaits, isUrgent] using Nat.lt_of_succ_le hordinary
  · simp [hfirst j hj]

theorem nextOrdinary_of_none (h : ∀ n, n < 8 → n ∉ s.port.refills) : nextOrdinary s = none := by
  rw [nextOrdinary, List.find?_map, Option.map_eq_none_iff, List.find?_range_eq_none]
  intro k _
  simp [h ((s.port.mark + 1 + k) % 8) (Nat.mod_lt _ (by omega))]

theorem nextOrdinary_lt {n : Nat} (h : nextOrdinary s = some n) : n < 8 := by
  obtain ⟨k, -, rfl⟩ := List.mem_map.mp (List.mem_of_find?_eq_some h)
  exact Nat.mod_lt _ (by omega)

/-- R28: in WARN a commit step alone is granted. -/
theorem chooseGrant_of_warn (h : inWarn s = true) : chooseGrant s = s.port.commit.map .commit := by
  rw [chooseGrant, if_pos h]

/-- R26: the forced grant. -/
theorem chooseGrant_of_starved (hwarn : inWarn s = false) (hcount : 4 ≤ s.port.starvation) {c : CommitStep}
    (hc : s.port.commit = some c) : chooseGrant s = some (.commit c) := by
  rw [chooseGrant, if_neg (by simp [hwarn]), if_pos ⟨hcount, by simp [hc]⟩, hc]
  rfl

/-- R24: outside WARN and the forced grant, the first of the ranked classes. -/
theorem chooseGrant_of_ranked (hwarn : inWarn s = false) (hcount : s.port.starvation < 4 ∨ s.port.commit = none) :
    chooseGrant s = (rankedGrants s).findSome? id := by
  rw [chooseGrant, if_neg (by simp [hwarn]), if_neg]
  rintro ⟨hge, hsome⟩
  rcases hcount with hlt | hnone
  · omega
  · simp [hnone] at hsome

/-- R22: a refill is granted to one of the eight voices, and outside WARN. -/
theorem lt_of_chooseGrant_refill {n : Nat} (h : chooseGrant s = some (.refill n)) : inWarn s = false ∧ n < 8 := by
  have hcommit : s.port.commit.map Grant.commit ≠ some (.refill n) := by
    cases s.port.commit <;> simp
  unfold chooseGrant at h
  split_ifs at h with hwarn
  · exact absurd h hcommit
  · exact absurd h hcommit
  · refine ⟨by simpa using hwarn, ?_⟩
    obtain ⟨x, hx, hxg⟩ := List.exists_of_findSome?_eq_some h
    obtain rfl : x = some (.refill n) := hxg
    simp only [rankedGrants, List.mem_cons, List.not_mem_nil, or_false] at hx
    rcases hx with hx | hx | hx | hx | hx | hx | hx
    · obtain ⟨m, hm, hmn⟩ := Option.map_eq_some_iff.mp hx.symm
      cases hmn
      exact (lowestUrgent_eq_some_iff.mp hm).1
    · obtain ⟨r, -, hr⟩ := Option.map_eq_some_iff.mp hx.symm
      cases hr
    · obtain ⟨m, hm, hmn⟩ := Option.map_eq_some_iff.mp hx.symm
      cases hmn
      exact (lowestUrgent_eq_some_iff.mp hm).1
    · exact absurd hx.symm hcommit
    · obtain ⟨a, -, ha⟩ := Option.map_eq_some_iff.mp hx.symm
      cases ha
    · obtain ⟨m, hm, hmn⟩ := Option.map_eq_some_iff.mp hx.symm
      cases hmn
      exact nextOrdinary_lt hm
    · obtain ⟨a, -, ha⟩ := Option.map_eq_some_iff.mp hx.symm
      cases ha

/-! ## What a grant changes -/

theorem grant_of_choice {g : Grant} (hfree : s.port.burst = none) (h : chooseGrant s = some g) : grant s = grantTo s g := by
  rw [grant, hfree, h]

/-- R21: none is made while a burst is in progress, or where no request may be granted. -/
theorem grant_of_none (h : s.port.burst ≠ none ∨ chooseGrant s = none) : grant s = s := by
  rcases grant_cases s with hg | ⟨hfree, g, -, hchoice, -⟩
  · exact hg
  · rcases h with h | h
    · exact absurd hfree h
    · cases h.symm.trans hchoice

theorem windowBase_eq (v : Voice) : windowBase v = (v.window.map Prod.fst).getD 0 := by
  unfold windowBase
  cases v.window <;> rfl

theorem sampleBytes_eq (f : Format) : sampleBytes f = if f = .pcm16 then 2 else 1 := by cases f <;> rfl

/-- R136: the bytes granted lie inside the voice's cached window. -/
theorem granted_bytes_inside {n : Nat} (hgrant : chooseGrant s = some (.refill n)) (hvoices : VoicesOk s)
    (hwindows : WindowsOk s) : ∃ b len, (trimRun (voiceAt s n)).window = some (b, len)
      ∧ b ≤ windowBase (trimRun (voiceAt s n)) + fetchPoint (trimRun (voiceAt s n))
      ∧ 1 ≤ min 8 (endBoundary (trimRun (voiceAt s n)) - fetchPoint (trimRun (voiceAt s n)))
      ∧ windowBase (trimRun (voiceAt s n)) + fetchPoint (trimRun (voiceAt s n))
        + min 8 (endBoundary (trimRun (voiceAt s n)) - fetchPoint (trimRun (voiceAt s n))) ≤ b + len := by
  have hsound : SoundOk False True s := soundOk_iff.mpr ⟨hvoices, False.elim, fun _ => hwindows⟩
  obtain ⟨-, hwants⟩ := hsound.2.wants (chooseGrant_refill s n hgrant)
  obtain ⟨hs, -, -, hinside⟩ := (hsound.1.voice n).granted hwants
  have hpcm : isPcm (trimRun (voiceAt s n)).format = true := by
    simp only [wantsRefill, Bool.and_eq_true] at hwants
    simpa using hwants.1.1.1
  obtain ⟨b, len, hwindow, hlo, hsome, hhi⟩ := hinside trivial
  obtain ⟨b', len', hwindow', hend, -⟩ := ((hsound.1.voice n).trimRun (by simpa using hs)).2.2 trivial hpcm
  cases hwindow.symm.trans hwindow'
  exact ⟨b, len, hwindow, hlo, hsome, by omega⟩

/-- Settles O47: the classes one after another, then each grant. -/
theorem grantsFollowTheClasses : Obligations.GrantsFollowTheClasses := by
  intro s
  refine ⟨chooseGrant_of_warn, fun hwarn hcount c hc => chooseGrant_of_starved hwarn hcount hc, fun hwarn hcount => ?_,
    grant_of_none, fun hfree => ⟨fun r h => grant_of_choice hfree h, fun c h => grant_of_choice hfree h,
    fun a h => grant_of_choice hfree h, fun a h => grant_of_choice hfree h, ?_⟩⟩
  · rw [chooseGrant_of_ranked hwarn hcount]
    refine ⟨fun n hn hwaits hahead hpassed hlower => ?_, fun r hr hall => ?_, fun hread hordinary => ?_⟩
    · have hadmitted : lowestUrgent s (fun n => !(s.port.linkRead.isSome && s.port.passed.contains n)) = some n := by
        refine lowestUrgent_eq_some_iff.mpr ⟨hn, ⟨hwaits, hahead, ?_⟩, fun m hm ⟨hmw, hma, hmo⟩ => ?_⟩
        · rcases hpassed with h | h <;> simp [h]
        · obtain ⟨hread, hmem⟩ := hlower m hm hmw hma
          simp [hmem, Option.isSome_iff_ne_none.mpr hread] at hmo
      rw [rankedGrants, hadmitted]
      rfl
    · have hnone : lowestUrgent s (fun n => !(s.port.linkRead.isSome && s.port.passed.contains n)) = none := by
        refine lowestUrgent_eq_none_iff.mpr fun m hm ⟨hmw, hma, hmo⟩ => ?_
        simp [hr, hall m hm hmw hma] at hmo
      rw [rankedGrants, hnone, hr]
      rfl
    · have hnone : ∀ ok, lowestUrgent s ok = none := fun ok =>
        lowestUrgent_eq_none_iff.mpr fun m hm ⟨hmw, hma, _⟩ => by
          have := hordinary m hm hmw
          omega
      refine ⟨fun c hc => ?_, fun hc a ha => ?_, fun hc ha => ⟨fun n k hn hk hnk hwaits hfirst => ?_, fun hidle => ?_⟩⟩
      · simp [rankedGrants, hnone, hread, hc]
      · simp [rankedGrants, hnone, hread, hc, ha]
      · simp [rankedGrants, hnone, hread, hc, ha, nextOrdinary_of_first hk hnk hwaits hordinary hfirst]
      · cases hd : s.port.directory <;> simp [rankedGrants, hnone, hread, hc, ha, nextOrdinary_of_none hidle, hd]
  · rintro n bytes base boundary f v x h rfl hv rfl rfl rfl hf
    obtain ⟨hwarn, hn⟩ := lt_of_chooseGrant_refill h
    obtain rfl : v = trimRun (voiceAt s n) := hv
    have hfetch : f = fetchPoint (trimRun (voiceAt s n)) := by
      rw [hf, fetchPoint, afterRun, endBoundary, sampleBytes_eq, windowBase_eq]
      cases (trimRun (voiceAt s n)).run.getLast? <;> rfl
    rw [hfetch, ← sampleBytes_eq, ← windowBase_eq]
    refine ⟨hn, chooseGrant_refill s n h, (grant_of_choice hfree h).trans ?_, fun hvoices hwindows =>
      granted_bytes_inside h hvoices hwindows⟩
    have hwarn' : ∀ vs p, inWarn { s with voices := vs, port := p } = false := fun _ _ => hwarn
    simp [grantTo, grantRefill, postRefills, hwarn', isUrgent, starvationAfterRefill, bytesAhead, endBoundary, setVoice,
      voiceAt, Option.isSome_iff_ne_none]

end Sys2Proof.Machine
end

section
/-! PROOF. The audio frame (R131 to R133, R138, R141 to R147). -/

namespace Sys2Proof.Machine

variable {s : State} {v : Voice}

/-! ## A voice's sample -/

theorem samplePresent_iff : samplePresent v = true ↔ v.runOffset + sampleBytes v.format ≤ v.run.length :=
  decide_eq_true_iff

theorem runBytes_cons {c : Host.Cell} {n : Nat} (h : v.run[v.runOffset]? = some c) :
    runBytes v (n + 1) = c.2 :: runBytes { v with runOffset := v.runOffset + 1 } n := by
  obtain ⟨hlt, hc⟩ := List.getElem?_eq_some_iff.mp h
  rw [runBytes, List.drop_eq_getElem_cons hlt, hc]
  rfl

theorem signedOf_single (b : Byte) : signedOf 1 (leNat [b]) = b.toInt := by
  have hb := b.isLt
  rw [BitVec.toInt_eq_toNat_cond, signedOf, leNat, leNat]
  split_ifs <;> omega

theorem sampleOf_pcm8 {a : Nat} {b : Byte} (hf : v.format = .pcm8) (h : v.run[v.runOffset]? = some (a, b)) :
    sampleOf v = b.toInt * 256 := by
  obtain ⟨hlt, -⟩ := List.getElem?_eq_some_iff.mp h
  have hpresent : samplePresent v = true := samplePresent_iff.mpr (by rw [hf]; exact hlt)
  have hbytes : runBytes v 1 = [b] := runBytes_cons h
  simp only [sampleOf, hf, hpresent, if_true, hbytes, signedOf_single]

theorem sampleOf_pcm16 {a c : Nat} {lo hi : Byte} (hf : v.format = .pcm16) (hlo : v.run[v.runOffset]? = some (a, lo))
    (hhi : v.run[v.runOffset + 1]? = some (c, hi)) : sampleOf v = (hi ++ lo : BitVec 16).toInt := by
  obtain ⟨hlt, -⟩ := List.getElem?_eq_some_iff.mp hhi
  have hpresent : samplePresent v = true := samplePresent_iff.mpr (by rw [hf]; exact hlt)
  have hbytes : runBytes v 2 = [lo, hi] := by
    rw [runBytes_cons hlo]
    exact congrArg _ (runBytes_cons (v := { v with runOffset := v.runOffset + 1 }) hhi)
  simp only [sampleOf, hf, hpresent, if_true, hbytes, leNat_pair, signedOf_pair]

/-- R133: a voice that starves. -/
theorem starves_iff : starves v = true ↔ v.state ≠ .idle ∧ v.priming = false ∧ (v.format = .pcm8 ∨ v.format = .pcm16)
    ∧ v.run.length < v.runOffset + (if v.format = .pcm16 then 2 else 1) := by
  have hsample : sampleBytes v.format = if v.format = .pcm16 then 2 else 1 := by cases v.format <;> rfl
  have hpcm : isPcm v.format = true ↔ v.format = .pcm8 ∨ v.format = .pcm16 := by cases v.format <;> decide
  rw [starves, Bool.and_eq_true, Bool.and_eq_true, steps_iff, hpcm, Bool.not_eq_true', ← Bool.not_eq_true (samplePresent v),
    samplePresent_iff, hsample, Nat.not_le, and_assoc, and_assoc]

/-- R133: a sample that is not present is the last one. -/
theorem sampleOf_of_starves (h : starves v = true) : sampleOf v = v.last := by
  simp only [starves, Bool.and_eq_true, Bool.not_eq_true'] at h
  obtain ⟨⟨-, hpcm⟩, habsent⟩ := h
  cases hf : v.format with
  | pcm8 | pcm16 => simp [sampleOf, hf, habsent]
  | pulse | noise => simp [isPcm, hf] at hpcm

theorem frameEnds_iff : frameEnds v = true ↔ v.state ≠ .idle ∧ v.priming = false ∧ v.looping = false
    ∧ v.endPos ≤ v.index + (v.fraction + v.rate) / 4096 := by
  rw [frameEnds, Bool.and_eq_true, Bool.and_eq_true, steps_iff, Bool.not_eq_true', decide_eq_true_iff, and_assoc, and_assoc]
  rfl

/-- R132: the shift takes each bit from the next, and the top one from the exclusive or of the two lowest. -/
theorem getLsbD_shiftNoise (r : BitVec 15) : (shiftNoise r).getLsbD 14 = (r.getLsbD 0 ^^ r.getLsbD 1)
    ∧ ∀ i, i < 14 → (shiftNoise r).getLsbD i = r.getLsbD (i + 1) := by
  have hfeedback : ∀ i, (if r.getLsbD 0 != r.getLsbD 1 then 0x4000#15 else 0).getLsbD i
      = ((r.getLsbD 0 ^^ r.getLsbD 1) && decide (i = 14)) := by
    intro i
    have hbit : (0x4000#15).getLsbD i = decide (i = 14) := 
      (BitVec.getLsbD_twoPow (w := 15) 14 i).trans (by simp [eq_comm])
    cases r.getLsbD 0 <;> cases r.getLsbD 1 <;> simp [hbit]
  constructor
  · rw [shiftNoise, BitVec.getLsbD_or, hfeedback]
    simp
  · intro i hi
    rw [shiftNoise, BitVec.getLsbD_or, hfeedback]
    simp [Nat.ne_of_lt hi, Nat.add_comm]

/-! ## A voice's frame work -/

theorem frameVoice_of_still (h : steps v = false) : frameVoice v = v := by simp [frameVoice, h]

theorem frameVoice_of_steps (h1 : v.state ≠ .idle) (h2 : v.priming = false) : frameVoice v = endOrLoop (advanceVoice v) :=
  if_pos ((steps_iff v).mpr ⟨h1, h2⟩)

/-- R131: a step's sample, position, run offset and noise register. -/
theorem advanceVoice_eq (v : Voice) : advanceVoice v = { v with
    last := sampleOf v, index := v.index + (v.fraction + v.rate) / 4096, fraction := (v.fraction + v.rate) % 4096
    runOffset := if v.format = .pcm8 then v.runOffset + (v.fraction + v.rate) / 4096
      else if v.format = .pcm16 then v.runOffset + (v.fraction + v.rate) / 4096 * 2 else v.runOffset
    noise := if v.format = .noise then shiftNoiseBy ((v.fraction + v.rate) / 4096) v.noise else v.noise } := by
  obtain ⟨⟩ := v
  rename_i format _ _ _ _ _ _ _ _ _ _ _ _ _ _ _ _ _ _ _ _
  cases format <;> simp [advanceVoice, samplesAdvanced, isPcm, sampleBytes]

/-! ## The frame -/

/-- R131: the voices before what their frame sets off. -/
theorem soundFrame_eq (s : State) : ∃ u, soundFrame s = settle u ∧ (∀ n, n < 8 → voiceAt u n = frameVoice (voiceAt s n)) :=
  ⟨_, rfl, fun _ hn => voiceAt_ofFn frameVoice hn (by simp)⟩

theorem soundFrame_voiceAt {n : Nat} (hn : n < 8) {x : Voice} (hx : frameVoice (voiceAt s n) = x) :
    AsGranted (voiceAt (soundFrame s) n) x := by
  obtain ⟨u, hu, hv⟩ := soundFrame_eq s
  rw [hu, ← hx, ← hv n hn]
  exact asGranted_settle u n

/-- R131: a voice that is IDLE after its frame has nothing to trim. -/
theorem soundFrame_voiceAt_idle (s : State) {n : Nat} (hn : n < 8) (h : (frameVoice (voiceAt s n)).state = .idle) :
    voiceAt (soundFrame s) n = frameVoice (voiceAt s n) := by
  obtain ⟨u, hu, hv⟩ := soundFrame_eq s
  rw [← hv n hn] at h ⊢
  rw [hu, settle_voiceAt_idle u n h]

theorem soundFrame_mixer (s : State) : (soundFrame s).mixer = mixed s := by simp [soundFrame]

/-- R31: the burst in flight for a voice that ends. -/
theorem soundFrame_burst {n a c : Nat} {z : Bool} (h : s.port.burst = some (.refill n a c z))
    (hends : frameEnds (voiceAt s n) = true) : (soundFrame s).port.burst = some (.refill n a c true) := by
  refine settle_burst_of_some ?_
  rw [reportFrame_port]
  exact staleRefills_burst (s := { s with
    voices := Vector.ofFn (fun i : Fin 8 => frameVoice s.voices[i]), mixer := mixed s }) h hends

theorem reportFlags_link_congr (flags : BitVec 8) {s t : State} (h : t.link = s.link) :
    (reportFlags flags t).link = (reportFlags flags s).link := by
  unfold reportFlags
  split
  · exact h
  · exact notify_link_congr h _

/-- R138, R147: the notices of a frame in which no voice ends. -/
theorem soundFrame_link_of_no_end (h : ∀ n, n < 8 → frameEnds (voiceAt s n) = false) :
    (soundFrame s).link = (reportFlags (frameReport s) s).link := by
  have hends : maskOf (fun n => frameEnds (voiceAt s n)) = 0 := (maskOf_eq_zero _).mpr h
  rw [soundFrame, settle_link, reportFrame, if_neg (fun hand => hand.1 hends)]
  refine reportFlags_link_congr _ ?_
  rw [reportEnds, if_pos hends]
  simp

/-- R138, R147: the notices of a frame that sets no flag of an enabled kind. -/
theorem soundFrame_link_of_no_flag (h : frameReport s = 0) :
    (soundFrame s).link = (reportEnds (fun n => frameEnds (voiceAt s n)) .ended s).link := by
  rw [soundFrame, settle_link, reportFrame, if_neg (fun hand => hand.2 h), reportFlags, if_pos h]
  exact reportEnds_link_congr _ _ (by simp)

/-! ## The mix -/

theorem voiceTerm_eq (v : Voice) : voiceTerm v
    = if v.state = .idle ∨ v.priming = true then 0 else sampleOf v * v.e * v.volume := by
  by_cases hidle : v.state = .idle <;> cases hpriming : v.priming <;>
    simp [voiceTerm, sounding, mixSample, hidle, hpriming]

/-- R145: the byte of the eight flags is a set of indices. -/
theorem packFlags_eq_maskOf (p : Nat → Bool) :
    packFlags (p 0) (p 1) (p 2) (p 3) (p 4) (p 5) (p 6) (p 7) = maskOf p := by
  have hcode : ∀ (b : Bool) (k : Nat), k * flagCode b = if b = true then k else 0 := fun b k => by cases b <;> simp [flagCode]
  have hone : flagCode (p 0) = if p 0 = true then 1 else 0 := by cases p 0 <;> rfl
  simp only [packFlags, maskOf, hcode, hone, List.range_succ, List.range_zero, List.nil_append, List.cons_append, List.map_cons, List.map_nil, List.sum_cons, List.sum_nil, Nat.reducePow]
  congr 1
  omega

theorem getLsbD_packFlags (p : Nat → Bool) (i : Nat) (hi : i < 8) :
    (packFlags (p 0) (p 1) (p 2) (p 3) (p 4) (p 5) (p 6) (p 7)).getLsbD i = p i := by
  rw [packFlags_eq_maskOf, getLsbD_maskOf p i hi]

/-- R145, R146: the conditions of the eight flags, by their bits. -/
def judgedFlag (s : State) : Nat → Bool
  | 0 => clips (stageFive s (leftMaster s))
  | 1 => clips (stageFive s (rightMaster s))
  | 2 => starvesLeft s
  | 3 => starvesRight s
  | 4 => fades (leftMaster s) (stageFive s (leftMaster s))
  | 5 => fades (rightMaster s) (stageFive s (rightMaster s))
  | 6 => isInexact (leftMaster s)
  | _ => isInexact (rightMaster s)

/-- R146: a flag is set when its condition holds, and else kept. -/
theorem getLsbD_mixed_flags (s : State) {i : Nat} (hi : i < 8) :
    (mixed s).flags.getLsbD i = (s.mixer.flags.getLsbD i || judgedFlag s i) := by
  have hjudged : (judgedFlags s).getLsbD i = judgedFlag s i := getLsbD_packFlags (judgedFlag s) i hi
  rw [mixed, BitVec.getLsbD_or, hjudged]

/-- R147: the newly set flags of enabled kinds. -/
theorem frameReport_eq (s : State) :
    frameReport s = (mixed s).flags &&& ~~~s.mixer.flags &&& enabledFlags s.mixer.enables := by
  refine BitVec.eq_of_getLsbD_eq fun i hi => ?_
  simp only [frameReport, reportedFlags, mixed, BitVec.getLsbD_and, BitVec.getLsbD_or, BitVec.getLsbD_not]
  cases s.mixer.flags.getLsbD i <;> simp

theorem starvesLeft_iff : starvesLeft s = true ↔ ∃ n, n < 8 ∧ starves (voiceAt s n) = true ∧ (voiceAt s n).pan < 128 := by
  simp [starvesLeft]

theorem starvesRight_iff : starvesRight s = true ↔ ∃ n, n < 8 ∧ starves (voiceAt s n) = true ∧ 0 < (voiceAt s n).pan := by
  simp [starvesRight]

/-- Settles O50: the voices, the mix, the flags and the notices of a frame. -/
theorem framesStepVoicesAndMix : Obligations.FramesStepVoicesAndMix := by
  refine ⟨fun s hs => ?_, fun s l r hoff hwarn hl hr => ?_, fun v => ?_, fun r k => ?_⟩
  · have hstill : (slotUp s && !inWarn s) = false := by rcases hs with h | h <;> simp [slotUp, inWarn, h]
    simp only [exec, execFrame, hstill]
    rfl
  · have hon : (slotUp s && !inWarn s) = true := by simp [slotUp, inWarn, hoff, hwarn]
    simp only [← voiceTerm_eq] at hl hr
    obtain rfl : l = leftMaster s := hl
    obtain rfl : r = rightMaster s := hr
    have hmixer : (soundFrame (countFrame s)).mixer = mixed s := soundFrame_mixer (countFrame s)
    have hreport : frameReport (countFrame s) = frameReport s := rfl
    refine ⟨soundFrame (countFrame s), by simp only [exec, execFrame, hon, if_true], ?_, ?_⟩
    · simp [soundFrame, countFrame]
    rw [hmixer, ← frameReport_eq]
    refine ⟨rfl, rfl, rfl, getLsbD_mixed_flags s (by decide), getLsbD_mixed_flags s (by decide), ?_, ?_,
      getLsbD_mixed_flags s (by decide), getLsbD_mixed_flags s (by decide), getLsbD_mixed_flags s (by decide),
      getLsbD_mixed_flags s (by decide), ?_, ?_, ?_, ?_, ?_, ?_, ?_, ?_⟩
    · rw [getLsbD_mixed_flags s (by decide), Bool.or_eq_true]
      exact or_congr Iff.rfl starvesLeft_iff
    · rw [getLsbD_mixed_flags s (by decide), Bool.or_eq_true]
      exact or_congr Iff.rfl starvesRight_iff
    · intro n hn hidle
      have hstill : frameVoice (voiceAt s n) = voiceAt s n := frameVoice_of_still (by simp [steps, sounding, hidle])
      refine (soundFrame_voiceAt_idle (countFrame s) hn ?_).trans hstill
      exact (congrArg Voice.state hstill).trans hidle
    · intro n hn hpriming
      have hstill : frameVoice (voiceAt s n) = voiceAt s n := frameVoice_of_still (by simp [steps, hpriming])
      exact soundFrame_voiceAt (s := countFrame s) hn hstill
    · rintro n k v x hn rfl hs hpriming rfl hx
      rw [← advanceVoice_eq] at hx
      subst hx
      have hstep : frameVoice (voiceAt s n) = endOrLoop (advanceVoice (voiceAt s n)) := frameVoice_of_steps hs hpriming
      refine ⟨fun hmore => ?_, fun hend hloop => ?_, fun hend hloop => ?_⟩
      · have hgoes : endOrLoop (advanceVoice (voiceAt s n)) = advanceVoice (voiceAt s n) := if_pos hmore
        exact soundFrame_voiceAt (s := countFrame s) hn (hstep.trans hgoes)
      · have hwraps : endOrLoop (advanceVoice (voiceAt s n)) = { advanceVoice (voiceAt s n) with
            index := wrapIndex (advanceVoice (voiceAt s n)) } := (if_neg (Nat.not_lt.mpr hend)).trans (if_pos hloop)
        exact soundFrame_voiceAt (s := countFrame s) hn (hstep.trans hwraps)
      · have hidle : endOrLoop (advanceVoice (voiceAt s n)) = idleVoice (advanceVoice (voiceAt s n)) :=
          (if_neg (Nat.not_lt.mpr hend)).trans (if_neg (by simp [advanceVoice, hloop]))
        rw [hidle] at hstep
        refine ⟨(soundFrame_voiceAt_idle (countFrame s) hn ?_).trans hstep, fun a c z hburst => ?_⟩
        · exact congrArg Voice.state hstep
        · exact soundFrame_burst (s := countFrame s) hburst (frameEnds_iff.mpr ⟨hs, hpriming, hloop, hend⟩)
    · intro hends
      have hlink := soundFrame_link_of_no_end (s := countFrame s) hends
      rw [hreport] at hlink
      exact hlink.trans (reportFlags_link_congr _ rfl)
    · intro hflags
      refine ⟨maskOf (fun n => frameEnds (voiceAt s n)), fun n hn => getLsbD_maskOf _ n hn, ?_⟩
      exact (soundFrame_link_of_no_flag (hreport.trans hflags)).trans (reportEnds_link_congr _ _ rfl)
    · simp [soundFrame, countFrame]
    · simp [soundFrame, countFrame]
    · simp [soundFrame, countFrame]
  · refine ⟨starves_iff, frameEnds_iff, fun hf => ?_, fun hf => ?_, fun a b hf h => sampleOf_pcm8 hf h,
      fun a b c d hf hlo hhi => sampleOf_pcm16 hf hlo hhi, sampleOf_of_starves⟩
    · simp [sampleOf, hf, generatedLevel]
    · simp only [sampleOf, hf]
      cases v.noise.getLsbD 0 <;> rfl
  · exact ⟨rfl, rfl, getLsbD_shiftNoise r⟩

end Sys2Proof.Machine
end

section
/-! Rules of roll-forward and of what a taken slot leaves: which slot roll-forward takes (R53), the records it closes
(R63), and the outcome record. -/

namespace Sys2Proof.Machine

/-! ## A slot taken (R44, R53) -/

section

variable (id : SlotId) (rolling : Bool) (s : State)

@[simp] theorem takenFrom_records : (takenFrom id rolling s).save.kept.records = s.save.kept.records := by
  simp [takenFrom, setQueue, setKept]

@[simp] theorem takenFrom_outcome : (takenFrom id rolling s).save.kept.outcome = s.save.kept.outcome := by
  simp [takenFrom, setQueue, setKept]

@[simp] theorem takenFrom_dir : (takenFrom id rolling s).dir = s.dir := by
  simp [takenFrom, setQueue, setKept]

@[simp] theorem takenFrom_port : (takenFrom id rolling s).port = s.port := by
  simp [takenFrom, setQueue, setKept]

theorem slotAt_takenFrom_same : slotAt (takenFrom id rolling s) id = takenSlot id rolling s := by
  rw [takenFrom, slotAt_setQueue, slotAt_setSlot_same]

@[simp] theorem startCopy_records : (startCopy id rolling s).save.kept.records = s.save.kept.records := by
  rw [startCopy_eq, beginPart_kept, takenFrom_records]

@[simp] theorem startCopy_outcome : (startCopy id rolling s).save.kept.outcome = s.save.kept.outcome := by
  rw [startCopy_eq, beginPart_kept, takenFrom_outcome]

end

@[simp] theorem takeHead_outcome (s : State) : (takeHead s).save.kept.outcome = s.save.kept.outcome := by
  unfold takeHead
  split
  · split_ifs
    · exact startCopy_outcome ..
    · rfl
  · rfl

@[simp] theorem settle_outcome (s : State) : (settle s).save.kept.outcome = s.save.kept.outcome := by
  obtain ⟨o, c, q, hfill⟩ := fillClock_save s
  rw [settle_save, takeHead_outcome, hfill]

theorem fillClock_queue (s : State) :
    (fillClock s).save.kept.queue = s.save.kept.queue ∨ (fillClock s).save.kept.queue = s.save.kept.queue ++ [.clock] := by
  unfold fillClock
  split
  · split
    · exact .inl rfl
    · rw [joinQueue_clock_eq]
      exact .inr rfl
  · exact .inl rfl

/-- R44: the engine takes no slot that does not wait in the queue. -/
theorem settle_title_of_not_queued {s : State} (h : SlotId.title ∉ s.save.kept.queue) :
    ∃ o, (settle s).save.kept.title = { s.save.kept.title with order := o } := by
  obtain ⟨o, c, q, hfill⟩ := fillClock_save s
  have htitle : (fillClock s).save.kept.title = { s.save.kept.title with order := o } := by rw [hfill]
  have hqueue : SlotId.title ∉ (fillClock s).save.kept.queue := by
    rcases fillClock_queue s with hq | hq <;> rw [hq] <;> simp [h]
  refine ⟨o, ?_⟩
  rw [settle_save, ← htitle, takeHead]
  split
  · rename_i id rest hnone hhead
    split_ifs
    · cases id with
      | title => simp [hhead] at hqueue
      | clock => exact slotAt_startCopy_other .clock false (fillClock s)
    · rfl
  · rfl

/-! ## Roll-forward (R53) -/

theorem rollsForward_iff {sl : Slot} : rollsForward sl = true ↔ ToRoll sl := by simp [rollsForward, ToRoll]

theorem nextToRoll_of_none {s : State} (ht : ¬ ToRoll s.save.kept.title) (hc : ¬ ToRoll s.save.kept.clock) :
    nextToRoll s = none := by
  rw [nextToRoll_eq_none_iff, ← Bool.not_eq_true, ← Bool.not_eq_true, rollsForward_iff, rollsForward_iff]
  exact ⟨ht, hc⟩

/-- R53: the slot taken is one to roll forward. -/
theorem toRoll_of_nextToRoll {s : State} {id : SlotId} (h : nextToRoll s = some id) : ToRoll (slotAt s id) := by
  unfold nextToRoll at h
  refine rollsForward_iff.mp ?_
  cases ht : rollsForward s.save.kept.title <;> cases hc : rollsForward s.save.kept.clock <;> simp only [ht, hc] at h
  · cases h
  · cases h
    exact hc
  · cases h
    exact ht
  · cases id
    · exact ht
    · exact hc

/-- R53: something is left to roll forward. -/
theorem nextToRoll_of_some {s : State} (h : ToRoll s.save.kept.title ∨ ToRoll s.save.kept.clock) :
    ∃ id, nextToRoll s = some id := by
  rw [← Option.ne_none_iff_exists']
  intro hnone
  rw [nextToRoll_eq_none_iff, ← Bool.not_eq_true, ← Bool.not_eq_true, rollsForward_iff, rollsForward_iff] at hnone
  exact not_or.mpr hnone h

/-- R53: the slots are taken in pending order. -/
theorem nextToRoll_of_first {s : State} {id : SlotId} (h : ToRoll (slotAt s id))
    (hfirst : ToRoll (slotAt s (otherSlot id)) → (slotAt s id).order < (slotAt s (otherSlot id)).order) :
    nextToRoll s = some id := by
  have ht := rollsForward_iff (sl := s.save.kept.title)
  have hc := rollsForward_iff (sl := s.save.kept.clock)
  unfold nextToRoll
  cases id with
  | title =>
    have hroll : rollsForward s.save.kept.title = true := ht.mpr h
    by_cases hother : ToRoll s.save.kept.clock
    · have hlt : s.save.kept.title.order < s.save.kept.clock.order := hfirst hother
      simp [hroll, hc.mpr hother, hlt.le]
    · simp [hroll, Bool.not_eq_true _ ▸ (hc.not.mpr hother)]
  | clock =>
    have hroll : rollsForward s.save.kept.clock = true := hc.mpr h
    by_cases hother : ToRoll s.save.kept.title
    · have hlt : s.save.kept.clock.order < s.save.kept.title.order := hfirst hother
      simp [hroll, ht.mpr hother, hlt]
    · simp [hroll, Bool.not_eq_true _ ▸ (ht.not.mpr hother)]

theorem rollOn_of_some {s : State} {id : SlotId} (h : nextToRoll s = some id) : rollOn s = startCopy id true s := by
  rw [rollOn, h]

theorem rollOn_of_none {s : State} (ht : ¬ ToRoll s.save.kept.title) (hc : ¬ ToRoll s.save.kept.clock) :
    rollOn s = passTo 5 (mapRecords closedRecord s) := by
  rw [rollOn, nextToRoll_of_none ht hc]

@[simp] theorem mapRecords_outcome (f : Record → Record) (s : State) :
    (mapRecords f s).save.kept.outcome = s.save.kept.outcome := by
  simp only [mapRecords, setKept]

/-- R51, R53: roll-forward's going on writes no outcome. -/
@[simp] theorem rollOn_outcome (s : State) : (rollOn s).save.kept.outcome = s.save.kept.outcome := by
  unfold rollOn
  split
  · exact startCopy_outcome ..
  · simp

/-! ## Phase 4 begins (R53, R182) -/

theorem discardCollecting_of_collecting {s : State} (h : s.save.kept.title.state = .collecting) :
    discardCollecting s = setOutcome ⟨s.save.kept.title.target, s.save.kept.title.tag, .rollForward, .discarded, none⟩
      (freeSlot .title s) :=
  if_pos h

theorem discardCollecting_of_other {s : State} (h : s.save.kept.title.state ≠ .collecting) : discardCollecting s = s :=
  if_neg h

/-- R53: what the discard of a COLLECTING title slot leaves to roll forward. -/
theorem toRoll_discardCollecting (s : State) :
    (ToRoll (discardCollecting s).save.kept.title ↔ ToRoll s.save.kept.title)
    ∧ (ToRoll (discardCollecting s).save.kept.clock ↔ ToRoll s.save.kept.clock) := by
  by_cases h : s.save.kept.title.state = .collecting
  · have hkept : (discardCollecting s).save.kept = { s.save.kept with
        title := freedSlot s.save.kept.title, clock := firstInOrder s.save.kept.clock
        outcome := (discardCollecting s).save.kept.outcome } := by
      rw [discardCollecting_of_collecting h, setOutcome, setKept]
      simp [freeSlot_title_kept]
    rw [hkept]
    exact ⟨by simp [ToRoll, freedSlot, h], Iff.rfl⟩
  · rw [discardCollecting_of_other h]
    exact ⟨Iff.rfl, Iff.rfl⟩

/-- R53: the title slot's blocks and outcome as phase 4 begins. -/
theorem rollOn_title_of_collecting {s : State} (h : s.save.kept.title.state = .collecting) :
    (rollOn (discardCollecting s)).save.kept.title = freedSlot s.save.kept.title
    ∧ (rollOn (discardCollecting s)).save.kept.outcome
      = some ⟨s.save.kept.title.target, s.save.kept.title.tag, .rollForward, .discarded, none⟩
    ∧ (SlotId.title ∉ s.save.kept.queue → SlotId.title ∉ (rollOn (discardCollecting s)).save.kept.queue) := by
  have hfree : (discardCollecting s).save.kept.title = freedSlot s.save.kept.title := by
    rw [discardCollecting_of_collecting h, ← slotAt_title, slotAt_setOutcome, slotAt_freeSlot_same]
    rfl
  have hqueue : (discardCollecting s).save.kept.queue = s.save.kept.queue := by
    rw [discardCollecting_of_collecting h]
    exact freeSlot_queue .title s
  have hstill : ¬ ToRoll (slotAt (discardCollecting s) .title) := by
    rw [slotAt_title, hfree]
    simp [ToRoll, freedSlot]
  refine ⟨?_, ?_, fun hout => ?_⟩
  · rw [← hfree, ← slotAt_title, ← slotAt_title]
    unfold rollOn
    split
    · rename_i id hid
      cases id with
      | title => exact absurd (toRoll_of_nextToRoll hid) hstill
      | clock => exact slotAt_startCopy_other .clock true _
    · exact (congrFun (slotAt_congr (s := mapRecords closedRecord (discardCollecting s)) (passTo_save 5 _ ▸ rfl))
        .title).trans (slotAt_mapRecords ..)
  · rw [rollOn_outcome, discardCollecting_of_collecting h]
    rfl
  · rw [← hqueue] at hout
    unfold rollOn
    split
    · simp [hout]
    · simpa using hout

/-- R53, R182: phase 4 as it begins with the end of the directory load. -/
theorem phase4Begun_settle {s t u : State} (hsave : u.save = s.save)
    (hsupply : u.supply = { s.supply with phase := 4, waiting := false })
    (ht : t = settle (rollOn (discardCollecting u))) : phase4Begun s t := by
  subst ht
  obtain ⟨htitle, hclock⟩ := toRoll_discardCollecting u
  rw [hsave] at htitle hclock
  refine ⟨fun hcollecting => ?_, fun hother => ?_, fun hroll => ?_, fun hnt hnc => ?_⟩
  · rw [← hsave] at hcollecting
    obtain ⟨hfreed, houtcome, hqueue⟩ := rollOn_title_of_collecting hcollecting
    obtain ⟨o, st, held, z, hsettled, hst⟩ := settle_title (rollOn (discardCollecting u))
    refine ⟨by rw [hsettled, hfreed]; rfl, fun hout => ?_, by rw [settle_outcome, houtcome, hsave]⟩
    rw [← hsave] at hout
    obtain ⟨o, htitle⟩ := settle_title_of_not_queued (hqueue hout)
    rw [htitle, hfreed]
    rfl
  · rw [← hsave] at hother
    rw [settle_outcome, rollOn_outcome, discardCollecting_of_other hother, hsave]
  · obtain ⟨id, hid⟩ := nextToRoll_of_some (s := discardCollecting u) (by rwa [htitle, hclock])
    rw [rollOn_of_some hid]
    obtain ⟨c, hc, -, -⟩ := startCopy_copy id true (discardCollecting u)
    have hcopy : (startCopy id true (discardCollecting u)).save.copy ≠ none := by simp [hc]
    refine ⟨by simp [hsupply], ?_⟩
    rw [(settle_of_copy hcopy).1]
    exact hcopy
  · rw [rollOn_of_none (htitle.not.mpr hnt) (hclock.not.mpr hnc)]
    simp [hsupply, passTo_supply, inWarn]

end Sys2Proof.Machine
end

section
/-! PROOF. The directory load (R1 to R8, R201, R53, R182). -/

namespace Sys2Proof.Machine

/-! ## The bytes of a burst -/

theorem field_one (h : List Byte) (i : Nat) : field h i 1 = (h.getD i 0).toNat := by
  rw [field, List.getD_eq_getElem?_getD, ← List.head?_drop]
  cases h.drop i <;> simp [leNat]

theorem flagBit_zero (b : Byte) : (b.toNat % 2 == 1) = b.getLsbD 0 := by
  rw [BitVec.getLsbD, Nat.testBit_eq_decide_div_mod_eq, pow_zero, Nat.div_one]
  rfl

theorem flagBit_one (b : Byte) : (b.toNat / 2 % 2 == 1) = b.getLsbD 1 := by
  rw [BitVec.getLsbD, Nat.testBit_eq_decide_div_mod_eq, pow_one]
  rfl

theorem headerAccepted_iff (h : List Byte) : headerAccepted h = true ↔ h.take 4 = [0x43#8, 0x52#8, 0x54#8, 0x44#8]
    ∧ 1 ≤ (h.getD 4 0).toNat ∧ (h.getD 4 0).toNat ≤ 24 ∧ (h.getD 6 0).toNat ≤ 8 ∧ (h.getD 7 0).toNat ≤ 3
    ∧ h.getD 15 0 = crc8 (h.take 15) := by
  simp only [headerAccepted, Bool.and_eq_true, beq_iff_eq, decide_eq_true_iff, field_one, BitVec.toNat_inj, and_assoc]
  rfl

theorem loadedEntry_eq (h : List Byte) : loadedEntry h =
    { kind := (h.getD 0 0).toNat, level := (h.getD 1 0).toNat, write := (h.getD 2 0).getLsbD 0
      presentFlag := (h.getD 2 0).getLsbD 1, target := (h.getD 3 0).toNat, base := leNat ((h.drop 4).take 4)
      length := leNat ((h.drop 8).take 4) } := by
  simp only [loadedEntry, field_one, flagBit_zero, flagBit_one]
  rfl

/-- R2: a refused header ends the load ABSENT where its signature is all 00h or all FFh. -/
theorem refusedHeaderResult_eq (h : List Byte) : (refusedHeaderResult h = .absent
      ↔ (∀ b ∈ h.take 4, b = 0x00#8) ∨ (∀ b ∈ h.take 4, b = 0xFF#8))
    ∧ (refusedHeaderResult h = .absent ∨ refusedHeaderResult h = .badHeader) := by
  have hcond : ((h.take 4).all (· == 0x00#8) || (h.take 4).all (· == 0xFF#8)) = true
      ↔ (∀ b ∈ h.take 4, b = 0x00#8) ∨ (∀ b ∈ h.take 4, b = 0xFF#8) := by
    simp only [Bool.or_eq_true, List.all_eq_true, beq_iff_eq]
  rw [← hcond, refusedHeaderResult]
  split_ifs with hall
  · exact ⟨by simp [hall], .inl rfl⟩
  · exact ⟨by simp [hall], .inr rfl⟩

/-! ## The entries' checks -/

theorem overlapsEarlier_iff (s : State) (i : Nat) (en : Entry) : overlapsEarlier s i en = true
    ↔ ∃ j, j < i ∧ (entryAt s j).standing = .accepted ∧ ((entryAt s j).kind = kindSave ∨ (entryAt s j).kind = kindDays)
      ∧ en.base < (entryAt s j).base + (entryAt s j).length ∧ (entryAt s j).base < en.base + en.length := by
  simp only [overlapsEarlier, List.any_eq_true, List.mem_range, windowsShare, Bool.and_eq_true, Bool.or_eq_true,
    beq_iff_eq, decide_eq_true_iff, and_assoc]

theorem secondDays_iff (s : State) (i : Nat) :
    (List.range i).any (fun j => (entryAt s j).kind == kindDays) = true ↔ ∃ j, j < i ∧ (entryAt s j).kind = kindDays := by
  simp only [List.any_eq_true, List.mem_range, beq_iff_eq]

/-- R3 to R6: the checks in order, of an entry as loaded. -/
theorem checkEntry_eq (s : State) (i : Nat) {en : Entry} (hright : en.writeRight = false) : checkEntry s i en =
    if en.kind = 0 then en
    else if 4 < en.kind then { en with standing := .rejected, reason := .badKind }
    else if 2 < en.level then { en with standing := .rejected, reason := .badLevel }
    else if en.kind = 1 then
      (if en.length = 0 then { en with standing := .rejected, reason := .zeroLength }
      else if en.write = true then { en with standing := .rejected, reason := .writeOnSample }
      else if s.dir.romSize < en.base + en.length then { en with standing := .rejected, reason := .outsideMemory }
      else { en with standing := .accepted })
    else if en.kind = 2 then
      (if en.length = 0 then { en with standing := .rejected, reason := .zeroLength }
      else if en.base % 64 ≠ 0 ∨ en.length % 64 ≠ 0 then { en with standing := .rejected, reason := .misaligned }
      else if s.dir.sramSize < en.base + en.length then { en with standing := .rejected, reason := .outsideMemory }
      else if overlapsEarlier s i en = true then { en with standing := .rejected, reason := .overlap }
      else { en with standing := .accepted, writeRight := en.write })
    else if en.kind = 3 then
      (if (List.range i).any (fun j => (entryAt s j).kind == kindDays) = true then
        { en with standing := .rejected, reason := .secondDays }
      else if en.length ≠ 64 then { en with standing := .rejected, reason := .wrongSize }
      else if en.base % 64 ≠ 0 then { en with standing := .rejected, reason := .misaligned }
      else if s.dir.sramSize < en.base + en.length then { en with standing := .rejected, reason := .outsideMemory }
      else if overlapsEarlier s i en = true then { en with standing := .rejected, reason := .overlap }
      else { en with standing := .accepted })
    else en := by
  have haccept : acceptEntry false en = { en with standing := .accepted } := by rw [acceptEntry, ← hright]
  simp only [checkEntry, checkSample, checkSave, checkDays, haccept, rejectEntry]
  refine ite_congr rfl (fun _ => rfl) fun _ => ite_congr rfl (fun _ => rfl) fun _ => ite_congr rfl (fun _ => rfl)
    fun _ => ite_congr rfl (fun _ => rfl) fun _ => ite_congr rfl (fun _ => rfl) fun _ =>
    ite_congr rfl (fun _ => ?_) fun _ => rfl
  refine ite_congr rfl (fun _ => rfl) fun _ => ite_congr rfl (fun _ => rfl) fun hlen => ?_
  rw [not_not.mp hlen]

/-- R7: an ALIAS entry against its target. -/
theorem checkAlias_eq (s : State) (en : Entry) : checkAlias s en =
    if 23 < en.target ∨ (entryAt s en.target).standing ≠ .accepted
        ∨ ((entryAt s en.target).kind ≠ kindSave ∧ (entryAt s en.target).kind ≠ kindSample) then
      { en with standing := .rejected, reason := .badTarget }
    else if en.length = 0 then { en with standing := .rejected, reason := .zeroLength }
    else if (entryAt s en.target).kind = kindSave ∧ (en.base % 64 ≠ 0 ∨ en.length % 64 ≠ 0) then
      { en with standing := .rejected, reason := .misaligned }
    else if (entryAt s en.target).length < en.base + en.length then
      { en with standing := .rejected, reason := .outsideTarget }
    else { en with standing := .accepted, writeRight := en.write && (entryAt s en.target).writeRight } := rfl

theorem heldAlias_iff (en : Entry) : heldAlias en = true ↔ ¬ (en.kind ≠ kindAlias ∨ en.standing ≠ .empty) := by
  simp [heldAlias]

/-! ## A burst's completion -/

theorem exec_directoryLoad {a : Nat} {s : State} (bus : List Byte) (h : s.port.burst = some (.directory a)) :
    exec (.directoryLoadBurstCompletion bus) s = .next (settle (loadBurst (burstBytes s.rom a 16 bus) (freeBus s))) := by
  simp only [exec, execDirectoryLoadBurstCompletion, h]

/-- R8, R53: the load's end, and phase 4 as it begins. -/
theorem phase4Begun_completeLoad (d : Directory) {s u : State} (hsave : u.save = s.save) (hsupply : u.supply = s.supply) :
    phase4Begun s (settle (completeLoad d u)) :=
  phase4Begun_settle (u := { u with
    dir := { d with loading := none }, supply := { u.supply with phase := 4, waiting := false } }) hsave
    (by rw [hsupply]) rfl

theorem completeLoad_dir (d : Directory) (s : State) : (completeLoad d s).dir = { d with loading := none } := by
  simp [completeLoad]

/-- R7, R8: the directory as the last burst leaves it. -/
theorem finishLoad_eq (s : State) : ∃ d, finishLoad s = completeLoad d s ∧ d.result = .loaded
    ∧ d.rejected = (d.entries.toList.filter (fun en => en.standing == .rejected)).length
    ∧ ∀ j, j < 24 → d.entries[j]?.getD {} = finishedEntry s j := by
  refine ⟨_, rfl, ?_, ?_, fun j hj => ?_⟩
  · dsimp only
  · dsimp only
  · simp [hj]

/-- R7, R8: an entry as the completed load leaves it. -/
theorem finishedEntry_eq (s : State) (j : Nat) {f : Entry}
    (hf : f = if (entryAt s j).kind ≠ kindAlias ∨ (entryAt s j).standing ≠ .empty then entryAt s j
      else checkAlias s (entryAt s j)) :
    finishedEntry s j
      = { f with present := decide (f.standing = .accepted ∧ (f.kind = kindDays ∨ f.presentFlag = true)) } := by
  have hentry : (if heldAlias (entryAt s j) = true then checkAlias s (entryAt s j) else entryAt s j) = f := by
    rw [hf, if_congr (heldAlias_iff _) rfl rfl, ite_not]
  rw [finishedEntry, hentry]
  have hpresent : (f.standing == .accepted && (f.kind == kindDays || f.presentFlag))
      = decide (f.standing = .accepted ∧ (f.kind = kindDays ∨ f.presentFlag = true)) := by
    rw [Bool.eq_iff_iff]
    simp
  rw [hpresent]

/-- Settles O16: the header, the entries, the load's end, and phase 4. -/
theorem directoryBurstsBuildTheTable : Obligations.DirectoryBurstsBuildTheTable := by
  rintro a bus h s hburst rfl
  generalize hh : burstBytes s.rom a 16 bus = h
  have hexec : exec (.directoryLoadBurstCompletion bus) s = .next (settle (loadBurst h (freeBus s))) :=
    hh ▸ exec_directoryLoad bus hburst
  refine ⟨headerAccepted_iff h, fun i en clash second hen hclash hsecond => ?_, fun hloading => ?_,
    fun i hloading hi hmore => ?_, fun i hloading hi hlast => ?_⟩
  · rw [← loadedEntry_eq] at hen
    subst hen
    have hc : clash = overlapsEarlier s i (loadedEntry h) :=
      Bool.eq_iff_iff.mpr (hclash.trans (overlapsEarlier_iff s i _).symm)
    have hs : second = (List.range i).any (fun j => (entryAt s j).kind == kindDays) :=
      Bool.eq_iff_iff.mpr (hsecond.trans (secondDays_iff s i).symm)
    rw [hc, hs]
    exact checkEntry_eq s i rfl
  · refine ⟨_, hexec, fun haccepted => ?_, fun hrefused => ?_⟩
    · have hload : loadBurst h (freeBus s) = postLoad (.entry 0) (takeHeader h (freeBus s)) := by
        rw [loadBurst, freeBus_dir, hloading]
        exact if_pos haccepted
      rw [hload]
      exact ⟨by rw [settle_dir]; rfl, loadUnderWay_settle rfl, by rw [settle_supply]; rfl⟩
    · have hload : loadBurst h (freeBus s) = completeLoad { result := refusedHeaderResult h } (freeBus s) := by
        rw [loadBurst, freeBus_dir, hloading]
        exact if_neg (by simp [hrefused])
      obtain ⟨habsent, hresult⟩ := refusedHeaderResult_eq h
      rw [hload, settle_dir, completeLoad_dir]
      exact ⟨rfl, rfl, rfl, rfl, habsent, hresult, phase4Begun_completeLoad _ rfl rfl⟩
  · have hload : loadBurst h (freeBus s) = postLoad (.entry (i + 1)) (takeEntry i h (freeBus s)) := by
      rw [loadBurst, freeBus_dir, hloading]
      exact if_pos hmore
    refine ⟨_, hexec, ?_⟩
    rw [hload]
    exact ⟨by rw [settle_dir]; rfl, loadUnderWay_settle rfl, by rw [settle_supply]; rfl⟩
  · have hload : loadBurst h (freeBus s) = finishLoad (takeEntry i h (freeBus s)) := by
      rw [loadBurst, freeBus_dir, hloading]
      exact if_neg (Nat.not_lt.mpr hlast)
    obtain ⟨d, hd, hresult, hrejected, hentries⟩ := finishLoad_eq (takeEntry i h (freeBus s))
    have hdir : (settle (finishLoad (takeEntry i h (freeBus s)))).dir = { d with loading := none } := by
      rw [settle_dir, hd, completeLoad_dir]
    refine ⟨_, _, hexec, rfl, ?_⟩
    rw [hload, hdir]
    refine ⟨hresult, rfl, hrejected, fun j hj en tg f hen htg hf => ?_, ?_⟩
    · rw [entryAt, hdir]
      refine (hentries j hj).trans (finishedEntry_eq _ j ?_)
      subst hen htg
      exact hf
    · rw [hd]
      exact phase4Begun_completeLoad _ rfl rfl

end Sys2Proof.Machine
end

section
/-! PROOF. The steps of a copy (R45, R46): what each step forms, stores and sums, and the position that follows. -/

namespace Sys2Proof.Machine

/-! ## Blocks -/

/-- R45 step 2: the new block takes the staged byte at each written position, and the old byte elsewhere. -/
theorem formBlock_getElem? (staged : List (Option Byte)) (old : List Byte) (h : staged.length = old.length) (p : Nat) :
    (formBlock staged old)[p]? = (staged[p]?.join).or old[p]? := by
  induction staged generalizing old p with
  | nil => simp [formBlock, List.length_eq_zero_iff.mp h.symm]
  | cons o staged ih =>
    cases old with
    | nil => cases h
    | cons x old =>
      have hlen : staged.length = old.length := Nat.succ.inj h
      cases o <;> cases p <;> simp [formBlock, ih old hlen]

theorem firstDifference_self (block : List Byte) : firstDifference block block = none := by
  induction block with
  | nil => rfl
  | cons b block ih => simp [firstDifference, ih]

theorem passWrites_iff {sl : Slot} {b : Nat} : passWrites sl b = true
    ↔ sl.kind = .erase ∨ (sl.zeroBase = true ∧ ∀ x ∈ sl.blocks, x.index ≠ b) := by
  simp [passWrites]

/-! ## A step posted -/

/-- R22, R44: a commit step posted with a copy in progress. -/
theorem stepUnderWay_settle {cs : CommitStep} {s : State} (hcommit : s.port.commit = some cs)
    (hcopy : s.save.copy ≠ none) : stepUnderWay cs (settle s) := by
  refine stepUnderWay_grant ?_
  obtain ⟨o, c, q, hfill⟩ := fillClock_save s
  have htake : takeHead (fillClock s) = fillClock s := takeHead_of_copy (by rw [hfill]; exact hcopy)
  rw [htake]
  simpa [postRefills] using hcommit

/-- R22: what follows a posted step: the position held, and its step under way. -/
theorem settle_postStep (c : Copy) (s : State) : (settle (postStep c s)).save.copy = some c
    ∧ stepUnderWay ⟨c.dir, regionBase s (slotAt s c.slot) + 64 * partBlock (slotAt s c.slot) c.part, c.newBlock⟩
      (settle (postStep c s)) := by
  have hcopy : (postStep c s).save.copy ≠ none := by simp
  exact ⟨(settle_of_copy hcopy).1, stepUnderWay_settle rfl hcopy⟩

/-! ## A position begun (R45, R46) -/

/-- R45, R46: the copy at a position begun. -/
def begunCopy (sl : Slot) (c : Copy) : CopyPart → Copy
  | .staged k =>
    if sl.zeroBase then
      { c with part := .staged k, dir := .write, oldBlock := zeroBlock, newBlock := formBlock (stagedBytes sl k) zeroBlock }
    else { c with part := .staged k, dir := .read, oldBlock := zeroBlock, newBlock := zeroBlock }
  | .pass b =>
    { c with part := .pass b, dir := if passWrites sl b then .write else .read, oldBlock := zeroBlock, newBlock := zeroBlock }

theorem beginPart_eq (c : Copy) (part : CopyPart) (s : State) :
    beginPart c part s = postStep (begunCopy (slotAt s c.slot) c part) s := by
  cases part <;> simp only [beginPart, begunCopy] <;> split <;> rfl

section

variable (sl : Slot) (c : Copy) (part : CopyPart)

@[simp] theorem begunCopy_slot : (begunCopy sl c part).slot = c.slot := by
  cases part <;> simp only [begunCopy]; split <;> rfl

@[simp] theorem begunCopy_part : (begunCopy sl c part).part = part := by
  cases part <;> simp only [begunCopy]; split <;> rfl

@[simp] theorem begunCopy_running : (begunCopy sl c part).running = c.running := by
  cases part <;> simp only [begunCopy]; split <;> rfl

@[simp] theorem begunCopy_fresh : (begunCopy sl c part).fresh = c.fresh := by
  cases part <;> simp only [begunCopy]; split <;> rfl

/-- R45: a staged block's first step. -/
theorem begunCopy_staged (k : Nat) : (begunCopy sl c (.staged k)).dir = (if sl.zeroBase = true then .write else .read)
    ∧ (sl.zeroBase = true → (stagedBytes sl k).length = 64 → ∀ p, p < 64 →
      (begunCopy sl c (.staged k)).newBlock[p]? = some (((stagedBytes sl k)[p]?.join).getD 0x00#8)) := by
  refine ⟨by simp only [begunCopy]; split <;> rfl, fun hzero hlen p hp => ?_⟩
  have hform : (begunCopy sl c (.staged k)).newBlock = formBlock (stagedBytes sl k) zeroBlock := by
    simp only [begunCopy, hzero, if_true]
  have hold : zeroBlock[p]? = some 0x00#8 := List.getElem?_replicate_of_lt hp
  rw [hform, formBlock_getElem? _ _ (by simp [hlen, zeroBlock]), hold]
  cases (stagedBytes sl k)[p]?.join <;> rfl

/-- R46: a pass block's first step. -/
theorem begunCopy_pass (b : Nat) :
    (sl.kind = .erase ∨ (sl.zeroBase = true ∧ ∀ x ∈ sl.blocks, x.index ≠ b) →
      (begunCopy sl c (.pass b)).dir = .write ∧ (begunCopy sl c (.pass b)).newBlock = List.replicate 64 0x00#8)
    ∧ (¬ (sl.kind = .erase ∨ (sl.zeroBase = true ∧ ∀ x ∈ sl.blocks, x.index ≠ b)) →
      (begunCopy sl c (.pass b)).dir = .read) := by
  rw [← passWrites_iff]
  exact ⟨fun h => ⟨if_pos h, rfl⟩, fun h => if_neg h⟩

end

/-! ## A step's completion -/

theorem burstStores_of_not_write {cs : CommitStep} (h : cs.dir ≠ .write) (s : State) : burstStores cs s = s := by
  unfold burstStores
  split
  · rename_i hw
    exact absurd hw h
  · rfl
  · rfl

theorem exec_commitStep {cs : CommitStep} {c : Copy} {s : State} (bus : List Byte) (hburst : s.port.burst = some (.commit cs))
    (hcopy : s.save.copy = some c) : exec (.commitStepCompletion bus) s
      = .next (settle (commitStepDone c (burstBytes s.sram cs.addr 64 bus) (burstStores cs (freeBus s)))) := by
  have hheld : (burstStores cs (freeBus s)).save.copy = some c := by rw [burstStores_save]; exact hcopy
  simp only [exec, execCommitStepCompletion, hburst, engineTakes, hheld]

/-- R21: a step that is no write stores nothing. -/
theorem exec_commitStep_of_not_write {cs : CommitStep} {c : Copy} {s : State} (bus : List Byte)
    (hburst : s.port.burst = some (.commit cs)) (hcopy : s.save.copy = some c) (hdir : cs.dir ≠ .write) :
    exec (.commitStepCompletion bus) s
      = .next (settle (commitStepDone c (burstBytes s.sram cs.addr 64 bus) (freeBus s))) := by
  rw [exec_commitStep bus hburst hcopy, burstStores_of_not_write hdir]

/-- R45 step 5, R46: a step that passes: a read-back that matches, or a read of the pass part. -/
theorem commitStepDone_of_passes {c : Copy} {bytes : List Byte} (s : State)
    (h : (c.dir = .readBack ∧ c.newBlock = bytes) ∨ (c.dir = .read ∧ ∃ b, c.part = .pass b)) :
    commitStepDone c bytes s = nextPart (summed (slotAt s c.slot) bytes c) s := by
  rcases h with ⟨hdir, rfl⟩ | ⟨hdir, b, hpart⟩
  · simp only [commitStepDone, hdir, afterReadBack, firstDifference_self]
  · simp only [commitStepDone, hdir, afterRead, hpart, summed]

section

variable (sl : Slot) (bytes : List Byte) (c : Copy)

@[simp] theorem summed_slot : (summed sl bytes c).slot = c.slot := by
  unfold summed; split
  · split <;> rfl
  · rfl

@[simp] theorem summed_part : (summed sl bytes c).part = c.part := by
  unfold summed; split
  · split <;> rfl
  · rfl

end

/-- R45, R46: the position that follows, while there is one. -/
theorem nextPart_of_more {c : Copy} {s : State} {part : CopyPart}
    (h : (∃ k, c.part = .staged k ∧ k + 1 < (slotAt s c.slot).blocks.length ∧ part = .staged (k + 1))
      ∨ (∃ k, c.part = .staged k ∧ (slotAt s c.slot).blocks.length ≤ k + 1 ∧ (slotAt s c.slot).fullPass = true
          ∧ 0 < regionLength s (slotAt s c.slot) ∧ part = .pass 0)
      ∨ (∃ b, c.part = .pass b ∧ 64 * (b + 1) < regionLength s (slotAt s c.slot) ∧ part = .pass (b + 1))) :
    nextPart c s = beginPart c part s := by
  rcases h with ⟨k, hpart, hmore, rfl⟩ | ⟨k, hpart, hlast, hfull, hlen, rfl⟩ | ⟨b, hpart, hmore, rfl⟩
  · simp only [nextPart, hpart, if_pos hmore]
  · simp only [nextPart, hpart]
    rw [if_neg (Nat.not_lt.mpr hlast), if_pos ⟨hfull, hlen⟩]
  · simp only [nextPart, hpart, if_pos hmore]

/-- Settles O23: a read, a write, and a step that passes. -/
theorem commitStepsWriteTheBlock : Obligations.CommitStepsWriteTheBlock := by
  intro bus cs c s hburst hcopy
  refine ⟨fun k hdir hcs hpart => ?_, fun hdir hcs hlen hwf => ?_, ?_⟩
  · have hdone : commitStepDone c (burstBytes s.sram cs.addr 64 bus) (freeBus s) = postStep { c with
        dir := .write, oldBlock := burstBytes s.sram cs.addr 64 bus
        newBlock := formBlock (stagedBytes (slotAt s c.slot) k) (burstBytes s.sram cs.addr 64 bus) } (freeBus s) := by
      simp only [commitStepDone, hdir, afterRead, hpart]
      rfl
    have hexec := exec_commitStep_of_not_write bus hburst hcopy (by simp [hcs])
    rw [hdone] at hexec
    obtain ⟨hheld, hway⟩ := settle_postStep { c with
      dir := .write, oldBlock := burstBytes s.sram cs.addr 64 bus
      newBlock := formBlock (stagedBytes (slotAt s c.slot) k) (burstBytes s.sram cs.addr 64 bus) } (freeBus s)
    obtain ⟨o, st, held, z, htitle, -⟩ := settle_title (postStep { c with
      dir := .write, oldBlock := burstBytes s.sram cs.addr 64 bus
      newBlock := formBlock (stagedBytes (slotAt s c.slot) k) (burstBytes s.sram cs.addr 64 bus) } (freeBus s))
    refine ⟨_, _, hexec, hheld, rfl, hpart, rfl, rfl, fun p hp hstaged => ?_, hway, by simp, by rw [htitle]; rfl⟩
    refine (formBlock_getElem? _ _ (by simp [hstaged]) p).trans ?_
    cases (stagedBytes (slotAt s c.slot) k)[p]? with
    | none => rfl
    | some x => cases x <;> rfl
  · have hstored : burstStores cs (freeBus s) = { freeBus s with sram := writeBytes s.sram cs.addr cs.data } := by
      simp only [burstStores, hcs]
      rfl
    have hexec := exec_commitStep bus hburst hcopy
    simp only [hstored, commitStepDone, hdir] at hexec
    obtain ⟨hheld, hway⟩ := settle_postStep { c with dir := .readBack }
      { freeBus s with sram := writeBytes s.sram cs.addr cs.data }
    have hsram : (settle (postStep { c with dir := .readBack }
        { freeBus s with sram := writeBytes s.sram cs.addr cs.data })).sram = writeBytes s.sram cs.addr cs.data := by
      simp
    refine ⟨_, hexec, hheld, hway, fun i hi => ?_, fun x hx => ?_⟩
    · rw [hsram, readByte_writeBytes_inside cs.data s.sram cs.addr i hwf (by omega)]
    · rw [hsram, readByte_writeBytes_outside cs.data s.sram cs.addr x (by omega)]
  · rintro bytes sl part rfl rfl hsame hpasses hnext
    have hcs : cs.dir ≠ .write := by
      rcases hpasses with ⟨h, -⟩ | ⟨h, -⟩ <;> simp [hsame, h]
    have hexec := exec_commitStep_of_not_write bus hburst hcopy hcs
    generalize hbytes : burstBytes s.sram cs.addr 64 bus = bytes at *
    have hsl : slotAt (freeBus s) c.slot = slotAt s c.slot := rfl
    have hdone : commitStepDone c bytes (freeBus s) = postStep (begunCopy (slotAt s c.slot)
        (summed (slotAt s c.slot) bytes c) part) (freeBus s) := by
      rw [commitStepDone_of_passes (freeBus s) hpasses, nextPart_of_more (part := part)
        (by rw [summed_slot, summed_part]; exact hnext), beginPart_eq, summed_slot, hsl]
    rw [hdone] at hexec
    obtain ⟨hheld, hway⟩ := settle_postStep (begunCopy (slotAt s c.slot) (summed (slotAt s c.slot) bytes c) part)
      (freeBus s)
    rw [begunCopy_slot, summed_slot, begunCopy_part, hsl] at hway
    refine ⟨_, _, hexec, hheld, by simp, by simp, ?_, ?_, ?_, ?_, hway, by simp, (settle_records _).1, by simp⟩
    · rw [begunCopy_running, summed]
      cases c.part with
      | staged k => exact apply_ite Copy.running ..
      | pass b => rfl
    · rw [begunCopy_fresh, summed]
      cases c.part with
      | staged k => exact (apply_ite Copy.fresh ..).trans (ite_self _)
      | pass b => rfl
    · rintro k rfl
      exact begunCopy_staged ..
    · rintro b rfl
      exact begunCopy_pass ..

end Sys2Proof.Machine
end

section
/-! PROOF. The endings of a copy (R47 to R49, R51 to R54, R116): the completion, and the verify faults. -/

namespace Sys2Proof.Machine

/-! ## The records an ending writes -/

theorem recordAt_congr {s t : State} (h : t.save.kept.records = s.save.kept.records) : recordAt t = recordAt s := by
  funext i
  rw [recordAt, recordAt, h]

section

variable (id : SlotId) (r : OutcomeRecord) (s : State)

@[simp] theorem recordEnding_copy : (recordEnding id r s).save.copy = s.save.copy := by cases id <;> rfl
@[simp] theorem recordEnding_queue : (recordEnding id r s).save.kept.queue = s.save.kept.queue := by cases id <;> rfl
@[simp] theorem recordEnding_records : (recordEnding id r s).save.kept.records = s.save.kept.records := by
  cases id <;> rfl

@[simp] theorem slotAt_recordEnding (id' : SlotId) : slotAt (recordEnding id r s) id' = slotAt s id' := by
  cases id <;> cases id' <;> rfl

/-- R51: the title slot's ending alone is written to the outcome record. -/
theorem recordEnding_outcome : (recordEnding id r s).save.kept.outcome
    = if id = .title then some r else s.save.kept.outcome := by cases id <;> rfl

/-- R52: the title slot's ending alone is reported. -/
theorem reportEnding_link : (reportEnding id r s).link = if id = .title then (notify (.saveDone r) s).link else s.link := by
  cases id <;> rfl

theorem slotAt_dropCopy : slotAt (dropCopy s) id = slotAt s id := by cases id <;> rfl

end

/-- R47, R49: the save engine's part of the ending of a copy whose slot becomes FREE. -/
def freedByEnding (id : SlotId) (r : OutcomeRecord) (rec : Record) (s : State) : State :=
  dropCopy (recordEnding id r (freeSlot id (setRecord (slotAt s id).target rec s)))

/-- R48: the save engine's part of a first verify fault. -/
def heldByFault (id : SlotId) (r : OutcomeRecord) (rec : Record) (s : State) : State :=
  dropCopy (recordEnding id r (setSlot id (heldSlot (slotAt s id)) (setRecord (slotAt s id).target rec s)))

/-- What the two endings have in common: the record written, the outcome of the title slot, and no position held. -/
def EndsCopy (id : SlotId) (r : OutcomeRecord) (rec : Record) (s d : State) : Prop :=
  recordAt d (slotAt s id).target = rec ∧ (∀ i, i ≠ (slotAt s id).target → recordAt d i = recordAt s i)
    ∧ d.save.copy = none ∧ d.save.kept.queue = s.save.kept.queue
    ∧ d.save.kept.outcome = if id = .title then some r else s.save.kept.outcome

theorem EndsCopy.of_save {id : SlotId} {r : OutcomeRecord} {rec : Record} {s d e : State} (h : EndsCopy id r rec s d)
    (he : e.save = d.save) : EndsCopy id r rec s e := by
  rw [EndsCopy, he, recordAt_congr (s := d) (by rw [he])]
  exact h

section

variable (id : SlotId) (r : OutcomeRecord) (rec : Record) {s : State}

theorem endsCopy_freedByEnding (ht : (slotAt s id).target < 24) : EndsCopy id r rec s (freedByEnding id r rec s) := by
  have hrecords : recordAt (freedByEnding id r rec s) = recordAt (setRecord (slotAt s id).target rec s) :=
    recordAt_congr (by simp [freedByEnding])
  rw [EndsCopy, hrecords]
  refine ⟨recordAt_setRecord_same _ _ _ ht, fun i hi => recordAt_setRecord_other _ _ _ _ hi.symm, rfl,
    by simp [freedByEnding, setRecord], ?_⟩
  rw [freedByEnding, dropCopy_save, recordEnding_outcome, freeSlot_outcome]
  rfl

theorem endsCopy_heldByFault (ht : (slotAt s id).target < 24) : EndsCopy id r rec s (heldByFault id r rec s) := by
  have hrecords : recordAt (heldByFault id r rec s) = recordAt (setRecord (slotAt s id).target rec s) :=
    recordAt_congr (by simp [heldByFault])
  rw [EndsCopy, hrecords]
  refine ⟨recordAt_setRecord_same _ _ _ ht, fun i hi => recordAt_setRecord_other _ _ _ _ hi.symm, rfl,
    by simp [heldByFault, setRecord], ?_⟩
  rw [heldByFault, dropCopy_save, recordEnding_outcome, setSlot_outcome]
  rfl

variable (s)

theorem slotAt_freedByEnding_same : slotAt (freedByEnding id r rec s) id = freedSlot (slotAt s id) := by
  rw [freedByEnding, slotAt_dropCopy, slotAt_recordEnding, slotAt_freeSlot_same, slotAt_setRecord]

theorem slotAt_freedByEnding_other :
    slotAt (freedByEnding id r rec s) (otherSlot id) = firstInOrder (slotAt s (otherSlot id)) := by
  rw [freedByEnding, slotAt_dropCopy, slotAt_recordEnding, slotAt_freeSlot_other, slotAt_setRecord]

theorem slotAt_heldByFault_same : slotAt (heldByFault id r rec s) id = heldSlot (slotAt s id) := by
  rw [heldByFault, slotAt_dropCopy, slotAt_recordEnding, slotAt_setSlot_same]

theorem slotAt_heldByFault_other : slotAt (heldByFault id r rec s) (otherSlot id) = slotAt s (otherSlot id) := by
  rw [heldByFault, slotAt_dropCopy, slotAt_recordEnding, slotAt_setSlot_other, slotAt_setRecord]

end

/-- R51, R53: the operation of an ending. -/
theorem endingOp_eq (s : State) (sl : Slot) : endingOp s sl
    = if s.supply.phase = 4 then .rollForward else match sl.kind with | .write => .commit | .erase => .erase := by
  rw [endingOp]
  cases sl.kind <;> rfl

/-! ## The completion -/

/-- R47: the copy's completion before what follows it. -/
def completed (c : Copy) (s : State) : State :=
  let sl := slotAt s c.slot
  let r := endingRecord s sl (completionOutcome s) none
  reportEnding c.slot r (freedByEnding c.slot r (completedRecord sl c (recordAt s sl.target)) s)

theorem completeCopy_eq (c : Copy) (s : State) : completeCopy c s = rollIfRolling (completed c s) := rfl

theorem rollIfRolling_eq {s d : State} (h : d.supply = s.supply) :
    rollIfRolling d = if s.supply.phase = 4 then rollOn d else d := by rw [rollIfRolling, h]

theorem completed_supply (c : Copy) (s : State) : (completed c s).supply = s.supply := by
  simp [completed, freedByEnding, setRecord]

theorem freedByEnding_link (id : SlotId) (r : OutcomeRecord) (rec : Record) (s : State) :
    (freedByEnding id r rec s).link = s.link := by simp [freedByEnding, setRecord]

theorem heldByFault_link (id : SlotId) (r : OutcomeRecord) (rec : Record) (s : State) :
    (heldByFault id r rec s).link = s.link := by simp [heldByFault, setRecord]

/-- R47, R51, R52: what the completion writes, frees and reports. -/
theorem completed_spec (c : Copy) {s : State} (ht : (slotAt s c.slot).target < 24) :
    EndsCopy c.slot (endingRecord s (slotAt s c.slot) (completionOutcome s) none)
      (completedRecord (slotAt s c.slot) c (recordAt s (slotAt s c.slot).target)) s (completed c s)
    ∧ slotAt (completed c s) c.slot = freedSlot (slotAt s c.slot)
    ∧ slotAt (completed c s) (otherSlot c.slot) = firstInOrder (slotAt s (otherSlot c.slot))
    ∧ (completed c s).supply = s.supply ∧ (completed c s).sram = s.sram ∧ (completed c s).days = s.days
    ∧ (completed c s).dir = s.dir ∧ (completed c s).link = if c.slot = .title then
        (notify (.saveDone (endingRecord s (slotAt s c.slot) (completionOutcome s) none)) s).link else s.link := by
  have hsave := reportEnding_save c.slot (endingRecord s (slotAt s c.slot) (completionOutcome s) none)
    (freedByEnding c.slot (endingRecord s (slotAt s c.slot) (completionOutcome s) none)
      (completedRecord (slotAt s c.slot) c (recordAt s (slotAt s c.slot).target)) s)
  have hslot := slotAt_congr (congrArg Save.kept hsave)
  refine ⟨(endsCopy_freedByEnding _ _ _ ht).of_save hsave, ?_, ?_, completed_supply c s, ?_, ?_, ?_, ?_⟩
  · exact (congrFun hslot c.slot).trans (slotAt_freedByEnding_same ..)
  · exact (congrFun hslot (otherSlot c.slot)).trans (slotAt_freedByEnding_other ..)
  · simp [completed, freedByEnding, setRecord]
  · simp [completed, freedByEnding, setRecord]
  · simp [completed, freedByEnding, setRecord]
  · rw [completed, reportEnding_link]
    exact ite_congr rfl (fun _ => notify_link_congr (freedByEnding_link ..) _) fun _ => freedByEnding_link ..

theorem summed_running (sl : Slot) (bytes : List Byte) (c : Copy) : (summed sl bytes c).running = match c.part with
    | .staged _ => if sl.fullPass = true then c.running else addBlock (removeBlock c.running c.oldBlock) c.newBlock
    | .pass _ => c.running := by
  rw [summed]
  cases c.part with
  | staged k => exact apply_ite Copy.running ..
  | pass b => rfl

theorem summed_fresh (sl : Slot) (bytes : List Byte) (c : Copy) : (summed sl bytes c).fresh = match c.part with
    | .staged _ => c.fresh
    | .pass _ => addBlock c.fresh bytes := by
  rw [summed]
  cases c.part with
  | staged k => exact (apply_ite Copy.fresh ..).trans (ite_self _)
  | pass b => rfl

/-- R46, R47: the last position completes the copy. -/
theorem nextPart_of_last {c : Copy} {s : State}
    (h : (∃ k, c.part = .staged k ∧ (slotAt s c.slot).blocks.length ≤ k + 1
        ∧ ((slotAt s c.slot).fullPass = false ∨ regionLength s (slotAt s c.slot) = 0))
      ∨ (∃ b, c.part = .pass b ∧ regionLength s (slotAt s c.slot) ≤ 64 * (b + 1))) :
    nextPart c s = completeCopy c s := by
  rcases h with ⟨k, hpart, hlast, hshort⟩ | ⟨b, hpart, hlast⟩
  · simp only [nextPart, hpart]
    rw [if_neg (Nat.not_lt.mpr hlast), if_neg]
    rintro ⟨hfull, hlen⟩
    rcases hshort with h | h
    · simp [hfull] at h
    · omega
  · simp only [nextPart, hpart]
    exact if_neg (Nat.not_lt.mpr hlast)

theorem startCopy_port (id : SlotId) (rolling : Bool) (s : State) : ∃ c, (startCopy id rolling s).save.copy = some c
    ∧ c.slot = id ∧ c.fresh = 0 ∧ c.running = (recordAt s (slotAt s id).target).check ∧ c.part = firstPart id s
    ∧ (startCopy id rolling s).port = { s.port with commit := some ⟨c.dir,
        regionBase s (slotAt s id) + 64 * partBlock (slotAt s id) c.part, c.newBlock⟩ } := by
  have hslot := slotAt_takenFrom_same id rolling s
  rw [startCopy_eq, beginPart_eq]
  refine ⟨_, rfl, by simp, by simp, by simp, by simp, ?_⟩
  rw [postStep, begunCopy_slot, hslot, takenFrom_port]
  have hbase : regionBase (takenFrom id rolling s) (takenSlot id rolling s) = regionBase s (slotAt s id) := by
    rw [regionBase, inUse, isAccepted, entryAt, takenFrom_dir]
    rfl
  rw [hbase]
  rfl

/-- Settles O24: the completion, a slot taken, the order of the slots, and the end of roll-forward. -/
theorem lastReadBackCompletesTheCopy : Obligations.LastReadBackCompletesTheCopy := by
  refine ⟨?_, fun id d => ?_, fun id d hroll hfirst => rollOn_of_some (nextToRoll_of_first hroll hfirst),
    fun d hnt hnc => ?_⟩
  · rintro bus bytes cs c sl s ⟨⟨-, hlisted, -⟩, -, hcopies, -⟩ hburst hcopy hsame rfl htarget rfl hpasses hlast
    have hcs : cs.dir ≠ .write := by
      rcases hpasses with ⟨h, -⟩ | ⟨h, -⟩ <;> simp [hsame, h]
    have hexec := exec_commitStep_of_not_write bus hburst hcopy hcs
    generalize hbytes : burstBytes s.sram cs.addr 64 bus = bytes at *
    rw [commitStepDone_of_passes (freeBus s) hpasses, nextPart_of_last (by rw [summed_slot, summed_part]; exact hlast),
      completeCopy_eq, rollIfRolling_eq (completed_supply _ (freeBus s))] at hexec
    have hspec := completed_spec (summed (slotAt s c.slot) bytes c) (s := freeBus s) (by rw [summed_slot]; exact htarget)
    rw [summed_slot] at hspec
    obtain ⟨⟨hrec, hothers, hnocopy, hqueue, houtcome⟩, hfreed, hother, hsupply, hsram, hdays, hdir, hlink⟩ := hspec
    have hsl : slotAt (freeBus s) c.slot = slotAt s c.slot := rfl
    rw [hsl] at hexec
    generalize completed (summed (slotAt s c.slot) bytes c) (freeBus s) = d at *
    refine ⟨d, _, _, _, hexec,
      summed_running (slotAt s c.slot) bytes c, summed_fresh (slotAt s c.slot) bytes c, ?_, hothers, by rw [hfreed]; rfl,
      by rw [hfreed]; rfl, by rw [hfreed]; rfl, hother, hnocopy, hqueue, hsupply, hsram, hdays, hdir, ?_, fun htitle =>
      ⟨houtcome.trans (if_pos htitle), (hlink.trans (if_pos htitle)).trans (notify_link_congr (s := freeBus s) (t := s) rfl _)⟩, fun hclock => ?_, fun hphase => ?_⟩
    · refine hrec.trans ?_
      rw [hsl, completedRecord]
      cases (slotAt s c.slot).kind <;> rfl
    · rw [endingRecord, endingOp_eq, completionOutcome]
      rfl
    · have hne : c.slot ≠ .title := by simp [hclock]
      exact ⟨houtcome.trans (if_neg hne), hlink.trans (if_neg hne)⟩
    · refine ⟨settle_link _, (settle_records _).1, settle_outcome _, (settle_sram _).trans hsram, fun htitle => ?_⟩
      have hcopying : s.save.kept.title.state = .copying := by
        have := hcopies c hcopy
        rwa [htitle] at this
      have hout : SlotId.title ∉ s.save.kept.queue := fun hin => by simp [hcopying] at hlisted; exact hlisted hin
      obtain ⟨o, hsettled⟩ := settle_title_of_not_queued (hqueue ▸ hout)
      rw [htitle] at hfreed
      rw [hsettled, ← slotAt_title, hfreed]
      exact ⟨rfl, rfl⟩
  · obtain ⟨c, hcopy, hslot, hfresh, hrunning, hpart, hport⟩ := startCopy_port id true d
    refine ⟨c, hcopy, hslot, hfresh, hrunning, ?_, ?_, slotAt_startCopy_other id true d, startCopy_queue id true d,
      startCopy_records id true d, hport, startCopy_link id true d, startCopy_supply id true d⟩

    · rw [hpart, firstPart, if_congr List.isEmpty_iff rfl rfl]
    · have hzero : ((recordAt d (slotAt d id).target).state == .blank && (slotAt d id).kind == .write)
          = decide ((recordAt d (slotAt d id).target).state = .blank ∧ (slotAt d id).kind = .write) := by
        rw [Bool.eq_iff_iff]
        simp
      rw [slotAt_startCopy_same, takenSlot, Bool.or_true, hzero]
  · rw [rollOn_of_none hnt hnc]
    have hrecord : recordAt (passTo 5 (mapRecords closedRecord d)) = recordAt (mapRecords closedRecord d) :=
      recordAt_congr (by rw [passTo_save])
    refine ⟨fun i hi => ?_, by simp [passTo_supply, inWarn], by simp, by simp, by simp⟩
    rw [hrecord, recordAt_mapRecords closedRecord d hi]
    refine ite_congr rfl (fun _ => ?_) fun _ => rfl
    rw [closedRecord]
    cases (recordAt d i).state <;> rfl

/-! ## Verify faults -/

/-- R48: the first position at which the block read back differs. -/
theorem firstDifference_of_first {a b : List Byte} {p : Nat} (hlen : a.length = b.length) (hp : p < a.length)
    (hsame : ∀ i, i < p → a[i]? = b[i]?) (hdiff : a[p]? ≠ b[p]?) : firstDifference a b = some p := by
  induction a generalizing b p with
  | nil => cases hp
  | cons x a ih =>
    cases b with
    | nil => cases hlen
    | cons y b =>
      cases p with
      | zero =>
        have hne : x ≠ y := fun h => hdiff (by simp [h])
        simp [firstDifference, hne]
      | succ p =>
        have heq : x = y := Option.some.inj (hsame 0 p.succ_pos)
        have hrest := ih (Nat.succ.inj hlen) (Nat.lt_of_succ_lt_succ hp) (fun i hi => hsame (i + 1) (Nat.succ_lt_succ hi)) hdiff
        simp [firstDifference, heq, hrest]

/-- R48, R52: the reports of a verify fault. -/
def reportFault (id : SlotId) (r : OutcomeRecord) (target : Nat) (s : State) : State :=
  reportEnding id r (notify (.regionState target .damaged .verifyFault) s)

theorem reportFault_save (id : SlotId) (r : OutcomeRecord) (target : Nat) (s : State) :
    (reportFault id r target s).save = s.save := by simp [reportFault]

theorem reportFault_link (id : SlotId) (r : OutcomeRecord) (target : Nat) {s t : State} (h : s.link = t.link) :
    (reportFault id r target s).link = if id = .title then
        (notify (.saveDone r) (notify (.regionState target .damaged .verifyFault) t)).link
      else (notify (.regionState target .damaged .verifyFault) t).link := by
  rw [reportFault, reportEnding_link]
  exact ite_congr rfl (fun _ => notify_link_congr (notify_link_congr h _) _) fun _ => notify_link_congr h _

/-- R48: a first verify fault, before the slot is taken again. -/
def faulted (c : Copy) (off : Nat) (s : State) : State :=
  reportFault c.slot (endingRecord s (slotAt s c.slot) .fault (some off)) (slotAt s c.slot).target
    (heldByFault c.slot (endingRecord s (slotAt s c.slot) .fault (some off))
      { recordAt s (slotAt s c.slot).target with state := .damaged } s)

/-- R49, R116: a second verify fault, before roll-forward goes on. -/
def discarded (c : Copy) (s : State) : State :=
  rewriteDays c.slot (slotAt s c.slot).target
    (reportFault c.slot (endingRecord s (slotAt s c.slot) .faultDiscarded none) (slotAt s c.slot).target
      (freedByEnding c.slot (endingRecord s (slotAt s c.slot) .faultDiscarded none)
        { recordAt s (slotAt s c.slot).target with state := .damaged } s))

theorem firstFault_eq (c : Copy) (off : Nat) (s : State) : firstFault c off s
    = if s.supply.phase = 4 then startCopy c.slot true (faulted c off s) else faulted c off s := rfl

theorem discarded_supply (c : Copy) (s : State) : (discarded c s).supply = s.supply := by
  simp [discarded, reportFault, freedByEnding, setRecord]

theorem discardOnFault_eq (c : Copy) (s : State) : discardOnFault c s
    = if s.supply.phase = 4 then rollOn (discarded c s) else discarded c s :=
  rollIfRolling_eq (d := discarded c s) (discarded_supply c s)

/-- R48: what a first verify fault writes, holds and reports. -/
theorem faulted_spec (c : Copy) (off : Nat) {s : State} (ht : (slotAt s c.slot).target < 24) :
    EndsCopy c.slot (endingRecord s (slotAt s c.slot) .fault (some off))
      { recordAt s (slotAt s c.slot).target with state := .damaged } s (faulted c off s)
    ∧ slotAt (faulted c off s) c.slot = heldSlot (slotAt s c.slot)
    ∧ slotAt (faulted c off s) (otherSlot c.slot) = slotAt s (otherSlot c.slot)
    ∧ (faulted c off s).supply = s.supply ∧ (faulted c off s).sram = s.sram ∧ (faulted c off s).days = s.days
    ∧ (faulted c off s).link = if c.slot = .title then
        (notify (.saveDone (endingRecord s (slotAt s c.slot) .fault (some off)))
          (notify (.regionState (slotAt s c.slot).target .damaged .verifyFault) s)).link
      else (notify (.regionState (slotAt s c.slot).target .damaged .verifyFault) s).link := by
  have hsave := reportFault_save c.slot (endingRecord s (slotAt s c.slot) .fault (some off)) (slotAt s c.slot).target
    (heldByFault c.slot (endingRecord s (slotAt s c.slot) .fault (some off))
      { recordAt s (slotAt s c.slot).target with state := .damaged } s)
  have hslot := slotAt_congr (congrArg Save.kept hsave)
  refine ⟨(endsCopy_heldByFault _ _ _ ht).of_save hsave, ?_, ?_, ?_, ?_, ?_, reportFault_link _ _ _ (heldByFault_link ..)⟩
  · exact (congrFun hslot c.slot).trans (slotAt_heldByFault_same ..)
  · exact (congrFun hslot (otherSlot c.slot)).trans (slotAt_heldByFault_other ..)
  · simp [faulted, reportFault, heldByFault, setRecord]
  · simp [faulted, reportFault, heldByFault, setRecord]
  · simp [faulted, reportFault, heldByFault, setRecord]

/-- R116: what the calendar does after a discarded slot. -/
theorem rewriteDays_title (target : Nat) (s : State) : rewriteDays .title target s = s := rfl

theorem rewriteDays_clockSlot (target : Nat) (s : State) : rewriteDays .clock target s = if s.days.inService = true then
    notify (.regionState target .damaged .rebuilt) (setDays { s.days with dirty := true, rebuilt := true } s)
    else s := rfl

theorem reportFault_days (id : SlotId) (r : OutcomeRecord) (target : Nat) (s : State) :
    (reportFault id r target s).days = s.days := by simp [reportFault]

theorem freedByEnding_days (id : SlotId) (r : OutcomeRecord) (rec : Record) (s : State) :
    (freedByEnding id r rec s).days = s.days := by simp [freedByEnding, setRecord]

/-- R49, R116: what a second verify fault writes, frees and reports. -/
theorem discarded_spec (c : Copy) {s : State} (ht : (slotAt s c.slot).target < 24) :
    EndsCopy c.slot (endingRecord s (slotAt s c.slot) .faultDiscarded none)
      { recordAt s (slotAt s c.slot).target with state := .damaged } s (discarded c s)
    ∧ slotAt (discarded c s) c.slot = freedSlot (slotAt s c.slot)
    ∧ slotAt (discarded c s) (otherSlot c.slot) = firstInOrder (slotAt s (otherSlot c.slot))
    ∧ (discarded c s).sram = s.sram
    ∧ (c.slot = .title → (discarded c s).days = s.days ∧ (discarded c s).link
        = (notify (.saveDone (endingRecord s (slotAt s c.slot) .faultDiscarded none))
          (notify (.regionState (slotAt s c.slot).target .damaged .verifyFault) s)).link)
    ∧ (c.slot = .clock → s.days.inService = false → (discarded c s).days = s.days ∧ (discarded c s).link
        = (notify (.regionState (slotAt s c.slot).target .damaged .verifyFault) s).link)
    ∧ (c.slot = .clock → s.days.inService = true → (discarded c s).days = { s.days with dirty := true, rebuilt := true }
        ∧ (discarded c s).link = (notify (.regionState (slotAt s c.slot).target .damaged .rebuilt)
          (notify (.regionState (slotAt s c.slot).target .damaged .verifyFault) s)).link) := by
  have hsave : (discarded c s).save = (freedByEnding c.slot (endingRecord s (slotAt s c.slot) .faultDiscarded none)
      { recordAt s (slotAt s c.slot).target with state := .damaged } s).save := by
    rw [discarded, rewriteDays_save, reportFault_save]
  have hslot := slotAt_congr (congrArg Save.kept hsave)
  have hdays : (reportFault c.slot (endingRecord s (slotAt s c.slot) .faultDiscarded none) (slotAt s c.slot).target
      (freedByEnding c.slot (endingRecord s (slotAt s c.slot) .faultDiscarded none)
        { recordAt s (slotAt s c.slot).target with state := .damaged } s)).days = s.days := by
    rw [reportFault_days, freedByEnding_days]
  have hlink := reportFault_link c.slot (endingRecord s (slotAt s c.slot) .faultDiscarded none) (slotAt s c.slot).target
    (freedByEnding_link c.slot (endingRecord s (slotAt s c.slot) .faultDiscarded none)
      { recordAt s (slotAt s c.slot).target with state := .damaged } s)
  refine ⟨(endsCopy_freedByEnding _ _ _ ht).of_save hsave, ?_, ?_, ?_, fun htitle => ?_, fun hclock hout => ?_,
    fun hclock hin => ?_⟩
  · exact (congrFun hslot c.slot).trans (slotAt_freedByEnding_same ..)
  · exact (congrFun hslot (otherSlot c.slot)).trans (slotAt_freedByEnding_other ..)
  · simp [discarded, reportFault, freedByEnding, setRecord]
  · rw [if_pos htitle] at hlink
    rw [discarded]
    generalize reportFault c.slot _ _ _ = e at *
    rw [htitle, rewriteDays_title]
    rw [htitle] at hlink
    exact ⟨hdays, hlink⟩
  · rw [if_neg (by simp [hclock])] at hlink
    rw [discarded]
    generalize reportFault c.slot _ _ _ = e at *
    rw [hclock, rewriteDays_clockSlot, hdays, hout]
    rw [hclock] at hlink
    exact ⟨hdays, hlink⟩
  · rw [if_neg (by simp [hclock])] at hlink
    rw [discarded]
    generalize reportFault c.slot _ _ _ = e at *
    rw [hclock, rewriteDays_clockSlot, hdays, if_pos hin]
    rw [hclock] at hlink
    exact ⟨by simp [setDays], notify_link_congr (s := setDays { s.days with dirty := true, rebuilt := true } e) hlink _⟩

/-- R48, R49: a read-back that differs. -/
theorem commitStepDone_of_differs {c : Copy} {bytes : List Byte} {p : Nat} (s : State) (hdir : c.dir = .readBack)
    (hdiff : firstDifference c.newBlock bytes = some p) : commitStepDone c bytes s
      = if s.supply.phase = 4 then
          (if (slotAt s c.slot).faults = 0 then
            startCopy c.slot true (faulted c (partBlock (slotAt s c.slot) c.part * 64 + p) s)
          else rollOn (discarded c s))
        else if (slotAt s c.slot).faults = 0 then faulted c (partBlock (slotAt s c.slot) c.part * 64 + p) s
        else discarded c s := by
  simp only [commitStepDone, hdir, afterReadBack, hdiff, verifyFault, firstFault_eq, discardOnFault_eq]
  split_ifs <;> rfl

/-- Settles O25: the two verify faults, and what the engine makes of a held or discarded title slot. -/
theorem readBackMismatchStopsTheCopy : Obligations.ReadBackMismatchStopsTheCopy := by
  have hmain : ∀ (bus bytes : List Byte) (cs : CommitStep) (c : Copy) (p : Nat) (s : State),
      s.port.burst = some (.commit cs) → s.save.copy = some c → cs.dir = .readBack → c.dir = .readBack →
      bytes = burstBytes s.sram cs.addr 64 bus → (∀ i, i < p → c.newBlock[i]? = bytes[i]?) → c.newBlock.length = 64 →
      p < 64 → c.newBlock[p]? ≠ bytes[p]? → exec (.commitStepCompletion bus) s = .next (settle
        (if s.supply.phase = 4 then
          (if (slotAt s c.slot).faults = 0 then
            startCopy c.slot true (faulted c (partBlock (slotAt s c.slot) c.part * 64 + p) (freeBus s))
          else rollOn (discarded c (freeBus s)))
        else if (slotAt s c.slot).faults = 0 then
          faulted c (partBlock (slotAt s c.slot) c.part * 64 + p) (freeBus s)
        else discarded c (freeBus s))) := by
    rintro bus bytes cs c p s hburst hcopy hcs hdir rfl hsame hlen hp hdiff
    have hexec := exec_commitStep_of_not_write bus hburst hcopy (by simp [hcs])
    rw [commitStepDone_of_differs (freeBus s) hdir
      (firstDifference_of_first (by rw [hlen, burstBytes_length]) (by omega) hsame hdiff)] at hexec
    exact hexec
  refine ⟨?_, ?_⟩
  · intro bus cs c p s hburst hcopy hcs hdir htitle htarget hphase hqueue hsame hlen hp hdiff
    have hexec := hmain bus _ cs c p s hburst hcopy hcs hdir rfl hsame hlen hp hdiff
    rw [if_neg hphase, htitle] at hexec
    have ht : (slotAt (freeBus s) c.slot).target < 24 := by rw [htitle]; exact htarget
    have hsl : slotAt (freeBus s) c.slot = s.save.kept.title := by rw [htitle]; rfl
    by_cases hfaults : s.save.kept.title.faults = 0
    · have hspec := faulted_spec c (partBlock s.save.kept.title c.part * 64 + p) (s := freeBus s) ht
      rw [hsl, htitle] at hspec
      obtain ⟨⟨hrec, -, -, hq, houtcome⟩, hheld, -, -, hsram, -⟩ := hspec
      rw [slotAt_title] at hexec hheld
      rw [if_pos hfaults] at hexec
      obtain ⟨o, htitle'⟩ := settle_title_of_not_queued (s := faulted c (partBlock s.save.kept.title c.part * 64 + p)
        (freeBus s)) (by rw [hq, freeBus_save, hqueue]; simp)
      refine ⟨_, hexec, ?_, fun _ => ?_, fun h => absurd hfaults h, by rw [settle_sram, hsram]; rfl⟩
      · rw [recordAt_congr (settle_records _).1]
        exact hrec
      · rw [htitle', hheld, settle_outcome, houtcome]
        exact ⟨rfl, rfl, rfl, rfl, _, rfl⟩
    · have hspec := discarded_spec c (s := freeBus s) ht
      rw [hsl, htitle] at hspec
      obtain ⟨⟨hrec, -, -, hq, houtcome⟩, hfreed, -, hsram, -⟩ := hspec
      rw [slotAt_title] at hexec hfreed
      rw [if_neg hfaults] at hexec
      obtain ⟨o, htitle'⟩ := settle_title_of_not_queued (s := discarded c (freeBus s))
        (by rw [hq, freeBus_save, hqueue]; simp)
      refine ⟨_, hexec, ?_, fun h => absurd h hfaults, fun _ => ?_, by rw [settle_sram, hsram]; rfl⟩
      · rw [recordAt_congr (settle_records _).1]
        exact hrec
      · rw [htitle', hfreed, settle_outcome, houtcome]
        exact ⟨rfl, rfl, _, rfl⟩
  · rintro bus bytes cs c p sl o s u hburst hcopy hcs hdir rfl htarget hbytes hsame hlen hp hdiff ho rfl
    have hexec := hmain bus bytes cs c p s hburst hcopy hcs hdir hbytes hsame hlen hp hdiff
    have hnotify : ∀ n, (notify n (notify (.regionState (slotAt s c.slot).target .damaged .verifyFault) (freeBus s))).link
        = (notify n (notify (.regionState (slotAt s c.slot).target .damaged .verifyFault) s)).link := fun n =>
      notify_link_congr (notify_link_congr (s := freeBus s) (t := s) rfl _) n
    by_cases hfaults : (slotAt s c.slot).faults = 0
    · have hrecord : endingRecord (freeBus s) (slotAt s c.slot) .fault
          (some (partBlock (slotAt s c.slot) c.part * 64 + p)) = o := by
        rw [ho, if_pos hfaults, if_pos hfaults, endingRecord, endingOp_eq]
        rfl
      obtain ⟨⟨hrec, hothers, hnocopy, hqueue, houtcome⟩, hheld, hother, hsupply, hsram, hdays, hlink⟩ :=
        faulted_spec c (partBlock (slotAt s c.slot) c.part * 64 + p) (s := freeBus s) htarget
      simp only [if_pos hfaults] at hexec ⊢
      refine ⟨_, hexec, hrec, hothers, hnocopy, hqueue, hsupply, hsram, fun _ => ⟨hheld, hother⟩,
        fun h => absurd hfaults h, fun htitle => ⟨?_, ?_, hdays⟩, fun hclock => ⟨?_, fun _ => ⟨?_, hdays⟩,
        fun h => absurd hfaults h⟩⟩
      · exact (houtcome.trans (if_pos htitle)).trans (congrArg some hrecord)
      · exact (hlink.trans (if_pos htitle)).trans (hrecord ▸ hnotify _)
      · exact houtcome.trans (if_neg (by simp [hclock]))
      · exact (hlink.trans (if_neg (by simp [hclock]))).trans (notify_link_congr (s := freeBus s) (t := s) rfl _)
    · have hrecord : endingRecord (freeBus s) (slotAt s c.slot) .faultDiscarded none = o := by
        rw [ho, if_neg hfaults, if_neg hfaults, endingRecord, endingOp_eq]
        rfl
      obtain ⟨⟨hrec, hothers, hnocopy, hqueue, houtcome⟩, hfreed, hother, hsram, hontitle, hunserved, hserved⟩ :=
        discarded_spec c (s := freeBus s) htarget
      simp only [if_neg hfaults] at hexec ⊢
      refine ⟨_, hexec, hrec, hothers, hnocopy, hqueue, discarded_supply c (freeBus s), hsram,
        fun h => absurd h hfaults, fun _ => ⟨by rw [hfreed]; rfl, by rw [hfreed]; rfl, by rw [hfreed]; rfl,
        by rw [hfreed]; rfl, hother⟩, fun htitle => ⟨?_, ?_, (hontitle htitle).1⟩, fun hclock => ⟨?_, fun hout => ?_,
        fun _ hin => ⟨?_, (hserved hclock hin).1⟩⟩⟩
      · exact (houtcome.trans (if_pos htitle)).trans (congrArg some hrecord)
      · exact (hontitle htitle).2.trans (hrecord ▸ hnotify _)
      · exact houtcome.trans (if_neg (by simp [hclock]))
      · obtain ⟨hdays, hlink⟩ := hunserved hclock (hout.resolve_left hfaults)
        exact ⟨hlink.trans (notify_link_congr (s := freeBus s) (t := s) rfl _), hdays⟩
      · exact (hserved hclock hin).2.trans (hnotify _)

end Sys2Proof.Machine
end

section
/-! PROOF. What changes the save SRAM (R21, R30, R45), and the running check (R60, R61). -/

namespace Sys2Proof.Machine

/-! ## The running check -/

theorem addCarry_modEq (a w : Nat) : addCarry a w ≡ a + w [MOD 0xFFFF] := by
  unfold addCarry Nat.ModEq
  split <;> omega

theorem addCarry_le {a w : Nat} (ha : a ≤ 0xFFFF) (hw : w ≤ 0xFFFF) : addCarry a w ≤ 0xFFFF := by
  unfold addCarry
  split <;> omega

theorem wordsOf_le (bs : List Byte) : ∀ w ∈ wordsOf bs, w ≤ 0xFFFF := by
  induction bs using wordsOf.induct with
  | case1 lo hi bs ih =>
    intro w hw
    rcases List.mem_cons.mp hw with rfl | hw
    · have hlo := lo.isLt
      have hhi := hi.isLt
      omega
    · exact ih w hw
  | case2 bs hshort =>
    intro w hw
    rw [wordsOf] at hw
    · cases hw
    · exact hshort

theorem foldl_addCarry_modEq (ws : List Nat) (a : Nat) : ws.foldl addCarry a ≡ a + ws.sum [MOD 0xFFFF] := by
  induction ws generalizing a with
  | nil => rfl
  | cons w ws ih =>
    rw [List.foldl_cons, List.sum_cons, ← Nat.add_assoc]
    exact (ih _).trans ((addCarry_modEq a w).add_right _)

theorem foldl_addCarry_le {ws : List Nat} (hws : ∀ w ∈ ws, w ≤ 0xFFFF) {a : Nat} (ha : a ≤ 0xFFFF) :
    ws.foldl addCarry a ≤ 0xFFFF := by
  induction ws generalizing a with
  | nil => exact ha
  | cons w ws ih =>
    exact ih (fun x hx => hws x (List.mem_cons_of_mem w hx)) (addCarry_le ha (hws w List.mem_cons_self))

/-- R61: the negated words take the block's sum away. -/
theorem foldl_negated_modEq {ws : List Nat} (hws : ∀ w ∈ ws, w ≤ 0xFFFF) (a : Nat) :
    ws.foldl (fun a w => addCarry a (0xFFFF - w)) a + ws.sum ≡ a [MOD 0xFFFF] := by
  induction ws generalizing a with
  | nil => rfl
  | cons w ws ih =>
    have hw := hws w List.mem_cons_self
    have hrest := ih (fun x hx => hws x (List.mem_cons_of_mem w hx)) (addCarry a (0xFFFF - w))
    have hfirst : addCarry a (0xFFFF - w) + w ≡ a [MOD 0xFFFF] := by
      unfold addCarry Nat.ModEq
      split <;> omega
    rw [List.foldl_cons, List.sum_cons, Nat.add_comm w, ← Nat.add_assoc]
    exact (hrest.add_right w).trans hfirst

theorem removeBlock_le {a : Nat} (ha : a ≤ 0xFFFF) (block : List Byte) : removeBlock a block ≤ 0xFFFF := by
  have hle : ∀ ws : List Nat, ∀ a, a ≤ 0xFFFF → ws.foldl (fun a w => addCarry a (0xFFFF - w)) a ≤ 0xFFFF := by
    intro ws
    induction ws with
    | nil => exact fun _ h => h
    | cons w ws ih => exact fun a ha => ih _ (addCarry_le ha (Nat.sub_le ..))
  exact hle _ _ ha

/-- Settles O26: sums modulo FFFFh. -/
theorem runningCheckFollowsTheBlock : Obligations.RunningCheckFollowsTheBlock := by
  intro a old new ha
  have hadded : addBlock a old ≡ a + (wordsOf old).sum [MOD 0xFFFF] := foldl_addCarry_modEq _ _
  have hremoved : removeBlock (addBlock a old) old ≡ a [MOD 0xFFFF] :=
    Nat.ModEq.add_right_cancel' _ ((foldl_negated_modEq (wordsOf_le old) _).trans hadded)
  have hnew : addBlock (removeBlock (addBlock a old) old) new ≡ a + (wordsOf new).sum [MOD 0xFFFF] :=
    (foldl_addCarry_modEq _ _).trans (hremoved.add_right _)
  exact ⟨hnew.trans (foldl_addCarry_modEq (wordsOf new) a).symm,
    foldl_addCarry_le (wordsOf_le new) (removeBlock_le (foldl_addCarry_le (wordsOf_le old) ha) old)⟩

/-! ## A loss of power during a block write (R30) -/

@[simp] theorem tornBlock_length (use : Nat) (m : List Host.Cell) (a : Nat) (bs : List Byte) (pos : Nat) :
    (tornBlock use m a pos bs).length = bs.length := by
  induction bs generalizing pos with
  | nil => rfl
  | cons b bs ih => simp [tornBlock, ih]

/-- R30: each byte of the block is new or old. -/
theorem tornBlock_getD (use : Nat) (m : List Host.Cell) (a : Nat) (bs : List Byte) (pos : Nat) {i : Nat}
    (hi : i < bs.length) : (tornBlock use m a pos bs).getD i 0 = bs.getD i 0
      ∨ (tornBlock use m a pos bs).getD i 0 = readByte m (a + pos + i) := by
  induction bs generalizing pos i with
  | nil => cases hi
  | cons b bs ih =>
    cases i with
    | zero =>
      rw [tornBlock]
      split
      · exact .inl rfl
      · exact .inr rfl
    | succ i =>
      have hrest := ih (pos + 1) (Nat.lt_of_succ_lt_succ hi)
      rw [show a + (pos + 1) + i = a + pos + (i + 1) by omega] at hrest
      exact hrest

/-- R30: SRAM after a loss of slot power. -/
theorem tornSram_cases (s : State) : tornSram s = s.sram ∨ ∃ (cs : CommitStep) (bs : List Byte),
    s.port.burst = some (.commit cs) ∧ cs.dir = .write ∧ bs.length = cs.data.length
      ∧ (∀ i, i < bs.length → bs.getD i 0 = cs.data.getD i 0 ∨ bs.getD i 0 = readByte s.sram (cs.addr + i))
      ∧ tornSram s = writeBytes s.sram cs.addr bs := by
  unfold tornSram
  split
  · rename_i cs hburst
    split
    · rename_i hdir
      refine .inr ⟨cs, tornBlock s.free s.sram cs.addr 0 cs.data, hburst, hdir, tornBlock_length .., fun i hi => ?_, rfl⟩
      rw [tornBlock_length] at hi
      exact tornBlock_getD s.free s.sram cs.addr cs.data 0 hi
    · exact .inl rfl
    · exact .inl rfl
  · exact .inl rfl

/-! ## What commands make of SRAM -/

/-- R174: the entry into WARN leaves a burst in progress. -/
theorem warnIfBelow_burst {mv : Nat} {s : State} {b : Burst} (h : s.port.burst = some b) :
    (warnIfBelow (setVslot mv s)).port.burst = some b := by
  unfold warnIfBelow
  split
  · refine settle_burst_of_some ?_
    simpa [silence, markWaiting] using h
  · exact h

/-- R173: from OFF no transition leads to WARN. -/
theorem inWarn_warnIfBelow {mv : Nat} {s : State} (h : inWarn (warnIfBelow (setVslot mv s)) = true) :
    s.supply.state ≠ .off := by
  intro hoff
  have hstill : warnIfBelow (setVslot mv s) = setVslot mv s :=
    if_neg fun hand => by simp [canEnterWarn, setVslot, hoff] at hand
  rw [hstill] at h
  simp [inWarn, setVslot, hoff] at h

/-- R30: what a change of VSLOT makes of SRAM. -/
theorem vslotBecomes_sram (mv : Nat) (s : State) : (vslotBecomes mv s).sram = s.sram
    ∨ ∃ (cs : CommitStep) (bs : List Byte), (vslotBecomes mv s).supply.state = .off ∧ s.supply.state ≠ .off
      ∧ (warnIfBelow (setVslot mv s)).port.burst = some (.commit cs)
      ∧ (s.port.burst ≠ none → s.port.burst = some (.commit cs))
      ∧ cs.dir = .write ∧ bs.length = cs.data.length
      ∧ (∀ i, i < bs.length → bs.getD i 0 = cs.data.getD i 0 ∨ bs.getD i 0 = readByte s.sram (cs.addr + i))
      ∧ (vslotBecomes mv s).sram = writeBytes s.sram cs.addr bs := by
  have hsram : (warnIfBelow (setVslot mv s)).sram = s.sram := by simp
  by_cases hoff : inWarn (warnIfBelow (setVslot mv s)) = true ∧ (warnIfBelow (setVslot mv s)).supply.vslot < 2500
  · have hfall : vslotBecomes mv s = switchOff (warnIfBelow (setVslot mv s)) := if_pos hoff
    rw [hfall]
    rcases tornSram_cases (warnIfBelow (setVslot mv s)) with h | ⟨cs, bs, hburst, hdir, hlen, hbytes, htorn⟩
    · exact .inl (h.trans hsram)
    · rw [hsram] at hbytes htorn
      refine .inr ⟨cs, bs, rfl, inWarn_warnIfBelow hoff.1, hburst, fun hsome => ?_, hdir, hlen, hbytes, htorn⟩
      obtain ⟨b, hb⟩ := Option.ne_none_iff_exists'.mp hsome
      rw [hb, ← warnIfBelow_burst hb, hburst]
  · have hstay : vslotBecomes mv s = warnIfBelow (setVslot mv s) := if_neg hoff
    exact .inl (by rw [hstay, hsram])

theorem AnswerEffect.sram {k : Kind} {s t : State} (h : AnswerEffect k s t) : t.sram = s.sram := by
  cases h with
  | clockSet | turnSet => simp
  | _ => simp

/-- R190: no request changes SRAM. -/
theorem serve_sram (k : Kind) (q : Request) (s : State) : (serve k q (ownerOf k q) s).sram = s.sram :=
  serve_induction (P := fun u => u.sram = s.sram) (fun _ _ _ _ h => h) (fun h => by rw [endSelection_sram, h])
    (fun arm u h => (answer_effect k q arm u).sram.trans h) rfl

/-- Settles O27: the block write's completion, the changes of VSLOT, and the commands that leave SRAM as it is. -/
theorem onlyBlockWritesChangeSram : Obligations.OnlyBlockWritesChangeSram := by
  intro c s t h
  cases hc : c.request with
  | some kq =>
    obtain ⟨k, q⟩ := kq
    rw [request_eq_some hc, exec_requestOf] at h
    cases h
    exact .inl (serve_sram k q s)
  | none =>
    cases c with
    | vslotThresholdChange mv =>
      cases h
      rcases vslotBecomes_sram mv s with hsame | ⟨cs, bs, htorn⟩
      · exact .inl hsame
      · exact .inr (.inr ⟨mv, cs, bs, .inl rfl, htorn⟩)
    | warnEntry mv =>
      cases h
      split
      · rcases vslotBecomes_sram mv s with hsame | ⟨cs, bs, htorn⟩
        · exact .inl hsame
        · exact .inr (.inr ⟨mv, cs, bs, .inr (.inl rfl), htorn⟩)
      · exact .inl rfl
    | supplyOff mv =>
      cases h
      split
      · rcases vslotBecomes_sram mv s with hsame | ⟨cs, bs, htorn⟩
        · exact .inl hsame
        · exact .inr (.inr ⟨mv, cs, bs, .inr (.inr rfl), htorn⟩)
      · exact .inl rfl
    | commitStepCompletion bus =>
      simp only [exec, execCommitStepCompletion] at h
      split at h
      · rename_i cs hburst
        cases h
        cases hdir : cs.dir with
        | write =>
          refine .inr (.inl ⟨bus, cs, rfl, hburst, hdir, ?_⟩)
          simp [burstStores, hdir]
        | read | readBack =>
          refine .inl ?_
          simp [burstStores, hdir]
      · cases h
        exact .inl rfl
    | titleResetTaken =>
      simp only [exec, execTitleResetTaken] at h
      split at h <;> cases h <;> exact .inl (by simp)
    | directoryLoadBurstCompletion bus =>
      simp only [exec, execDirectoryLoadBurstCompletion] at h
      split at h <;> cases h <;> exact .inl (by simp)
    | scanStepCompletion bus =>
      simp only [exec, execScanStepCompletion] at h
      split at h <;> cases h <;> exact .inl (by simp)
    | refillCompletion bus =>
      simp only [exec, execRefillCompletion] at h
      split at h <;> cases h <;> exact .inl (by simp)
    | linkReadCompletion bus =>
      simp only [exec, execLinkReadCompletion] at h
      split at h <;> cases h <;> exact .inl (by simp)
    | srstAssertion =>
      cases h
      refine .inl ?_
      split
      · rfl
      · split
        · rfl
        · dsimp only
          split <;> simp
    | clockTick | minuteBoundary | endOfRange | dayTurn =>
      cases h
      exact .inl (by simp)
    | srstRelease =>
      cases h
      exact .inl rfl
    | selectionEnd | unknownKind | frameError | selectionWithoutFrame | offToStart | normalToLow | lowToNormal | warnRecovery
    | cellMeasurementCompletion | linkOpen | dayBlockLoad | frame | envelopeTick | rumbleTick | heatTick
    | holdTimerExpiry | stepEnd =>
      cases h
      refine .inl ?_
      split <;> simp
    | _ => simp [Instr.request] at hc

end Sys2Proof.Machine
end

section
/-! PROOF. The supply transitions with a hold time (R173, R175, R176), and the measurements (R178 to R182). -/

namespace Sys2Proof.Machine

/-! ## Timed transitions -/

theorem changeSupply_link (st : SupplyState) (s : State) : (changeSupply st s).link = (notify (.supplyChange st) s).link :=
  notify_link_congr (s := { s with supply := { s.supply with
    state := st, timers := timersFor st s.supply.vslot s.supply.phase } }) (t := s) rfl _

/-- R165, R173: what follows a change of supply state that the slot domain lives through. -/
theorem settle_changeSupply (st : SupplyState) (s : State) :
    (settle (changeSupply st s)).supply
        = { s.supply with state := st, timers := timersFor st s.supply.vslot s.supply.phase }
    ∧ (settle (changeSupply st s)).link = (notify (.supplyChange st) s).link
    ∧ (settle (changeSupply st s)).rumble = { s.rumble with
        ceiling := ceilingOf (settle (changeSupply st s))
        applied := appliedFrom s.rumble.lastDemand (ceilingOf (settle (changeSupply st s))) s.rumble.limiter }
    ∧ (settle (changeSupply st s)).mixer = s.mixer ∧ (settle (changeSupply st s)).clock = s.clock
    ∧ (settle (changeSupply st s)).dir = s.dir ∧ (settle (changeSupply st s)).sram = s.sram := by
  refine ⟨by simp, by rw [settle_link, changeSupply_link], ?_, by simp, by simp, by simp, by simp⟩
  rw [settle_rumble, changeSupply_rumble]

/-- Settles O56: each transition, and none without its timer. -/
theorem timedSupplyTransitions : Obligations.TimedSupplyTransitions := by
  intro s
  refine ⟨fun hst htimer => ⟨_, congrArg Host.Outcome.next (if_pos ⟨hst, htimer⟩), settle_changeSupply .low s⟩,
    fun hst htimer => ⟨_, congrArg Host.Outcome.next (if_pos ⟨hst, htimer⟩), settle_changeSupply .normal s⟩, fun hst htimer => ?_,
    fun retained hst htimer => congrArg Host.Outcome.next (if_pos ⟨hst, htimer⟩), fun htimer => congrArg Host.Outcome.next (if_neg (by simp [htimer])),
    fun htimer => congrArg Host.Outcome.next (if_neg (by simp [htimer])),
    fun hlow hstart => congrArg Host.Outcome.next (if_neg (by simp [recoveryTimed, hlow, hstart])),
    fun retained htimer => congrArg Host.Outcome.next (if_neg (by simp [htimer]))⟩
  have htimed : recoveryTimed s = true := by simpa [recoveryTimed] using htimer
  have hwarn : inWarn s = true := inWarn_iff.mpr hst
  refine ⟨_, recoveryState s, congrArg Host.Outcome.next (if_pos ⟨hwarn, htimed⟩), rfl, ?_, ?_, ?_, by simp, by simp, by simp, by simp⟩
  · rw [settle_supply, passOn, changeSupply_supply]
  · rw [settle_link, passOn_link, changeSupply_link]
  · rw [settle_rumble, passOn_rumble, changeSupply_rumble]

/-! ## Measurements -/

/-- R179: the completion of a measurement. -/
theorem completeMeasurement_eq {mv r : Nat} {c : CellState} (s : State) (hr : r = min 3990 (mv / 10 * 10))
    (hc : c = if 2700 ≤ r then .good else if 2400 ≤ r then .weak else .flat) : completeMeasurement mv s
      = if c ≠ s.supply.cell ∨ s.supply.checkWaiting = true then
          notify (.cellState c r)
            { s with supply := { s.supply with cell := c, reading := r, measuring := false, checkWaiting := false } }
        else { s with supply := { s.supply with cell := c, reading := r, measuring := false, checkWaiting := false } } := by
  subst hr hc
  rfl

theorem completeMeasurement_link {mv r : Nat} {c : CellState} (s : State) (hr : r = min 3990 (mv / 10 * 10))
    (hc : c = if 2700 ≤ r then .good else if 2400 ≤ r then .weak else .flat) : (completeMeasurement mv s).link
      = (if c ≠ s.supply.cell ∨ s.supply.checkWaiting = true then notify (.cellState c r) s else s).link := by
  rw [completeMeasurement_eq s hr hc]
  split_ifs
  · exact notify_link_congr (by rfl) _
  · rfl

/-- R86, R181: the pending report. -/
theorem retentionIntact_clock (s : State) : (retentionIntact s).clock = { s.clock with pendingLimit := false } := by
  unfold retentionIntact
  split
  · simp
  · rename_i h
    have hnone : s.clock.pendingLimit = false := by simpa using h
    rw [← hnone]

theorem retentionIntact_link (s : State) : (retentionIntact s).link
    = (if s.clock.pendingLimit = true then notify (.clockState .limit) s else s).link := by
  unfold retentionIntact
  split_ifs
  · exact notify_link_congr (by rfl) _
  · rfl

/-- R68, R96: the loss of retention. -/
theorem retentionLost_fields (s : State) : (retentionLost s).save = { s.save with kept := { mark := true } }
    ∧ (retentionLost s).clock = lostClock s.clock
    ∧ (retentionLost s).link = (notify (.clockState .unset) s).link :=
  ⟨by simp [retentionLost], by simp [retentionLost],
    notify_link_congr (s := { s with save := { s.save with kept := { mark := true } }, clock := lostClock s.clock })
      (t := s) rfl _⟩

theorem checkRetention_of_intact {s : State} (h : s.save.kept.mark = true) : checkRetention s = postLoad .header
    { retentionIntact s with supply := { (retentionIntact s).supply with phase := 3, retention := .intact } } := by
  simp only [checkRetention, h, if_true]

theorem checkRetention_of_lost {s : State} (h : s.save.kept.mark = false) : checkRetention s = postLoad .header
    { retentionLost s with supply := { (retentionLost s).supply with phase := 3, retention := .lost } } := by
  simp only [checkRetention, h, Bool.false_eq_true, if_false]

/-- R44: before phase 5 the engine takes no slot from the queue. -/
theorem settle_save_of_early {s : State} (h : s.supply.phase < 5) : (settle s).save = (fillClock s).save := by
  have hphase : ¬ 5 ≤ (fillClock s).supply.phase := by rw [fillClock_supply]; omega
  rw [settle_save, takeHead]
  split
  · rw [if_neg hphase]
  · rfl

/-- R50: the fill touches the title slot's order alone. -/
theorem fillClock_title (s : State) : (fillClock s).save.kept.title = s.save.kept.title
    ∨ (fillClock s).save.kept.title = firstInOrder s.save.kept.title := by
  unfold fillClock
  split
  · split
    · exact .inl rfl
    · rw [joinQueue_clock_eq]
      exact .inr rfl
  · exact .inl rfl

theorem fillClock_of_not_in_service {s : State} (h : s.days.inService = false) : fillClock s = s :=
  fillClock_of_not_due (Bool.eq_false_iff.mpr fun hdue =>
    Bool.noConfusion (h.symm.trans (fillDue_iff.mp hdue).1))

/-- R1, R182: phase 3 begun: the header's burst is under way, and the fill alone touches kept RAM. -/
theorem settle_postLoad_header {s : State} (h : s.supply.phase = 3) :
    (settle (postLoad .header s)).dir.loading = some .header ∧ loadUnderWay 0 (settle (postLoad .header s))
    ∧ (settle (postLoad .header s)).supply = s.supply ∧ (settle (postLoad .header s)).link = s.link
    ∧ (settle (postLoad .header s)).clock = s.clock ∧ (settle (postLoad .header s)).sram = s.sram
    ∧ (settle (postLoad .header s)).save = (fillClock (postLoad .header s)).save
    ∧ (s.days.inService = false → (settle (postLoad .header s)).save = s.save) := by
  have hsave := settle_save_of_early (s := postLoad .header s) (by rw [postLoad_supply]; omega)
  refine ⟨by rw [settle_dir]; rfl, loadUnderWay_settle rfl, by simp, by simp, by simp, by simp, hsave, fun hserved => ?_⟩
  rw [hsave, fillClock_of_not_in_service (by rw [postLoad_days]; exact hserved), postLoad_save]

/-- R50: what the fill leaves of kept RAM. -/
theorem fillClock_kept (s : State) : (fillClock s).save.kept.mark = s.save.kept.mark
    ∧ (fillClock s).save.kept.records = s.save.kept.records ∧ (fillClock s).save.kept.master = s.save.kept.master
    ∧ (fillClock s).save.kept.outcome = s.save.kept.outcome := by
  obtain ⟨o, c, q, hfill⟩ := fillClock_save s
  rw [hfill]
  exact ⟨rfl, rfl, rfl, rfl⟩

/-- Settles O57: CELL_CHECK, a later measurement, and the first one with phases 2 and 3. -/
theorem measurementsComplete : Obligations.MeasurementsComplete := by
  refine ⟨fun tag level s h => exec_of_takes (a := .now { heard s with
      supply := { s.supply with measuring := true, checkWaiting := true } } .started []) h rfl, fun mv r c s hoff hmeasuring hphase hr hc => ?_,
    fun mv s hidle => congrArg Host.Outcome.next (if_neg (by simp [hidle])), fun mv r c s u hoff hmeasuring hphase hr hc hu => ?_⟩
  · have hup : slotUp s = true := by simp [slotUp, hoff]
    have hafter : afterMeasurement (completeMeasurement mv s) = completeMeasurement mv s :=
      if_neg (by rw [completeMeasurement_supply]; exact hphase)
    refine congrArg Host.Outcome.next ((if_pos ⟨hup, hmeasuring⟩).trans (hafter.trans ?_))
    exact completeMeasurement_eq s hr hc
  · have hup : slotUp s = true := by simp [slotUp, hoff]
    have hafter : afterMeasurement (completeMeasurement mv s) = settle (checkRetention (completeMeasurement mv s)) :=
      if_pos (by rw [completeMeasurement_supply]; exact hphase)
    have hexec : exec (.cellMeasurementCompletion mv) s
        = .next (settle (checkRetention (completeMeasurement mv s))) :=
      congrArg Host.Outcome.next ((if_pos ⟨hup, hmeasuring⟩).trans hafter)
    have hlink : (completeMeasurement mv s).link = u.link := hu ▸ completeMeasurement_link s hr hc
    have hnotify : ∀ n, (notify n (completeMeasurement mv s)).link = (notify n u).link := notify_link_congr hlink
    have hcell : cellStateOf (readingOf mv) = c := by rw [hc, hr]; rfl
    cases hmark : s.save.kept.mark with
    | true =>
      have hchecked := checkRetention_of_intact (s := completeMeasurement mv s) (by simpa using hmark)
      rw [hchecked] at hexec
      obtain ⟨hloading, hload, hsupply, hl, hclock, hsram, hsave, hkept⟩ := settle_postLoad_header
        (s := { retentionIntact (completeMeasurement mv s) with
          supply := { (retentionIntact (completeMeasurement mv s)).supply with phase := 3, retention := .intact } }) rfl
      have hsaved : (retentionIntact (completeMeasurement mv s)).save = s.save := by simp
      obtain ⟨kmark, krecords, kmaster, -⟩ := fillClock_kept (postLoad .header
        { retentionIntact (completeMeasurement mv s) with
          supply := { (retentionIntact (completeMeasurement mv s)).supply with phase := 3, retention := .intact } })
      refine ⟨_, hexec, ?_, ?_, hloading, hload, fun _ => ⟨?_, ?_, ?_, fun hserved => ?_, ?_⟩, fun h => absurd h (by simp), ?_⟩
      · rw [hsupply, retentionIntact_supply, completeMeasurement_supply, hcell, hr]
        rfl
      · refine hl.trans ((retentionIntact_link _).trans ?_)
        rw [completeMeasurement_clock, if_pos rfl]
        split_ifs
        · exact hnotify _
        · exact hlink
      · rw [hsave, kmark]
        exact (congrArg (fun k => k.kept.mark) hsaved).trans hmark
      · rw [hsave, krecords]
        exact congrArg (fun k => k.kept.records) hsaved
      · rw [hsave, kmaster]
        exact congrArg (fun k => k.kept.master) hsaved
      · rw [hkept (by simpa using hserved)]
        exact congrArg Save.kept hsaved
      · rw [hclock, retentionIntact_clock, completeMeasurement_clock]
      · rw [hsram]
        simp
    | false =>
      have hchecked := checkRetention_of_lost (s := completeMeasurement mv s) (by simpa using hmark)
      rw [hchecked] at hexec
      obtain ⟨hloading, hload, hsupply, hl, hclock, hsram, hsave, hkept⟩ := settle_postLoad_header
        (s := { retentionLost (completeMeasurement mv s) with
          supply := { (retentionLost (completeMeasurement mv s)).supply with phase := 3, retention := .lost } }) rfl
      obtain ⟨hsaved, hlost, hlink'⟩ := retentionLost_fields (completeMeasurement mv s)
      obtain ⟨kmark, krecords, kmaster, koutcome⟩ := fillClock_kept (postLoad .header
        { retentionLost (completeMeasurement mv s) with
          supply := { (retentionLost (completeMeasurement mv s)).supply with phase := 3, retention := .lost } })
      refine ⟨_, hexec, ?_, ?_, hloading, hload, fun h => absurd h (by simp),
        fun _ => ⟨?_, ?_, ?_, ?_, ?_, fun hserved => ?_, ?_⟩, ?_⟩
      · rw [hsupply, retentionLost_supply, completeMeasurement_supply, hcell, hr]
        rfl
      · rw [hl, hlink', hnotify]
        rfl
      · rw [hsave, kmark]
        exact congrArg (fun k => k.kept.mark) hsaved
      · rw [hsave, krecords]
        exact congrArg (fun k => k.kept.records) hsaved
      · have htitle : (retentionLost (completeMeasurement mv s)).save.kept.title = {} :=
          congrArg (fun k => k.kept.title) hsaved
        rw [hsave]
        rcases fillClock_title (postLoad .header { retentionLost (completeMeasurement mv s) with supply :=
          { (retentionLost (completeMeasurement mv s)).supply with phase := 3, retention := .lost } }) with ht | ht
        · exact ht.trans htitle
        · exact ht.trans (congrArg firstInOrder htitle)
      · rw [hsave, koutcome]
        exact congrArg (fun k => k.kept.outcome) hsaved
      · rw [hsave, kmaster]
        exact congrArg (fun k => k.kept.master) hsaved
      · rw [hkept (by simpa using hserved)]
        exact congrArg Save.kept hsaved
      · rw [hclock, hlost, lostClock, completeMeasurement_clock]
      · rw [hsram]
        simp

end Sys2Proof.Machine
end

section
/-! PROOF. VSLOT's events (R173, R174, R185, R30): the entry into WARN and the fall to OFF. -/

namespace Sys2Proof.Machine

variable {s : State}

/-! ## The timers and the budget -/

theorem timersFor_eq (st : SupplyState) (mv phase : Nat) : timersFor st mv phase =
    { offToStart := decide (st = .off ∧ 3000 ≤ mv), normalToLow := decide (st = .normal ∧ mv < 3000)
      lowToNormal := decide (st = .low ∧ 3100 ≤ mv), warnToLow := decide (st = .warn ∧ 2900 ≤ mv ∧ phase = 8)
      warnToStart := decide (st = .warn ∧ 2900 ≤ mv ∧ phase ≠ 8) } := by
  cases st <;> simp [timersFor, Bool.decide_and, bne, beq_eq_decide]

theorem timersFor_warn {mv : Nat} (phase : Nat) (h : mv < 2900) : timersFor .warn mv phase = {} := by
  simp [timersFor, h]

theorem timersFor_off {mv : Nat} (phase : Nat) (h : mv < 3000) : timersFor .off mv phase = {} := by
  simp [timersFor, h]

/-- R164, R174: no budget in WARN. -/
theorem ceilingOf_of_warn (h : s.supply.state = .warn) : ceilingOf s = 0 := by
  simp [ceilingOf, h, budget]

theorem appliedFrom_zero_ceiling (demand : Nat) (limiter : Bool) : appliedFrom demand 0 limiter = 0 := by
  cases limiter <;> simp [appliedFrom]

/-! ## What follows an event in WARN -/

/-- R115, R140: in WARN no fill is made. -/
theorem fillClock_of_warn (h : s.supply.state = .warn) : fillClock s = s :=
  fillClock_of_not_due (Bool.eq_false_iff.mpr fun hdue => by
    obtain ⟨-, -, -, hwarn, -⟩ := fillDue_iff.mp hdue
    exact hwarn h)

/-- R28: in WARN a commit step alone is granted. -/
theorem grant_of_warn (h : s.supply.state = .warn) : grant s = s ∨ s.port.burst = none ∧ ∃ c, s.port.commit = some c
    ∧ grant s = { s with port := { s.port with burst := some (.commit c), commit := none, starvation := 0 } } := by
  rcases grant_cases s with hg | ⟨hfree, g, -, hchoice, hg⟩
  · exact .inl hg
  · rw [chooseGrant_of_warn (inWarn_iff.mpr h)] at hchoice
    obtain ⟨c, hc, rfl⟩ := Option.map_eq_some_iff.mp hchoice
    exact .inr ⟨hfree, c, hc, hg⟩

/-- R28, R140: what follows an event in WARN: no refill waits, no voice changes, and without a commit step nothing is
granted. -/
theorem settle_of_warn (h : s.supply.state = .warn) : (settle s).port.refills = [] ∧ (settle s).voices = s.voices
    ∧ (settle s).days = s.days
    ∧ (s.port.commit = none → s.save.kept.queue = [] → (settle s).port.burst = s.port.burst) := by
  have hwarn : (takeHead s).supply.state = .warn := by simpa using h
  have hsettle : settle s = grant (recompute (postRefills (takeHead s))) := by rw [settle, fillClock_of_warn h]
  have hrefills : (recompute (postRefills (takeHead s))).port.refills = [] := if_pos (inWarn_iff.mpr hwarn)
  have hvoices : (recompute (postRefills (takeHead s))).voices = s.voices := by simp
  have hdays : (recompute (postRefills (takeHead s))).days = s.days := by simp
  have hcommit : s.save.kept.queue = [] → takeHead s = s := by
    intro hq
    rw [takeHead, hq]
    split
    · rename_i hhead
      cases hhead
    · rfl
  rcases grant_of_warn (s := recompute (postRefills (takeHead s))) (by simpa using h) with hg | ⟨-, c, hc, hg⟩
  · rw [hsettle, hg]
    refine ⟨hrefills, hvoices, hdays, fun _ hq => ?_⟩
    rw [hcommit hq]
    rfl
  · rw [hsettle, hg]
    refine ⟨hrefills, hvoices, hdays, fun hnone hq => ?_⟩
    rw [hcommit hq] at hc
    cases hnone.symm.trans hc

/-! ## The entry into WARN -/

theorem shed_fields (s : State) : (shed s).rumble = { s.rumble with
      current := none, waiting := [], follow := none, ceiling := (shed s).rumble.ceiling, applied := (shed s).rumble.applied }
    ∧ (shed s).link = (notify (.rumbleState .shed) s).link := by
  refine ⟨?_, notify_link_congr (by rfl) _⟩
  rw [shed, reportRumble, notify_rumble]
  rfl

/-- R174: the entry into WARN. -/
theorem enterWarn_spec {mv : Nat} (hmv : mv < 2800) (hv : s.supply.vslot = mv) :
    (enterWarn s).supply = { s.supply with
        state := .warn, timers := {}
        waiting := s.supply.waiting || decide (s.supply.phase = 5) || decide (s.supply.phase = 7) }
    ∧ (enterWarn s).rumble = { s.rumble with current := none, waiting := [], follow := none, ceiling := 0, applied := 0 }
    ∧ (enterWarn s).link = (notify (.rumbleState .shed) (notify (.supplyChange .warn) s)).link
    ∧ (enterWarn s).port.refills = [] ∧ (enterWarn s).voices = s.voices
    ∧ (enterWarn s).mixer = { s.mixer with left := 0, right := 0 } ∧ (enterWarn s).days = s.days
    ∧ (enterWarn s).save.kept.records = s.save.kept.records
    ∧ (s.port.commit = none → s.save.kept.queue = [] → (enterWarn s).port.burst = s.port.burst) := by
  have hsupply : (shed (silence (markWaiting (changeSupply .warn s)))).supply = { s.supply with
      state := .warn, timers := {}
      waiting := s.supply.waiting || decide (s.supply.phase = 5) || decide (s.supply.phase = 7) } := by
    rw [shed_supply, silence, markWaiting, waitsInWarn, changeSupply_supply, timersFor_warn _ (by omega), Bool.or_assoc]
    rfl
  have hwarn : (shed (silence (markWaiting (changeSupply .warn s)))).supply.state = .warn := by rw [hsupply]
  have hsettled : (enterWarn s).supply.state = .warn := by rw [enterWarn, settle_supply, hwarn]
  obtain ⟨hrefills, hvoices, hdays, hburst⟩ := settle_of_warn hwarn
  obtain ⟨hrumble, hlink⟩ := shed_fields (silence (markWaiting (changeSupply .warn s)))
  refine ⟨by rw [enterWarn, settle_supply, hsupply], ?_, ?_, hrefills, ?_, ?_, ?_, ?_, fun hc hq => ?_⟩
  · rw [enterWarn] at hsettled ⊢
    rw [settle_rumble, ceilingOf_of_warn hsettled, appliedFrom_zero_ceiling, hrumble]
    simp [silence, markWaiting]
  · rw [enterWarn, settle_link, hlink]
    exact notify_link_congr (s := silence (markWaiting (changeSupply .warn s))) (changeSupply_link .warn s) _
  · rw [enterWarn, hvoices]
    simp [silence, markWaiting]
  · rw [enterWarn, settle_mixer, shed_mixer]
    simp [silence, markWaiting]
  · rw [enterWarn, hdays]
    simp [silence, markWaiting]
  · rw [enterWarn, (settle_records _).1]
    simp [silence, markWaiting]
  · rw [enterWarn, hburst (by simpa [silence, markWaiting] using hc) (by simpa [silence, markWaiting] using hq)]
    simp [silence, markWaiting]

/-! ## The fall to OFF -/

/-- R30: without a block write in progress SRAM is kept. -/
theorem tornSram_of_no_write (h : ∀ c, s.port.burst = some (.commit c) → c.dir ≠ .write) : tornSram s = s.sram := by
  rcases tornSram_cases s with heq | ⟨cs, bs, hburst, hdir, -⟩
  · exact heq
  · exact absurd hdir (h cs hburst)

theorem canEnterWarn_iff : canEnterWarn s = true
    ↔ s.supply.state = .start ∨ s.supply.state = .normal ∨ s.supply.state = .low := by
  simp [canEnterWarn, or_assoc]

/-- Settles O55: no transition, the entry into WARN, the fall from WARN, and the fall through WARN. -/
theorem supplyFollowsVslot : Obligations.SupplyFollowsVslot := by
  intro mv s
  have hset : (setVslot mv s).supply.state = s.supply.state := rfl
  refine ⟨fun hstay => ?_, fun hst h25 h28 => ?_, fun hst h25 => ?_, fun hst h25 => ?_⟩
  · have hwarn : warnIfBelow (setVslot mv s) = setVslot mv s := if_neg fun ⟨hcan, hlow⟩ => by
      rw [canEnterWarn_iff, hset] at hcan
      have hlow' : mv < 2800 := hlow
      rcases hstay with h | ⟨h, -⟩ | ⟨-, h⟩
      · simp [h] at hcan
      · simp [h] at hcan
      · omega
    have hoff : offIfBelow (setVslot mv s) = setVslot mv s := if_neg fun ⟨hcan, hlow⟩ => by
      rw [inWarn_iff, hset] at hcan
      have hlow' : mv < 2500 := hlow
      rcases hstay with h | ⟨-, h⟩ | ⟨h, -⟩
      · simp [h] at hcan
      · omega
      · simp [hcan] at h
    refine congrArg Host.Outcome.next ?_
    rw [vslotBecomes, hwarn, hoff, setVslot, timersFor_eq]
  · have hcan : canEnterWarn s = true := canEnterWarn_iff.mpr hst
    have hexec : exec (.warnEntry mv) s = exec (.vslotThresholdChange mv) s :=
      congrArg Host.Outcome.next (if_pos ⟨hcan, h28⟩)
    have hwarn : warnIfBelow (setVslot mv s) = enterWarn (setVslot mv s) := if_pos ⟨hcan, h28⟩
    obtain ⟨hsupply, hrumble, hlink, hrefills, hvoices, hmixer, hdays, -, -⟩ := enterWarn_spec (s := setVslot mv s) h28 rfl
    have hstays : vslotBecomes mv s = enterWarn (setVslot mv s) := by
      rw [vslotBecomes, hwarn, offIfBelow, hsupply]
      exact if_neg fun hand => absurd hand.2 (Nat.not_lt.mpr h25)
    refine ⟨hexec, enterWarn (setVslot mv s), hexec.trans (congrArg Host.Outcome.next hstays), hsupply, hrumble, ?_,
      hrefills, hvoices, ?_, ?_, hmixer, by simp, hdays, by simp, by simp⟩
    · exact hlink.trans (notify_link_congr (notify_link_congr (by rfl) _) _)
    · rw [aol, hmixer, ite_self]
    · rw [aor, hmixer, ite_self]
  · have hexec : exec (.supplyOff mv) s = exec (.vslotThresholdChange mv) s :=
      congrArg Host.Outcome.next (if_pos ⟨inWarn_iff.mpr hst, h25⟩)
    have hwarn : warnIfBelow (setVslot mv s) = setVslot mv s := if_neg fun ⟨hcan, _⟩ => by
      rw [canEnterWarn_iff, hset, hst] at hcan
      simp at hcan
    have hfall : vslotBecomes mv s = switchOff (setVslot mv s) := by
      rw [vslotBecomes, hwarn]
      exact if_pos ⟨inWarn_iff.mpr hst, h25⟩
    refine ⟨hexec, switchOff (setVslot mv s), hexec.trans (congrArg Host.Outcome.next hfall), ?_, fun hno => ?_⟩
    · have htimers : timersFor .off mv 1 = {} := timersFor_off 1 (by omega)
      rw [switchOff, ← htimers]
      rfl
    · exact tornSram_of_no_write (s := setVslot mv s) hno
  · have hcan : canEnterWarn s = true := canEnterWarn_iff.mpr hst
    have hexec : exec (.warnEntry mv) s = exec (.vslotThresholdChange mv) s :=
      congrArg Host.Outcome.next (if_pos ⟨hcan, by omega⟩)
    have hwarn : warnIfBelow (setVslot mv s) = enterWarn (setVslot mv s) := if_pos ⟨hcan, Nat.lt_trans h25 (by decide)⟩
    obtain ⟨hsupply, -, -, -, -, -, -, hrecords, hburst⟩ :=
      enterWarn_spec (s := setVslot mv s) (Nat.lt_trans h25 (by decide)) rfl
    have hfall : vslotBecomes mv s = switchOff (enterWarn (setVslot mv s)) := by
      rw [vslotBecomes, hwarn, offIfBelow, inWarn, hsupply]
      exact if_pos ⟨rfl, h25⟩
    refine ⟨hexec, switchOff (enterWarn (setVslot mv s)), hexec.trans (congrArg Host.Outcome.next hfall), ?_, ?_, rfl,
      hrecords, rfl, rfl, rfl, rfl, rfl, rfl, rfl, fun hno hcommit hqueue => ?_⟩
    · have htimers : timersFor .off mv 1 = {} := timersFor_off 1 (by omega)
      rw [switchOff, hsupply, ← htimers]
      rfl
    · rw [switchOff]
      exact enterWarn_clock _
    · refine (tornSram_of_no_write (s := enterWarn (setVslot mv s)) fun c hc => hno c ?_).trans (enterWarn_sram _)
      rw [hburst hcommit hqueue] at hc
      exact hc

end Sys2Proof.Machine
end

section
/-! PROOF. The opening of the link and the scan (R64, R65, R118, R182). -/

namespace Sys2Proof.Machine

/-! ## The scan under settling -/

@[simp] theorem takeHead_scan (s : State) : (takeHead s).save.scan = s.save.scan := by
  unfold takeHead
  split
  · split_ifs
    · rw [startCopy_eq, beginPart_eq]
      simp [postStep, takenFrom, setQueue, setKept]
    · rfl
  · rfl

@[simp] theorem settle_scan (s : State) : (settle s).save.scan = s.save.scan := by
  obtain ⟨o, c, q, hfill⟩ := fillClock_save s
  rw [settle_save, takeHead_scan, hfill]

/-- R64: the scan stands at `sc`, and its step is under way. -/
theorem settle_postScan (sc : Scan) (s : State) : (settle (postScan sc s)).save.scan = some sc
    ∧ scanUnderWay ((entryAt s sc.region).base + 64 * sc.block) (settle (postScan sc s)) :=
  ⟨settle_scan _, scanUnderWay_settle rfl⟩

theorem settle_scanFrom_of_some {i r : Nat} {s : State} (h : nextUnchecked s i = some r) :
    (settle (scanFrom i s)).save.scan = some ⟨r, 0, 0⟩ ∧ scanUnderWay (entryAt s r).base (settle (scanFrom i s))
    ∧ (settle (scanFrom i s)).supply = s.supply := by
  have hscan : scanFrom i s = postScan ⟨r, 0, 0⟩ s := by rw [scanFrom, h]
  rw [hscan]
  obtain ⟨hat, hway⟩ := settle_postScan ⟨r, 0, 0⟩ s
  exact ⟨hat, hway, by simp⟩

theorem settle_scanFrom_of_none {i : Nat} {s : State} (h : nextUnchecked s i = none) :
    (settle (scanFrom i s)).save.scan = none
    ∧ (settle (scanFrom i s)).supply = if inWarn s then { s.supply with waiting := true }
        else { s.supply with phase := 7, waiting := false } := by
  have hscan : scanFrom i s = endScan s := by rw [scanFrom, h]
  rw [hscan]
  exact ⟨settle_scan _, settle_supply _⟩

@[simp] theorem scanFrom_records (i : Nat) (s : State) :
    (scanFrom i s).save.kept.records = s.save.kept.records := by
  unfold scanFrom
  split <;> rfl

/-! ## A region judged (R64) -/

theorem judgeRegion_records (region sum : Nat) (s : State) : (judgeRegion region sum s).save.kept.records
    = (setRecord region { recordAt s region with
        state := if checksEqual sum (recordAt s region).check then .valid else .damaged } s).save.kept.records := by
  unfold judgeRegion
  dsimp only
  split_ifs <;> simp

theorem judgeRegion_link (region sum : Nat) (s : State) : (judgeRegion region sum s).link
    = (if checksEqual sum (recordAt s region).check then s
        else notify (.regionState region .damaged .scanMismatch) s).link := by
  unfold judgeRegion
  dsimp only
  split_ifs
  · rfl
  · exact notify_link_congr (by rfl) _

theorem recordAt_judgeRegion {region : Nat} (hlt : region < 24) (sum : Nat) (s : State) :
    recordAt (judgeRegion region sum s) region = { recordAt s region with
        state := if checksEqual sum (recordAt s region).check then .valid else .damaged } := by
  rw [recordAt_congr (judgeRegion_records region sum s), recordAt_setRecord_same _ _ _ hlt]

theorem recordAt_judgeRegion_other {region j : Nat} (hne : j ≠ region) (sum : Nat) (s : State) :
    recordAt (judgeRegion region sum s) j = recordAt s j := by
  rw [recordAt_congr (judgeRegion_records region sum s), recordAt_setRecord_other _ _ _ _ hne.symm]

/-- R64: the next UNCHECKED region follows from the directory and the records from selector `i` on. -/
theorem nextUnchecked_congr {s t : State} {i : Nat} (hdir : t.dir = s.dir)
    (hrecords : ∀ j, i ≤ j → recordAt t j = recordAt s j) : nextUnchecked t i = nextUnchecked s i := by
  unfold nextUnchecked
  congr 1
  funext j
  by_cases hj : i ≤ j
  · rw [hrecords j hj]
    simp only [inUse, isAccepted, entryAt, hdir]
  · simp [hj]

/-! ## A block scanned -/

/-- R118: the bytes handed to the calendar. -/
theorem handDays_days (region : Nat) (bytes : List Byte) (s : State) : (handDays region bytes s).days
    = { s.days with handed := if daysRegion s = some region then some bytes else s.days.handed } := by
  unfold handDays
  split_ifs <;> rfl

theorem scanBlock_days (sc : Scan) (bytes : List Byte) (s : State) :
    (scanBlock sc bytes s).days = (handDays sc.region bytes s).days := by
  unfold scanBlock
  dsimp only
  split_ifs <;> simp

/-- R115: the fill keeps the bytes that the scan handed over. -/
theorem settle_handed (s : State) : (settle s).days.handed = s.days.handed := by
  rw [settle_days_eq, fillClock_days_eq]
  split_ifs <;> rfl

theorem scanBlock_of_more {sc : Scan} {bytes : List Byte} {s : State}
    (h : 64 * (sc.block + 1) < (entryAt s sc.region).length) : scanBlock sc bytes s
      = postScan ⟨sc.region, sc.block + 1, addBlock sc.sum bytes⟩ (handDays sc.region bytes s) := if_pos h

theorem scanBlock_of_last {sc : Scan} {bytes : List Byte} {s : State}
    (h : (entryAt s sc.region).length ≤ 64 * (sc.block + 1)) : scanBlock sc bytes s
      = scanFrom (sc.region + 1) (judgeRegion sc.region (addBlock sc.sum bytes) (handDays sc.region bytes s)) :=
  if_neg (Nat.not_lt.mpr h)

theorem exec_scanStep {bus : List Byte} {a : Nat} {sc : Scan} {s : State} (hburst : s.port.burst = some (.scan a))
    (hscan : s.save.scan = some sc) : exec (.scanStepCompletion bus) s
      = .next (settle (scanBlock sc (burstBytes s.sram a 64 bus) (freeBus s))) := by
  have htakes : scanTakes (burstBytes s.sram a 64 bus) (freeBus s)
      = scanBlock sc (burstBytes s.sram a 64 bus) (freeBus s) := by
    rw [scanTakes, freeBus_save, hscan]
  change execScanStepCompletion bus s = _
  rw [execScanStepCompletion, hburst]
  exact congrArg (fun t => Host.Outcome.next (settle t)) htakes

/-- Settles the clause of O58 for a region's last block. -/
theorem lastBlock_spec {sc : Scan} {bytes : List Byte} {s : State} (hregion : sc.region < 24)
    (hlast : (entryAt s sc.region).length ≤ 64 * (sc.block + 1)) :
    ∃ (t : State) (r : Record), settle (scanBlock sc bytes (freeBus s)) = t
      ∧ r = { recordAt s sc.region with
          state := if checksEqual (addBlock sc.sum bytes) (recordAt s sc.region).check then .valid else .damaged }
      ∧ recordAt t sc.region = r
      ∧ (∀ j, j < 24 → j ≠ sc.region → recordAt t j = recordAt s j)
      ∧ t.link = (if r.state = .valid then s
          else notify (.regionState sc.region .damaged .scanMismatch) s).link
      ∧ (∀ j, nextUnchecked s (sc.region + 1) = some j →
          t.save.scan = some ⟨j, 0, 0⟩ ∧ scanUnderWay (entryAt s j).base t ∧ t.supply = s.supply)
      ∧ (nextUnchecked s (sc.region + 1) = none → t.save.scan = none
          ∧ (s.supply.state = .warn → t.supply = { s.supply with waiting := true })
          ∧ (s.supply.state ≠ .warn → t.supply = { s.supply with phase := 7, waiting := false }))
      ∧ t.sram = s.sram := by
  have hhand : recordAt (handDays sc.region bytes (freeBus s)) = recordAt s := recordAt_congr (by simp)
  have hend := scanBlock_of_last (bytes := bytes) (s := freeBus s) hlast
  generalize hu : judgeRegion sc.region (addBlock sc.sum bytes) (handDays sc.region bytes (freeBus s)) = u at hend
  have hsupply : u.supply = s.supply := by rw [← hu]; simp
  have hdir : u.dir = s.dir := by rw [← hu]; simp
  have hentry : ∀ j, entryAt u j = entryAt s j := fun j => by rw [entryAt, entryAt, hdir]
  have hother : ∀ j, j ≠ sc.region → recordAt u j = recordAt s j := fun j hne => by
    rw [← hu, recordAt_judgeRegion_other hne, hhand]
  have hlink : u.link = (if checksEqual (addBlock sc.sum bytes) (recordAt s sc.region).check then s
      else notify (.regionState sc.region .damaged .scanMismatch) s).link := by
    rw [← hu, judgeRegion_link, hhand]
    split_ifs
    · simp
    · exact notify_link_congr (by simp) _
  have hnext : nextUnchecked u (sc.region + 1) = nextUnchecked s (sc.region + 1) :=
    nextUnchecked_congr hdir fun j hj => hother j (by omega)
  have hrecords : recordAt (settle (scanFrom (sc.region + 1) u)) = recordAt u :=
    recordAt_congr ((settle_records _).1.trans (scanFrom_records _ _))
  refine ⟨_, _, congrArg settle hend, rfl, ?_, fun j _ hne => ?_, ?_, fun j hj => ?_, fun hnone => ?_, ?_⟩
  · rw [hrecords, ← hu, recordAt_judgeRegion hregion, hhand]
  · rw [hrecords, hother j hne]
  · rw [settle_link, scanFrom_link, hlink]
    by_cases hcheck : checksEqual (addBlock sc.sum bytes) (recordAt s sc.region).check = true
    · simp [hcheck]
    · simp [hcheck]
  · obtain ⟨hat, hway, hkept⟩ := settle_scanFrom_of_some (hnext.trans hj)
    rw [hentry] at hway
    exact ⟨hat, hway, hkept.trans hsupply⟩
  · obtain ⟨hat, hpass⟩ := settle_scanFrom_of_none (hnext.trans hnone)
    rw [hsupply] at hpass
    refine ⟨hat, fun hwarn => hpass.trans (if_pos ?_), fun hwarn => hpass.trans (if_neg ?_)⟩
    · rw [inWarn_iff, hsupply, hwarn]
    · rw [inWarn_iff, hsupply]
      exact hwarn
  · rw [settle_sram, scanFrom_sram, ← hu]
    simp

/-! ## The opening of the link -/

theorem exec_linkOpen {s : State} (hoff : s.supply.state ≠ .off) (hwarn : s.supply.state ≠ .warn)
    (hphase : s.supply.phase = 5) : exec .linkOpen s
      = .next (settle (scanFrom 0 { s with supply := { s.supply with phase := 6, waiting := false } })) :=
  congrArg Host.Outcome.next (if_pos ⟨hphase, by simp [slotUp, hoff], by simp [inWarn, hwarn]⟩)

/-- Settles O58: the link opened, no opening elsewhere, and a scan step with a further block or with none. -/
theorem scanJudgesTheRegions : Obligations.ScanJudgesTheRegions := by
  refine ⟨fun s hoff hwarn hphase => ⟨fun r hr => ?_, fun hnone => ?_⟩, fun s h => ?_,
    fun bus a sum sc s hburst hscan hregion hsum => ?_⟩
  · obtain ⟨hat, hway, hkept⟩ := settle_scanFrom_of_some (i := 0) (r := r)
      (s := { s with supply := { s.supply with phase := 6, waiting := false } }) hr
    exact ⟨_, exec_linkOpen hoff hwarn hphase, hkept, hat, hway, by simp, by simp⟩
  · obtain ⟨hat, hpass⟩ := settle_scanFrom_of_none (i := 0)
      (s := { s with supply := { s.supply with phase := 6, waiting := false } }) hnone
    exact ⟨_, exec_linkOpen hoff hwarn hphase, hpass.trans (if_neg (by simp [inWarn, hwarn])), hat, by simp, by simp⟩
  · refine congrArg Host.Outcome.next (if_neg fun hopens => ?_)
    obtain ⟨hphase, hup, hwarn⟩ := hopens
    rcases h with h | h | h
    · simp [inWarn, h] at hwarn
    · simp [slotUp, h] at hup
    · exact h hphase
  · have hexec := exec_scanStep (bus := bus) hburst hscan
    subst hsum
    generalize burstBytes s.sram a 64 bus = bytes at hexec ⊢
    have hdays := (scanBlock_days sc bytes (freeBus s)).trans (handDays_days sc.region bytes (freeBus s))
    refine ⟨⟨_, hexec, ?_, fun hserved => ?_⟩, fun hmore => ⟨_, hexec, ?_⟩, fun hlast => ?_⟩
    · rw [settle_handed, hdays]
      rfl
    · have hfill : (settle (scanBlock sc bytes (freeBus s))).days = (scanBlock sc bytes (freeBus s)).days := by
        rw [settle_days_eq, fillClock_of_not_in_service (by rw [hdays]; exact hserved)]
      rw [hfill, hdays]
      rfl
    · rw [scanBlock_of_more (s := freeBus s) hmore]
      obtain ⟨hat, hway⟩ := settle_postScan ⟨sc.region, sc.block + 1, addBlock sc.sum bytes⟩
        (handDays sc.region bytes (freeBus s))
      have hentry : entryAt (handDays sc.region bytes (freeBus s)) sc.region = entryAt s sc.region := by
        rw [entryAt, entryAt, handDays_dir, freeBus_dir]
      rw [hentry] at hway
      refine ⟨hat, hway, (settle_records _).1.trans ?_, by simp, by simp, by simp⟩
      exact congrArg (·.kept.records) (handDays_save sc.region bytes (freeBus s))
    · obtain ⟨t, r, ht, hspec⟩ := lastBlock_spec (bytes := bytes) hregion hlast
      exact ⟨t, r, hexec.trans (congrArg Host.Outcome.next ht), hspec⟩

end Sys2Proof.Machine
end

section
/-! PROOF. The day block comes into service, and the part becomes ready (R118, R119, R173, R182). -/

namespace Sys2Proof.Machine

/-! ## The fill under settling (R50, R115) -/

/-- R44: a slot taken keeps its blocks. -/
theorem takeHead_clockBlocks (s : State) : (takeHead s).save.kept.clock.blocks = s.save.kept.clock.blocks := by
  unfold takeHead
  split
  · split_ifs
    · rename_i id _ _ _ _
      cases id
      · exact congrArg Slot.blocks (slotAt_startCopy_other .title false s)
      · exact (congrArg Slot.blocks (slotAt_startCopy_same .clock false s)).trans rfl
    · rfl
  · rfl

theorem settle_filledBlocks {s : State} {sel : Nat} (hdue : fillDue s = true) (hsel : daysRegion s = some sel) :
    (settle s).save.kept.clock.blocks = [⟨0, (dayBlockBytes s.days).map some⟩] := by
  rw [settle_save, takeHead_clockBlocks, fillClock_of_due hdue hsel, joinQueue_clock_eq]
  rfl

/-- R115: of the supply, the fill asks only that the slot domain runs and is not in WARN. -/
theorem fillClock_days_of_up {s t : State} (hdays : t.days = s.days)
    (hslot : t.save.kept.clock.state = s.save.kept.clock.state) (hdir : t.dir = s.dir)
    (ht : t.supply.state ≠ .warn ∧ t.supply.state ≠ .off) (hs : s.supply.state ≠ .warn ∧ s.supply.state ≠ .off) :
    (fillClock t).days = (fillClock s).days := by
  have hdue : fillDue t = fillDue s := by
    rw [Bool.eq_iff_iff, fillDue_iff, fillDue_iff, hdays, hslot]
    simp only [ht, hs, ne_eq, not_false_eq_true, and_self]
  rw [fillClock_days_eq, fillClock_days_eq, hdue, daysRegion_congr hdir, hdays]

theorem fillClock_days_keeps (s : State) : (fillClock s).days.inService = s.days.inService
    ∧ (fillClock s).days.turnSecond = s.days.turnSecond ∧ (fillClock s).days.counters = s.days.counters
    ∧ (fillClock s).days.behind = s.days.behind := by
  rw [fillClock_days_eq]
  split_ifs <;> exact ⟨rfl, rfl, rfl, rfl⟩

/-! ## The catch-up at start-up (R103, R118) -/

theorem caughtUp_inService (g : Int) (d : Days) : (caughtUp g d).inService = d.inService := by
  unfold caughtUp
  split
  · rfl
  · split_ifs <;> rfl

theorem catchUp_inService (s : State) : (catchUp s).days.inService = s.days.inService := by
  cases hserv : s.days.inService with
  | false => rw [catchUp_of_no_game_day (.inl hserv), hserv]
  | true =>
    cases hg : gameDay s with
    | none => rw [catchUp_of_no_game_day (.inr hg), hserv]
    | some g => rw [catchUp_days hserv hg, caughtUp_inService, hserv]

/-- R103: with no high day a catch-up counts nothing. -/
theorem catchUp_of_no_high_day {s : State} (hhigh : s.days.highDay = none) (hbehind : s.days.behind = false) :
    (catchUp s).days.counters = s.days.counters ∧ (catchUp s).days.behind = false
    ∧ (s.days.dirty = true → (catchUp s).days.dirty = true) := by
  by_cases hruns : s.days.inService = false ∨ gameDay s = none
  · rw [catchUp_of_no_game_day hruns]
    exact ⟨rfl, hbehind, id⟩
  · obtain ⟨hserv, hgame⟩ := not_or.mp hruns
    obtain ⟨g, hg⟩ := Option.ne_none_iff_exists'.mp hgame
    rw [catchUp_days (Bool.eq_true_of_not_eq_false hserv) hg, caughtUp_of_none hhigh]
    exact ⟨rfl, rfl, fun _ => rfl⟩

/-! ## The load (R118, R119) -/

theorem loadDays_of_no_region {s : State} (h : daysRegion s = none) : loadDays s = s := by rw [loadDays, h]

theorem loadDays_of_durable {s : State} {sel turn : Nat} {high : Option Int} {counters : Vector Counter 8}
    (hregion : daysRegion s = some sel) (hblock : durableBlock s sel = some (turn, high, counters)) :
    loadDays s = setDays (loadedDays s.days turn high counters) s := by
  simp only [loadDays, hregion, hblock]

theorem loadDays_of_rebuilt {s : State} {sel : Nat} (hregion : daysRegion s = some sel)
    (hblock : durableBlock s sel = none) :
    loadDays s = notify (.regionState sel (recordAt s sel).state .rebuilt) (setDays (rebuiltDays s.days) s) := by
  simp only [loadDays, hregion, hblock]

/-- R118, R173, R182: what follows the load, from the state that the start-up catch-up leaves. -/
theorem dayBlockLoad_spec {s d : State} {st : SupplyState} (hphase : s.supply.phase = 7)
    (hstart : s.supply.state = .start) (hst : st = if 3000 ≤ s.supply.vslot then .normal else .low)
    (hd : d = catchUp (loadDays s)) : ∃ t, exec .dayBlockLoad s = .next t
      ∧ t.supply = { s.supply with
          phase := 8, waiting := false, state := st, timers := timersFor st s.supply.vslot 8 }
      ∧ t.clock = s.clock ∧ t.sram = s.sram ∧ t.dir = s.dir ∧ t.save.kept.records = s.save.kept.records
      ∧ t.days = (fillClock d).days ∧ t.link = (notify (.supplyChange st) d).link
      ∧ (∀ i, daysRegion s = some i → d.days.inService = true → d.days.dirty = true →
          s.save.kept.clock.state = .free → t.save.kept.clock.blocks = [⟨0, (dayBlockBytes d.days).map some⟩]) := by
  have hsupply : d.supply = s.supply := by rw [hd]; simp
  have hsave : d.save = s.save := by rw [hd]; simp
  have hdir : d.dir = s.dir := by rw [hd]; simp
  have hclock : d.clock = s.clock := by rw [hd]; simp
  have hsram : d.sram = s.sram := by rw [hd]; simp
  have hstate : st ≠ .warn ∧ st ≠ .off := by rw [hst]; split_ifs <;> decide
  obtain ⟨u, hu⟩ : ∃ u, u = becomeReady d := ⟨_, rfl⟩
  have hready : u = changeSupply st { d with supply := { d.supply with phase := 8, waiting := false } } := by
    rw [hu, hst, becomeReady, hsupply]
  have husupply : u.supply = { s.supply with
      phase := 8, waiting := false, state := st, timers := timersFor st s.supply.vslot 8 } := by
    rw [hready, changeSupply_supply, hsupply]
  have hudays : u.days = d.days := by rw [hready, changeSupply_days]
  have hudir : u.dir = d.dir := by rw [hready, changeSupply_dir]
  have husave : u.save = d.save := by rw [hready, changeSupply_save]
  have huup : u.supply.state ≠ .warn ∧ u.supply.state ≠ .off := by rw [husupply]; exact hstate
  refine ⟨settle u, ?_, by rw [settle_supply, husupply], ?_, ?_, ?_, ?_, ?_, ?_, fun i hi hserv hdirty hfree => ?_⟩
  · rw [hu, hd]
    exact congrArg Host.Outcome.next (if_pos ⟨hphase, hstart⟩)
  · rw [settle_clock, hready, changeSupply_clock, ← hclock]
  · rw [settle_sram, hready, changeSupply_sram, ← hsram]
  · rw [settle_dir, hudir, hdir]
  · rw [(settle_records u).1, husave, hsave]
  · rw [settle_days_eq]
    exact fillClock_days_of_up hudays (by rw [husave]) hudir huup (by rw [hsupply, hstart]; decide)
  · rw [settle_link, hready, changeSupply_link]
    exact notify_link_congr (s := { d with supply := { d.supply with phase := 8, waiting := false } }) (t := d) rfl _
  · rw [← hudays] at hserv hdirty ⊢
    rw [← hsave, ← husave] at hfree
    obtain ⟨hwarn, hoff⟩ := huup
    exact settle_filledBlocks (fillDue_iff.mpr ⟨hserv, hdirty, hfree, hwarn, hoff⟩)
      ((daysRegion_congr (hudir.trans hdir)).trans hi)

/-- Settles O59: no DAYS region, a durable block loaded, and the working copy rebuilt. -/
theorem dayBlockLoadMakesReady : Obligations.DayBlockLoadMakesReady := by
  intro s st hphase hstart hst
  obtain ⟨t, hexec, hsupply, hclock, hsram, hdir, hrecords, hdays, hlink, hblocks⟩ :=
    dayBlockLoad_spec hphase hstart hst rfl
  refine ⟨t, hexec, hsupply, hclock, hsram, hdir, hrecords, fun hnone => ?_,
    fun i turn high cs bs d hregion hvalid hbytes hload hd => ?_, fun i d hregion hbad hd => ?_⟩
  · rw [loadDays_of_no_region hnone] at hdays hlink
    have hregion : daysRegion (catchUp s) = none := (daysRegion_congr (catchUp_dir s)).trans hnone
    exact ⟨hdays.trans (congrArg State.days (fillClock_of_no_region hregion)), hlink⟩
  · have hdurable : durableBlock s i = some (turn, high, cs) := by
      rw [durableBlock, if_pos hvalid, hbytes]
      exact hload
    have hcaught : catchUp (loadDays s) = d := (congrArg catchUp (loadDays_of_durable hregion hdurable)).trans hd.symm
    rw [hcaught] at hdays hlink hblocks
    have hserved : d.days.inService = true := by rw [hd, catchUp_inService]
    obtain ⟨hin, hturn, -, -⟩ := fillClock_days_keeps d
    refine ⟨hdays, ?_, ?_, fun hdirty hfree => hblocks i hregion hserved hdirty hfree, hlink⟩
    · rw [hdays, hin, hserved]
    · rw [hdays, hturn, hd, catchUp_turnSecond]
  · have hdurable : durableBlock s i = none := by
      rw [durableBlock]
      split_ifs with hvalid
      · exact hbad.resolve_left (not_not.mpr hvalid)
      · rfl
    have hcaught : catchUp (loadDays s) = d := (congrArg catchUp (loadDays_of_rebuilt hregion hdurable)).trans hd.symm
    rw [hcaught] at hdays hlink hblocks
    obtain ⟨r, hr⟩ : ∃ r, r = notify (.regionState i (recordAt s i).state .rebuilt) (setDays (rebuiltDays s.days) s) :=
      ⟨_, rfl⟩
    have hrdays : r.days = rebuiltDays s.days := by rw [hr, notify_days, setDays_days]
    have hdr : d = catchUp r := by rw [hd, hr]; rfl
    obtain ⟨hcounters, hbehind, hdirty⟩ := catchUp_of_no_high_day (s := r) (by rw [hrdays]; rfl) (by rw [hrdays]; rfl)
    have hserved : d.days.inService = true := by rw [hdr, catchUp_inService, hrdays]; rfl
    obtain ⟨hin, hturn, hkept, hnot⟩ := fillClock_days_keeps d
    refine ⟨hdays, ?_, ?_, ?_, ?_, hblocks i hregion hserved ?_, hlink⟩
    · rw [hdays, hin, hserved]
    · rw [hdays, hturn, hdr, catchUp_turnSecond, hrdays]
      rfl
    · rw [hdays, hkept, hdr, hcounters, hrdays]
      rfl
    · rw [hdays, hnot, hdr, hbehind]
    · rw [hdr]
      exact hdirty (by rw [hrdays]; rfl)

end Sys2Proof.Machine
end

end
